-- ==== Sys2Proof/Word.lean ====
section
/-! DEFINITION. Word.lean: the plain widths of BJX1 (rules R9, R10, R16 of spec/00_scope.md). -/
namespace Sys2Proof

/-- One byte of memory. -/
abbrev Byte := BitVec 8
/-- One instruction word (rule R180). -/
abbrev IWord := BitVec 16
/-- One nibble of an instruction word (rule R9). -/
abbrev Nib := BitVec 4
/-- A four-bit register number (rule R192). -/
abbrev Reg := BitVec 4
/-- The three-bit number of an other-bank register (rules R53, R192). -/
abbrev BankReg := BitVec 3
/-- A register cell, an address or a quad word: 64 bits (rules R50, R51). -/
abbrev Quad := BitVec 64
/-- A half register, an FPU cell or a dword: 32 bits. -/
abbrev Dword := BitVec 32

end Sys2Proof
end

