-- ==== Sys2Proof/Machine/Flags.lean ====
section
/-! DEFINITION. Machine/Flags.lean: the arithmetic, comparisons and shifts of the integer instructions, at any
width `w` (spec/41_arithmetic.md, spec/42_logic_shift.md), with the flag each computes. -/
namespace Sys2Proof.Machine

/-- Sum modulo `2^w` (rule R351). -/
def aluAdd (w : Nat) (a b : BitVec w) : BitVec w := a + b

/-- Difference modulo `2^w` (rule R355). -/
def aluSub (w : Nat) (a b : BitVec w) : BitVec w := a - b

/-- Low half of the product (rules R746, R917). -/
def aluMul (w : Nat) (a b : BitVec w) : BitVec w := a * b

/-- Bitwise and (rule R421). -/
def aluAnd (w : Nat) (a b : BitVec w) : BitVec w := a &&& b

/-- Bitwise or (rule R424). -/
def aluOr (w : Nat) (a b : BitVec w) : BitVec w := a ||| b

/-- Bitwise exclusive or (rule R427). -/
def aluXor (w : Nat) (a b : BitVec w) : BitVec w := a ^^^ b

/-- The second operand (rule R255). -/
def aluMov (w : Nat) (_a b : BitVec w) : BitVec w := b

/-- Bitwise complement of the second operand (rule R433). -/
def aluNot (w : Nat) (_a b : BitVec w) : BitVec w := ~~~b

/-- Negation of the second operand (rule R358). -/
def aluNeg (w : Nat) (_a b : BitVec w) : BitVec w := 0 - b

/-- Addition with carry: exact sum, its residue and whether it reaches `2^w` (rule R353). -/
def aluAddc (w : Nat) (a b : BitVec w) (t : Bool) : BitVec w × Bool :=
  let s := a.toNat + b.toNat + t.toNat
  (BitVec.ofNat w s, decide (2 ^ w ≤ s))

/-- Subtraction with borrow: exact difference, its residue and whether it is negative (rule R356). -/
def aluSubc (w : Nat) (a b : BitVec w) (t : Bool) : BitVec w × Bool :=
  let d : Int := (a.toNat : Int) - b.toNat - t.toNat
  (BitVec.ofInt w d, decide (d < 0))

/-- Negation with borrow (rule R359). -/
def aluNegc (w : Nat) (b : BitVec w) (t : Bool) : BitVec w × Bool := aluSubc w 0 b t

/-- Whether an exact signed result leaves the `w`-bit signed range (rules R354, R357). -/
def overflows (w : Nat) (x : Int) : Bool := decide (x < -(2 ^ (w - 1)) ∨ 2 ^ (w - 1) ≤ x)

/-- Addition with signed overflow (rule R354). -/
def aluAddv (w : Nat) (a b : BitVec w) (_t : Bool) : BitVec w × Bool :=
  (BitVec.ofInt w (a.toInt + b.toInt), overflows w (a.toInt + b.toInt))

/-- Subtraction with signed overflow (rule R357). -/
def aluSubv (w : Nat) (a b : BitVec w) (_t : Bool) : BitVec w × Bool :=
  (BitVec.ofInt w (a.toInt - b.toInt), overflows w (a.toInt - b.toInt))

/-- Equality (rule R360). -/
def cmpEq (w : Nat) (a b : BitVec w) : Bool := a == b

/-- Unsigned greater or equal (rule R361). -/
def cmpHs (w : Nat) (a b : BitVec w) : Bool := decide (b.toNat ≤ a.toNat)

/-- Signed greater or equal (rule R362). -/
def cmpGe (w : Nat) (a b : BitVec w) : Bool := decide (b.toInt ≤ a.toInt)

/-- Unsigned greater (rule R363). -/
def cmpHi (w : Nat) (a b : BitVec w) : Bool := decide (b.toNat < a.toNat)

/-- Signed greater (rule R364). -/
def cmpGt (w : Nat) (a b : BitVec w) : Bool := decide (b.toInt < a.toInt)

/-- Whether the two operands share no set bit (rule R430). -/
def cmpTst (w : Nat) (a b : BitVec w) : Bool := a &&& b == 0

/-- Whether some byte of the two dwords is equal (rule R367). -/
def cmpStr (a b : Dword) : Bool :=
  let x := a ^^^ b
  x.extractLsb' 24 8 == 0 || x.extractLsb' 16 8 == 0 || x.extractLsb' 8 8 == 0 || x.extractLsb' 0 8 == 0

/-- Arithmetic shift by a signed count (rules R460, R461): left by `c mod w` for `c ≥ 0`, else right by
`w - c mod w`, which is all sign bits when `c mod w = 0`. -/
def shiftArith (w : Nat) (x : BitVec w) (c : Int) : BitVec w :=
  let k := (c % (w : Int)).toNat
  if 0 ≤ c then x <<< k else x.sshiftRight (w - k)

/-- Logical shift by a signed count (rules R460, R462): as `shiftArith` with zeros shifted in, so 0 when `c` is
negative and `c mod w = 0`. -/
def shiftLogic (w : Nat) (x : BitVec w) (c : Int) : BitVec w :=
  let k := (c % (w : Int)).toNat
  if 0 ≤ c then x <<< k else x >>> (w - k)

/-- SHAD with the count in a register (rule R461). -/
def aluShad (w : Nat) (a b : BitVec w) : BitVec w := shiftArith w a b.toInt

/-- SHLD with the count in a register (rule R462). -/
def aluShld (w : Nat) (a b : BitVec w) : BitVec w := shiftLogic w a b.toInt

/-- The three-address SHLL: left by the low bits of the count (rule R921). -/
def aluShll (w : Nat) (a b : BitVec w) : BitVec w := a <<< (b.toNat % w)

/-- The three-address SHLR for a count that is not negative (rule R924). -/
def aluShlr (w : Nat) (a b : BitVec w) : BitVec w :=
  if b.toInt = 0 then a else shiftLogic w a (-b.toInt)

/-- The three-address SHAR for a count that is not negative (rule R927). -/
def aluShar (w : Nat) (a b : BitVec w) : BitVec w :=
  if b.toInt = 0 then a else shiftArith w a (-b.toInt)

/-- One place left, the bit shifted out (rules R463, R464). -/
def aluShl1 (w : Nat) (x : BitVec w) (_t : Bool) : BitVec w × Bool := (x <<< 1, x.getLsbD (w - 1))

/-- One place right, zero shifted in, the bit shifted out (rule R465). -/
def aluShr1 (w : Nat) (x : BitVec w) (_t : Bool) : BitVec w × Bool := (x >>> 1, x.getLsbD 0)

/-- One place right, sign kept, the bit shifted out (rule R466). -/
def aluSar1 (w : Nat) (x : BitVec w) (_t : Bool) : BitVec w × Bool := (x.sshiftRight 1, x.getLsbD 0)

/-- One place left, the given bit shifted in, the bit shifted out. -/
def shiftInLow (w : Nat) (x : BitVec w) (b : Bool) : BitVec w × Bool :=
  ((x <<< 1) ||| (BitVec.ofBool b).setWidth w, x.getLsbD (w - 1))

/-- One place right, the given bit shifted in at the top, the bit shifted out. -/
def shiftInHigh (w : Nat) (x : BitVec w) (b : Bool) : BitVec w × Bool :=
  ((x >>> 1) ||| ((BitVec.ofBool b).setWidth w <<< (w - 1)), x.getLsbD 0)

/-- Rotate left (rule R467). -/
def aluRotl (w : Nat) (x : BitVec w) (_t : Bool) : BitVec w × Bool := shiftInLow w x (x.getLsbD (w - 1))

/-- Rotate right (rule R468). -/
def aluRotr (w : Nat) (x : BitVec w) (_t : Bool) : BitVec w × Bool := shiftInHigh w x (x.getLsbD 0)

/-- Rotate left through T (rule R469). -/
def aluRotcl (w : Nat) (x : BitVec w) (t : Bool) : BitVec w × Bool := shiftInLow w x t

/-- Rotate right through T (rule R470). -/
def aluRotcr (w : Nat) (x : BitVec w) (t : Bool) : BitVec w × Bool := shiftInHigh w x t

/-- Decrement and test (rule R369). -/
def aluDt (w : Nat) (x : BitVec w) (_t : Bool) : BitVec w × Bool := (x - 1, x - 1 == 0)

/-- Shift left by a fixed count (rules R471 to R473, R477). -/
def aluShlBy (k w : Nat) (x : BitVec w) : BitVec w := x <<< k

/-- Logical shift right by a fixed count (rules R474 to R476, R478). -/
def aluShrBy (k w : Nat) (x : BitVec w) : BitVec w := x >>> k

/-- Arithmetic shift right by a fixed count (rules R928, R929). -/
def aluSarBy (k w : Nat) (x : BitVec w) : BitVec w := x.sshiftRight k

/-- One division step (rule R388): dividend, divisor, Q, M, T to result, new Q, new T. -/
def div1Step (rn rm : Dword) (q m t : Bool) : Dword × Bool × Bool :=
  let msb := rn.getLsbD 31
  let r : Dword := (rn <<< 1) ||| (BitVec.ofBool t).setWidth 32
  let r2 : Dword := if q = m then r - rm else r + rm
  let c : Bool := if q = m then decide (r.toNat < rm.toNat) else decide (2 ^ 32 ≤ r.toNat + rm.toNat)
  let q' := msb ^^ c ^^ m
  (r2, q', q' == m)

/-- The exact signed sum of MAC.L reduced as S says: modulo `2^64`, or clamped to 48 bits (rule R398). -/
def macLong (sat : Bool) (acc p : Int) : Quad :=
  let s := acc + p
  if sat then
    if s < -(2 ^ 47) then BitVec.ofInt 64 (-(2 ^ 47))
    else if 2 ^ 47 ≤ s then BitVec.ofInt 64 (2 ^ 47 - 1)
    else BitVec.ofInt 64 s
  else BitVec.ofInt 64 s

/-- MAC.W on MACH and MACL, low halves, as S says (rule R399). -/
def macWord (sat : Bool) (mach macl : Dword) (p : Int) : Dword × Dword :=
  if sat then
    let s := macl.toInt + p
    if 2 ^ 31 ≤ s then (mach ||| 1, 0x7FFFFFFF)
    else if s < -(2 ^ 31) then (mach ||| 1, 0x80000000)
    else (mach, BitVec.ofInt 32 s)
  else
    let s := BitVec.ofInt 64 ((mach ++ macl : Quad).toInt + p)
    (s.extractLsb' 32 32, s.extractLsb' 0 32)

end Sys2Proof.Machine
end

