-- ==== Sys2Proof/Config.lean ====
section
/-! DEFINITION. Config.lean: the implementation parameters of rule R8 as plain data, and the values that the
spec leaves open as constants without a body. -/
namespace Sys2Proof

/-- The two kinds of core (rule R2). -/
inductive Variant where
  | bjx1_32 | bjx1_64
  deriving DecidableEq, Repr, Inhabited

/-- Byte order of the core (rule R132). -/
inductive Endian where
  | little | big
  deriving DecidableEq, Repr, Inhabited

/-- `HAS_FPU` (rule R640). -/
inductive FpuKind where
  | absent | basic
  deriving DecidableEq, Repr, Inhabited

/-- `ADDR_MODE` of a BJX1-32 core (rule R140). A BJX1-64 core derives its map from JQ. -/
inductive AddrMode32 where
  | legacy29 | bjx32
  deriving DecidableEq, Repr, Inhabited

/-- `NOSUFFIX_HI` (rule R57). -/
inductive NoSuffixHi where
  | any | preserve | extend
  deriving DecidableEq, Repr, Inhabited

/-- Whether a parameter that the spec leaves OPEN with a suggestion takes the suggestion, or is left open
(then the constants without a body below stand for it). -/
inductive Choice where
  | suggested | opened
  deriving DecidableEq, Repr, Inhabited

/-- The kinds of trap of the table of rule R971. -/
inductive TrapKind where
  | reset | addressErrorRead | addressErrorWrite | illegalInstruction | slotIllegalInstruction
  | fpuDisable | slotFpuDisable | tlbMiss | tlbProtection | trapa | breakpoint | interrupt | nmi
  deriving DecidableEq, Repr, Inhabited

/-- The three kinds of access that `Translate` tells apart (rule R151). -/
inductive Access where
  | read | write | fetch
  deriving DecidableEq, Repr, Inhabited

/-- What `Translate` answers (rules R151, R977). -/
inductive Translation where
  | physical (p : Quad) | miss | protection
  deriving DecidableEq, Repr, Inhabited

/-- The arithmetic operations of the `FP` record of rule R643 whose result is a float. -/
inductive FpOp where
  | add | sub | mul | div | sqrt | mac | widen | narrow | half
  deriving DecidableEq, Repr, Inhabited

/-- The parameters of the table of rule R8, as plain data. No step writes one. -/
structure Config where
  /-- `VARIANT` (D1). -/
  variant : Variant
  /-- `HAS_RH` on a BJX1-32 core. A BJX1-64 core has the high halves whatever this says (D45). -/
  hasRh : Bool
  /-- `ENDIAN` (D7). -/
  endian : Endian
  /-- `HAS_FPU` (D21). -/
  fpu : FpuKind
  /-- `ADDR_MODE` on a BJX1-32 core (D55). -/
  addrMode32 : AddrMode32
  /-- `RESET_PC` (D28). -/
  resetPc : Quad
  /-- `RESET_SR`, with SRH in the upper half (D28). -/
  resetSr : Quad
  /-- `RESET_VBR` (D28). -/
  resetVbr : Quad
  /-- `RESET_FPSCR` (D28). -/
  resetFpscr : Dword
  /-- `VEC_GENERAL` (D11). -/
  vecGeneral : Quad
  /-- `VEC_TLB` (D11). -/
  vecTlb : Quad
  /-- `VEC_INTR` (D11). -/
  vecIntr : Quad
  /-- `CAUSE(kind)` (D11). -/
  cause : Choice
  /-- `Translate` (D26). -/
  translate : Choice
  /-- `FP` (D21). -/
  fp : Choice
  /-- `HAS_XPFZ0` (D40). -/
  hasXpfz0 : Bool
  /-- `HAS_FMOVD_DISP` (D14). -/
  hasFmovdDisp : Bool
  /-- `HAS_MISC32` (D14). -/
  hasMisc32 : Bool
  /-- `TACB_IMM_SIGNED` (D34). -/
  tacbImmSigned : Bool
  /-- `NOSUFFIX_HI` (D5). -/
  noSuffixHi : NoSuffixHi
  /-- `ICACHE_COHERENT` (D24). -/
  icacheCoherent : Bool
  /-- `MODE_OPS_PRIVILEGED` (D38). -/
  modeOpsPrivileged : Bool
  deriving DecidableEq, Repr

/-- The defaults of rule R8 and the suggestions of rule R120, on a little-endian BJX1-64 core with the
Basic FPU. DESIGN CHOICE (unsafe, logs 1, 3, 4, 25): the variant, the byte order, `RESET_PC`, the cleared
bits T, S, Q and M. -/
def Config.default : Config where
  variant := .bjx1_64
  hasRh := true
  endian := .little
  fpu := .basic
  addrMode32 := .legacy29
  resetPc := 0
  resetSr := 0x80000000F00000F0
  resetVbr := 0
  resetFpscr := 0x00040001
  vecGeneral := 0x100
  vecTlb := 0x400
  vecIntr := 0x600
  cause := .suggested
  translate := .suggested
  fp := .suggested
  hasXpfz0 := false
  hasFmovdDisp := false
  hasMisc32 := false
  tacbImmSigned := false
  noSuffixHi := .any
  icacheCoherent := false
  modeOpsPrivileged := false

/-- A BJX1-32 core: the same defaults with `ADDR_MODE` legacy29, no high halves and the SH-4 reset vector that
rule R1030 names. PRESUMED (unsafe, log 3): the reset vector is SH-4's. -/
def Config.default32 : Config :=
  { Config.default with variant := .bjx1_32, hasRh := false, resetPc := 0xA0000000, resetSr := 0x700000F0 }

/-! ### Values the spec leaves open: no body, so nothing can be proved of them. -/

/-- The free values of rules R57 (`any`), R924 and R927, numbered by `State.freeCount`. -/
opaque Config.freeValue : Nat → Quad

/-- Whether a fetch of a stale word returns the old bytes (rule R136), numbered by `State.freeCount`. -/
opaque Config.staleOld : Nat → Bool

/-- Which further addresses an `ICBI` removes from STALE (rule R594): draw, operand, candidate. -/
opaque Config.icbiReach : Nat → Quad → Nat → Bool

/-- `Translate` when it is left open (rule R151): logical address, access kind, supervisor. -/
opaque Config.openTranslate : Quad → Access → Bool → Translation

/-- `CAUSE` when it is left open (rule R971): kind, whether the access was a write, interrupt level. -/
opaque Config.openCause : TrapKind → Bool → Quad → Dword

/-- The bits of a NaN result (rule R643 fixes no NaN pattern): operation, double, operands. -/
opaque Config.nanPattern : FpOp → Bool → Quad → Quad → Quad → Quad

/-- `FP.add`, `FP.sub`, `FP.mul`, `FP.div` left open (rule R643): operation, double, rm, dn, operands. -/
opaque Config.openFpBinary : FpOp → Bool → BitVec 2 → Bool → Quad → Quad → Quad

/-- `FP.sqrt` left open: double, rm, dn, operand. -/
opaque Config.openFpSqrt : Bool → BitVec 2 → Bool → Quad → Quad

/-- `FP.mac` left open: double, rm, dn, operands. -/
opaque Config.openFpMac : Bool → BitVec 2 → Bool → Quad → Quad → Quad → Quad

/-- `FP.eq` left open: double, dn, operands. -/
opaque Config.openFpEq : Bool → Bool → Quad → Quad → Bool

/-- `FP.gt` left open: double, dn, operands. -/
opaque Config.openFpGt : Bool → Bool → Quad → Quad → Bool

/-- `FP.from_i32` left open: double, rm, the integer. -/
opaque Config.openFpFromInt : Bool → BitVec 2 → Dword → Quad

/-- `FP.to_i32` left open: double, dn, operand. -/
opaque Config.openFpToInt : Bool → Bool → Quad → Dword

/-- `FP.widen` left open: dn, operand. -/
opaque Config.openFpWiden : Bool → Dword → Quad

/-- `FP.narrow` left open: rm, dn, operand. -/
opaque Config.openFpNarrow : BitVec 2 → Bool → Quad → Dword

/-- `FP.half` left open. -/
opaque Config.openFpHalf : BitVec 16 → Dword

end Sys2Proof
end

