-- ==== Sys2Proof/Syntax.lean ====
section
/-! DEFINITION. Syntax.lean: one constructor per row of spec/opcode_table.json (rule R230).
Argument names follow the field letters of rule R10: `n`, `m`, `o`, `s`, `t` register nibbles, `b` a bank register,
`imm` and `disp` immediates and displacements assembled as rule R191 says (unextended), `v` the VV nibble or byte,
`q`, `nx`, `mx`, `bx`, `sx`, `tx` the prefix bits Q, N, M, B, S, T, `p` and `r` the undecoded bits of a reserved row. -/
namespace Sys2Proof

/-- The instructions: each constructor names its pattern, its mnemonic and the rule that gives its meaning. -/
inductive Instr where
  /-- `6nm3` MOV./Q Rm,Rn: R255. -/
  | movRmRn (n : BitVec 4) (m : BitVec 4)
  /-- `Enii` MOV./Q #imm,Rn: R256. -/
  | movImmRn (n : BitVec 4) (imm : BitVec 8)
  /-- `2nm0` MOV.B Rm,@Rn: R257. -/
  | movBRmAtRn (n : BitVec 4) (m : BitVec 4)
  /-- `2nm1` MOV.W/Q Rm,@Rn: R258. -/
  | movWQRmAtRn (n : BitVec 4) (m : BitVec 4)
  /-- `2nm2` MOV.L Rm,@Rn: R259. -/
  | movLRmAtRn (n : BitVec 4) (m : BitVec 4)
  /-- `6nm0` MOV.B @Rm,Rn: R260. -/
  | movBAtRmRn (n : BitVec 4) (m : BitVec 4)
  /-- `6nm1` MOV.W/Q @Rm,Rn: R261. -/
  | movWQAtRmRn (n : BitVec 4) (m : BitVec 4)
  /-- `6nm2` MOV.L @Rm,Rn: R262. -/
  | movLAtRmRn (n : BitVec 4) (m : BitVec 4)
  /-- `2nm4` MOV.B Rm,@-Rn: R263. -/
  | movBRmAtDecRn (n : BitVec 4) (m : BitVec 4)
  /-- `2nm5` MOV.W/Q Rm,@-Rn: R264. -/
  | movWQRmAtDecRn (n : BitVec 4) (m : BitVec 4)
  /-- `2nm6` MOV.L Rm,@-Rn: R265. -/
  | movLRmAtDecRn (n : BitVec 4) (m : BitVec 4)
  /-- `6nm4` MOV.B @Rm+,Rn: R266. -/
  | movBAtRmIncRn (n : BitVec 4) (m : BitVec 4)
  /-- `6nm5` MOV.W/Q @Rm+,Rn: R267. -/
  | movWQAtRmIncRn (n : BitVec 4) (m : BitVec 4)
  /-- `6nm6` MOV.L @Rm+,Rn: R268. -/
  | movLAtRmIncRn (n : BitVec 4) (m : BitVec 4)
  /-- `0nm4` MOV.B Rm,@(R0,Rn): R269. -/
  | movBRmAtR0Rn (n : BitVec 4) (m : BitVec 4)
  /-- `0nm5` MOV.W/Q Rm,@(R0,Rn): R270. -/
  | movWQRmAtR0Rn (n : BitVec 4) (m : BitVec 4)
  /-- `0nm6` MOV.L Rm,@(R0,Rn): R271. -/
  | movLRmAtR0Rn (n : BitVec 4) (m : BitVec 4)
  /-- `0nmC` MOV.B @(R0,Rm),Rn: R272. -/
  | movBAtR0RmRn (n : BitVec 4) (m : BitVec 4)
  /-- `0nmD` MOV.W/Q @(R0,Rm),Rn: R273. -/
  | movWQAtR0RmRn (n : BitVec 4) (m : BitVec 4)
  /-- `0nmE` MOV.L @(R0,Rm),Rn: R274. -/
  | movLAtR0RmRn (n : BitVec 4) (m : BitVec 4)
  /-- `1nmd` MOV.L Rm,@(Rn,disp): R275. -/
  | movLRmAtRnDisp (n : BitVec 4) (m : BitVec 4) (disp : BitVec 4)
  /-- `5nmd` MOV.L @(Rm,disp),Rn: R276. -/
  | movLAtRmDispRn (n : BitVec 4) (m : BitVec 4) (disp : BitVec 4)
  /-- `80nd` MOV.B R0,@(Rn,disp): R277. -/
  | movBR0AtRnDisp (n : BitVec 4) (disp : BitVec 4)
  /-- `81nd` MOV.W/Q R0,@(Rn,disp): R278. -/
  | movWQR0AtRnDisp (n : BitVec 4) (disp : BitVec 4)
  /-- `84md` MOV.B @(Rm,disp),R0: R279. -/
  | movBAtRmDispR0 (m : BitVec 4) (disp : BitVec 4)
  /-- `85md` MOV.W/Q @(Rm,disp),R0: R280. -/
  | movWQAtRmDispR0 (m : BitVec 4) (disp : BitVec 4)
  /-- `9ndd` MOV.W/Q @(PC,disp),Rn: R281. -/
  | movWQAtPcDispRn (n : BitVec 4) (disp : BitVec 8)
  /-- `Dndd` MOV.L @(PC,disp),Rn: R282. -/
  | movLAtPcDispRn (n : BitVec 4) (disp : BitVec 8)
  /-- `C7dd` MOVA @(PC,disp),R0: R283. -/
  | movaAtPcDispR0 (disp : BitVec 8)
  /-- `C0dd` MOV.B R0,@(GBR,disp): R284. -/
  | movBR0AtGbrDisp (disp : BitVec 8)
  /-- `C1dd` MOV.W/Q R0,@(GBR,disp): R285. -/
  | movWQR0AtGbrDisp (disp : BitVec 8)
  /-- `C2dd` MOV.L R0,@(GBR,disp): R286. -/
  | movLR0AtGbrDisp (disp : BitVec 8)
  /-- `C4dd` MOV.B @(GBR,disp),R0: R287. -/
  | movBAtGbrDispR0 (disp : BitVec 8)
  /-- `C5dd` MOV.W/Q @(GBR,disp),R0: R288. -/
  | movWQAtGbrDispR0 (disp : BitVec 8)
  /-- `C6dd` MOV.L @(GBR,disp),R0: R289. -/
  | movLAtGbrDispR0 (disp : BitVec 8)
  /-- `4n8B` MOV.B R0,@Rn+: R290. -/
  | movBR0AtRnInc (n : BitVec 4)
  /-- `4n9B` MOV.W/Q R0,@Rn+: R291. -/
  | movWQR0AtRnInc (n : BitVec 4)
  /-- `4nAB` MOV.L R0,@Rn+: R292. -/
  | movLR0AtRnInc (n : BitVec 4)
  /-- `4mCB` MOV.B @-Rm,R0: R293. -/
  | movBAtDecRmR0 (m : BitVec 4)
  /-- `4mDB` MOV.W/Q @-Rm,R0: R294. -/
  | movWQAtDecRmR0 (m : BitVec 4)
  /-- `4mEB` MOV.L @-Rm,R0: R295. -/
  | movLAtDecRmR0 (m : BitVec 4)
  /-- `4m48` PUSH.L/Q Rm: R296. -/
  | pushLQRm (m : BitVec 4)
  /-- `4n58` POP.L/Q Rn: R297. -/
  | popLQRn (n : BitVec 4)
  /-- `4n64` MOV.Q/W @R0,Rn: R298. -/
  | movQWAtR0Rn (n : BitVec 4)
  /-- `4m74` MOV.Q/W Rm,@R0: R299. -/
  | movQWRmAtR0 (m : BitVec 4)
  /-- `4mA9` MOVUA.L @Rm,R0: R300. -/
  | movuaLAtRmR0 (m : BitVec 4)
  /-- `4mE9` MOVUA.L @Rm+,R0: R301. -/
  | movuaLAtRmIncR0 (m : BitVec 4)
  /-- `0mA9` MOVUA.L R0,@Rm: R302. -/
  | movuaLR0AtRm (m : BitVec 4)
  /-- `0mE9` MOVUA.L R0,@-Rm: R303. -/
  | movuaLR0AtDecRm (m : BitVec 4)
  /-- `0n29` MOVT Rn: R304. -/
  | movtRn (n : BitVec 4)
  /-- `0n39` MOVRT Rn: R305. -/
  | movrtRn (n : BitVec 4)
  /-- `6nm8` SWAP.B Rm,Rn: R306. -/
  | swapBRmRn (n : BitVec 4) (m : BitVec 4)
  /-- `6nm9` SWAP.W Rm,Rn: R307. -/
  | swapWRmRn (n : BitVec 4) (m : BitVec 4)
  /-- `2nmD` XTRCT Rm,Rn: R308. -/
  | xtrctRmRn (n : BitVec 4) (m : BitVec 4)
  /-- `4n65` MOV.L @PC+,Rn: R309. -/
  | movLAtPcIncRn (n : BitVec 4)
  /-- `4n75` MOV.Q @PC+,Rn: R310. -/
  | movQAtPcIncRn (n : BitVec 4)
  /-- `3nmC` ADD./Q Rm,Rn: R351. -/
  | addRmRn (n : BitVec 4) (m : BitVec 4)
  /-- `7nii` ADD./Q #imm,Rn: R352. -/
  | addImmRn (n : BitVec 4) (imm : BitVec 8)
  /-- `3nmE` ADDC./Q Rm,Rn: R353. -/
  | addcRmRn (n : BitVec 4) (m : BitVec 4)
  /-- `3nmF` ADDV./Q Rm,Rn: R354. -/
  | addvRmRn (n : BitVec 4) (m : BitVec 4)
  /-- `3nm8` SUB./Q Rm,Rn: R355. -/
  | subRmRn (n : BitVec 4) (m : BitVec 4)
  /-- `3nmA` SUBC./Q Rm,Rn: R356. -/
  | subcRmRn (n : BitVec 4) (m : BitVec 4)
  /-- `3nmB` SUBV./Q Rm,Rn: R357. -/
  | subvRmRn (n : BitVec 4) (m : BitVec 4)
  /-- `6nmB` NEG./Q Rm,Rn: R358. -/
  | negRmRn (n : BitVec 4) (m : BitVec 4)
  /-- `6nmA` NEGC./Q Rm,Rn: R359. -/
  | negcRmRn (n : BitVec 4) (m : BitVec 4)
  /-- `3nm0` CMPEQ./Q Rm,Rn: R360. -/
  | cmpeqRmRn (n : BitVec 4) (m : BitVec 4)
  /-- `3nm2` CMPHS./Q Rm,Rn: R361. -/
  | cmphsRmRn (n : BitVec 4) (m : BitVec 4)
  /-- `3nm3` CMPGE./Q Rm,Rn: R362. -/
  | cmpgeRmRn (n : BitVec 4) (m : BitVec 4)
  /-- `3nm6` CMPHI./Q Rm,Rn: R363. -/
  | cmphiRmRn (n : BitVec 4) (m : BitVec 4)
  /-- `3nm7` CMPGT./Q Rm,Rn: R364. -/
  | cmpgtRmRn (n : BitVec 4) (m : BitVec 4)
  /-- `4n11` CMPPZ./Q Rn: R365. -/
  | cmppzRn (n : BitVec 4)
  /-- `4n15` CMPPL./Q Rn: R366. -/
  | cmpplRn (n : BitVec 4)
  /-- `2nmC` CMPSTR Rm,Rn: R367. -/
  | cmpstrRmRn (n : BitVec 4) (m : BitVec 4)
  /-- `88ii` CMPEQ./Q #imm,R0: R368. -/
  | cmpeqImmR0 (imm : BitVec 8)
  /-- `4n10` DT./Q Rn: R369. -/
  | dtRn (n : BitVec 4)
  /-- `6nmE` EXTS.B Rm,Rn: R370. -/
  | extsBRmRn (n : BitVec 4) (m : BitVec 4)
  /-- `6nmF` EXTS.W Rm,Rn: R371. -/
  | extsWRmRn (n : BitVec 4) (m : BitVec 4)
  /-- `6nmC` EXTU.B Rm,Rn: R372. -/
  | extuBRmRn (n : BitVec 4) (m : BitVec 4)
  /-- `6nmD` EXTU.W Rm,Rn: R373. -/
  | extuWRmRn (n : BitVec 4) (m : BitVec 4)
  /-- `0nm7` MUL.L Rm,Rn: R380. -/
  | mulLRmRn (n : BitVec 4) (m : BitVec 4)
  /-- `2nmE` MULU.W/Q Rm,Rn: R381. -/
  | muluWQRmRn (n : BitVec 4) (m : BitVec 4)
  /-- `2nmF` MULS.W/Q Rm,Rn: R382. -/
  | mulsWQRmRn (n : BitVec 4) (m : BitVec 4)
  /-- `3nm5` DMULU.L Rm,Rn: R383. -/
  | dmuluLRmRn (n : BitVec 4) (m : BitVec 4)
  /-- `3nmD` DMULS.L Rm,Rn: R384. -/
  | dmulsLRmRn (n : BitVec 4) (m : BitVec 4)
  /-- `2nm7` DIV0S Rm,Rn: R386. -/
  | div0sRmRn (n : BitVec 4) (m : BitVec 4)
  /-- `0019` DIV0U: R387. -/
  | div0u
  /-- `3nm4` DIV1 Rm,Rn: R388. -/
  | div1RmRn (n : BitVec 4) (m : BitVec 4)
  /-- `4n84` DIVU R0,Rn: R389. -/
  | divuR0Rn (n : BitVec 4)
  /-- `4n94` DIVS R0,Rn: R390. -/
  | divsR0Rn (n : BitVec 4)
  /-- `0nmF` MAC.L @Rm+,@Rn+: R398. -/
  | macLAtRmIncAtRnInc (n : BitVec 4) (m : BitVec 4)
  /-- `4nmF` MAC.W/Q @Rm+,@Rn+: R399. -/
  | macWQAtRmIncAtRnInc (n : BitVec 4) (m : BitVec 4)
  /-- `2nm9` AND./Q Rm,Rn: R421. -/
  | andRmRn (n : BitVec 4) (m : BitVec 4)
  /-- `C9jj` AND./Q #imm,R0: R422. -/
  | andImmR0 (imm : BitVec 8)
  /-- `CDjj` AND.B #imm,@(GBR,R0): R423. -/
  | andBImmAtGbrR0 (imm : BitVec 8)
  /-- `2nmB` OR./Q Rm,Rn: R424. -/
  | orRmRn (n : BitVec 4) (m : BitVec 4)
  /-- `CBjj` OR./Q #imm,R0: R425. -/
  | orImmR0 (imm : BitVec 8)
  /-- `CFjj` OR.B #imm,@(GBR,R0): R426. -/
  | orBImmAtGbrR0 (imm : BitVec 8)
  /-- `2nmA` XOR./Q Rm,Rn: R427. -/
  | xorRmRn (n : BitVec 4) (m : BitVec 4)
  /-- `CAjj` XOR./Q #imm,R0: R428. -/
  | xorImmR0 (imm : BitVec 8)
  /-- `CEjj` XOR.B #imm,@(GBR,R0): R429. -/
  | xorBImmAtGbrR0 (imm : BitVec 8)
  /-- `2nm8` TST./Q Rm,Rn: R430. -/
  | tstRmRn (n : BitVec 4) (m : BitVec 4)
  /-- `C8jj` TST./Q #imm,R0: R431. -/
  | tstImmR0 (imm : BitVec 8)
  /-- `CCjj` TST.B #imm,@(GBR,R0): R432. -/
  | tstBImmAtGbrR0 (imm : BitVec 8)
  /-- `6nm7` NOT./Q Rm,Rn: R433. -/
  | notRmRn (n : BitVec 4) (m : BitVec 4)
  /-- `4n1B` TAS.B @Rn: R452. -/
  | tasBAtRn (n : BitVec 4)
  /-- `4nmC` SHAD./Q Rm,Rn: R461. -/
  | shadRmRn (n : BitVec 4) (m : BitVec 4)
  /-- `4nmD` SHLD./Q Rm,Rn: R462. -/
  | shldRmRn (n : BitVec 4) (m : BitVec 4)
  /-- `4n00` SHLL./Q Rn: R463. -/
  | shllRn (n : BitVec 4)
  /-- `4n20` SHAL./Q Rn: R464. -/
  | shalRn (n : BitVec 4)
  /-- `4n01` SHLR./Q Rn: R465. -/
  | shlrRn (n : BitVec 4)
  /-- `4n21` SHAR./Q Rn: R466. -/
  | sharRn (n : BitVec 4)
  /-- `4n04` ROTL./Q Rn: R467. -/
  | rotlRn (n : BitVec 4)
  /-- `4n05` ROTR./Q Rn: R468. -/
  | rotrRn (n : BitVec 4)
  /-- `4n24` ROTCL./Q Rn: R469. -/
  | rotclRn (n : BitVec 4)
  /-- `4n25` ROTCR./Q Rn: R470. -/
  | rotcrRn (n : BitVec 4)
  /-- `4n08` SHLL2./Q Rn: R471. -/
  | shll2Rn (n : BitVec 4)
  /-- `4n18` SHLL8./Q Rn: R472. -/
  | shll8Rn (n : BitVec 4)
  /-- `4n28` SHLL16./Q Rn: R473. -/
  | shll16Rn (n : BitVec 4)
  /-- `4n09` SHLR2./Q Rn: R474. -/
  | shlr2Rn (n : BitVec 4)
  /-- `4n19` SHLR8./Q Rn: R475. -/
  | shlr8Rn (n : BitVec 4)
  /-- `4n29` SHLR16./Q Rn: R476. -/
  | shlr16Rn (n : BitVec 4)
  /-- `4n34` SHLL4 Rn: R477. -/
  | shll4Rn (n : BitVec 4)
  /-- `4n35` SHLR4 Rn: R478. -/
  | shlr4Rn (n : BitVec 4)
  /-- `4n38` SHLL32 Rn: R479. -/
  | shll32Rn (n : BitVec 4)
  /-- `4n39` SHLR32 Rn: R480. -/
  | shlr32Rn (n : BitVec 4)
  /-- `4n14` ROT32 Rn: R481. -/
  | rot32Rn (n : BitVec 4)
  /-- `4n45` MOVHI R0,RHn: R482. -/
  | movhiR0RHn (n : BitVec 4)
  /-- `4m55` MOVHI RHm,R0: R483. -/
  | movhiRHmR0 (m : BitVec 4)
  /-- `4n44` EXTU.L Rn: R484. -/
  | extuLRn (n : BitVec 4)
  /-- `4n54` EXTS.L Rn: R485. -/
  | extsLRn (n : BitVec 4)
  /-- `89dd` BT label: R510. -/
  | bt (disp : BitVec 8)
  /-- `8Bdd` BF label: R511. -/
  | bf (disp : BitVec 8)
  /-- `8Ddd` BTS label: R512. -/
  | bts (disp : BitVec 8)
  /-- `8Fdd` BFS label: R513. -/
  | bfs (disp : BitVec 8)
  /-- `Addd` BRA label: R514. -/
  | bra (disp : BitVec 12)
  /-- `Bddd` BSR label: R515. -/
  | bsr (disp : BitVec 12)
  /-- `0m23` BRAF Rm: R516. -/
  | brafRm (m : BitVec 4)
  /-- `0m03` BSRF Rm: R517. -/
  | bsrfRm (m : BitVec 4)
  /-- `4m2B` JMP @Rm: R518. -/
  | jmpAtRm (m : BitVec 4)
  /-- `4m0B` JSR @Rm: R519. -/
  | jsrAtRm (m : BitVec 4)
  /-- `000B` RTS: R520. -/
  | rts
  /-- `006B` RTS/N: R521. -/
  | rtsn
  /-- `0m7B` RTV/N Rm: R522. -/
  | rtvnRm (m : BitVec 4)
  /-- `4m4B` JSR/N Rm: R523. -/
  | jsrnRm (m : BitVec 4)
  /-- `0n02` STC./Q SR,Rn: R542. -/
  | stcSrRn (n : BitVec 4)
  /-- `0n12` STC./Q GBR,Rn: R543. -/
  | stcGbrRn (n : BitVec 4)
  /-- `0n22` STC./Q VBR,Rn: R544. -/
  | stcVbrRn (n : BitVec 4)
  /-- `0n32` STC./Q SSR,Rn: R545. -/
  | stcSsrRn (n : BitVec 4)
  /-- `0n42` STC./Q SPC,Rn: R546. -/
  | stcSpcRn (n : BitVec 4)
  /-- `0n[1bbb]2` STC./Q Rm_B,Rn: R547. -/
  | stcRmBRn (n : BitVec 4) (b : BitVec 3)
  /-- `0n3A` STC./Q SGR,Rn: R548. -/
  | stcSgrRn (n : BitVec 4)
  /-- `0nFA` STC./Q DBR,Rn: R549. -/
  | stcDbrRn (n : BitVec 4)
  /-- `0n0A` STS./Q MACH,Rn: R550. -/
  | stsMachRn (n : BitVec 4)
  /-- `0n1A` STS./Q MACL,Rn: R551. -/
  | stsMaclRn (n : BitVec 4)
  /-- `0n2A` STS./Q PR,Rn: R552. -/
  | stsPrRn (n : BitVec 4)
  /-- `0n5A` STS./Q FPUL,Rn: R553. -/
  | stsFpulRn (n : BitVec 4)
  /-- `0n6A` STS./Q FPSCR,Rn: R554. -/
  | stsFpscrRn (n : BitVec 4)
  /-- `4m0E` LDC./Q Rm,SR: R555. -/
  | ldcRmSr (m : BitVec 4)
  /-- `4m1E` LDC./Q Rm,GBR: R556. -/
  | ldcRmGbr (m : BitVec 4)
  /-- `4m2E` LDC./Q Rm,VBR: R557. -/
  | ldcRmVbr (m : BitVec 4)
  /-- `4m3E` LDC./Q Rm,SSR: R558. -/
  | ldcRmSsr (m : BitVec 4)
  /-- `4m4E` LDC./Q Rm,SPC: R559. -/
  | ldcRmSpc (m : BitVec 4)
  /-- `4m[1bbb]E` LDC./Q Rm,Rn_B: R560. -/
  | ldcRmRnB (m : BitVec 4) (b : BitVec 3)
  /-- `4m3A` LDC./Q Rm,SGR: R561. -/
  | ldcRmSgr (m : BitVec 4)
  /-- `4mFA` LDC./Q Rm,DBR: R562. -/
  | ldcRmDbr (m : BitVec 4)
  /-- `4m0A` LDS./Q Rm,MACH: R563. -/
  | ldsRmMach (m : BitVec 4)
  /-- `4m1A` LDS./Q Rm,MACL: R564. -/
  | ldsRmMacl (m : BitVec 4)
  /-- `4m2A` LDS./Q Rm,PR: R565. -/
  | ldsRmPr (m : BitVec 4)
  /-- `0148` ICLRMD.DQ: R566. -/
  | iclrmdDQ
  /-- `0248` ICLRMD.JQ: R567. -/
  | iclrmdJQ
  /-- `0348` ICLRMD.JDQ: R568. -/
  | iclrmdJDQ
  /-- `0158` ISETMD.DQ: R569. -/
  | isetmdDQ
  /-- `0258` ISETMD.JQ: R570. -/
  | isetmdJQ
  /-- `0358` ISETMD.JDQ: R571. -/
  | isetmdJDQ
  /-- `4m5A` LDS./Q Rm,FPUL: R572. -/
  | ldsRmFpul (m : BitVec 4)
  /-- `4m6A` LDS./Q Rm,FPSCR: R573. -/
  | ldsRmFpscr (m : BitVec 4)
  /-- `0008` CLRT: R574. -/
  | clrt
  /-- `0018` SETT: R575. -/
  | sett
  /-- `0048` CLRS: R576. -/
  | clrs
  /-- `0058` SETS: R577. -/
  | sets
  /-- `0068` NOTT: R578. -/
  | nott
  /-- `0028` CLRMAC: R579. -/
  | clrmac
  /-- `0i09` NOP: R580. -/
  | nop (imm : BitVec 4)
  /-- `C3jj` TRAPA #imm: R581. -/
  | trapaImm (imm : BitVec 8)
  /-- `002B` RTE: R582. -/
  | rte
  /-- `001B` SLEEP: R583. -/
  | sleep
  /-- `003B` BRK: R584. -/
  | brk
  /-- `0038` LDTLB: R585. -/
  | ldtlb
  /-- `005B` RESBANK: R586. -/
  | resbank
  /-- `00AB` SYNCO: R590. -/
  | synco
  /-- `0n83` PREF @Rn: R592. -/
  | prefAtRn (n : BitVec 4)
  /-- `0nC3` MOVCA.L R0,@Rn: R593. -/
  | movcaLR0AtRn (n : BitVec 4)
  /-- `0nE3` ICBI @Rn: R594. -/
  | icbiAtRn (n : BitVec 4)
  /-- `2nm3` CAS.L Rm,Rn,@R0: R596. -/
  | casLRmRnAtR0 (n : BitVec 4) (m : BitVec 4)
  /-- `4n02` STS.L/Q MACH,@-Rn: R600. -/
  | stsLQMachAtDecRn (n : BitVec 4)
  /-- `4n12` STS.L/Q MACL,@-Rn: R601. -/
  | stsLQMaclAtDecRn (n : BitVec 4)
  /-- `4n22` STS.L/Q PR,@-Rn: R602. -/
  | stsLQPrAtDecRn (n : BitVec 4)
  /-- `4n32` STC.L/Q SGR,@-Rn: R603. -/
  | stcLQSgrAtDecRn (n : BitVec 4)
  /-- `4n52` STS.L/Q FPUL,@-Rn: R604. -/
  | stsLQFpulAtDecRn (n : BitVec 4)
  /-- `4n62` STS.L/Q FPSCR,@-Rn: R605. -/
  | stsLQFpscrAtDecRn (n : BitVec 4)
  /-- `4nF2` STC.L/Q DBR,@-Rn: R606. -/
  | stcLQDbrAtDecRn (n : BitVec 4)
  /-- `4n03` STC.L/Q SR,@-Rn: R607. -/
  | stcLQSrAtDecRn (n : BitVec 4)
  /-- `4n13` STC.L/Q GBR,@-Rn: R608. -/
  | stcLQGbrAtDecRn (n : BitVec 4)
  /-- `4n23` STC.L/Q VBR,@-Rn: R609. -/
  | stcLQVbrAtDecRn (n : BitVec 4)
  /-- `4n33` STC.L/Q SSR,@-Rn: R610. -/
  | stcLQSsrAtDecRn (n : BitVec 4)
  /-- `4n43` STC.L/Q SPC,@-Rn: R611. -/
  | stcLQSpcAtDecRn (n : BitVec 4)
  /-- `4n[1bbb]3` STC.L/Q Rm_B,@-Rn: R612. -/
  | stcLQRmBAtDecRn (n : BitVec 4) (b : BitVec 3)
  /-- `4m06` LDS.L/Q @Rm+,MACH: R613. -/
  | ldsLQAtRmIncMach (m : BitVec 4)
  /-- `4m16` LDS.L/Q @Rm+,MACL: R614. -/
  | ldsLQAtRmIncMacl (m : BitVec 4)
  /-- `4m26` LDS.L/Q @Rm+,PR: R615. -/
  | ldsLQAtRmIncPr (m : BitVec 4)
  /-- `4m36` LDC.L/Q @Rm+,SGR: R616. -/
  | ldcLQAtRmIncSgr (m : BitVec 4)
  /-- `4m56` LDS.L/Q @Rm+,FPUL: R617. -/
  | ldsLQAtRmIncFpul (m : BitVec 4)
  /-- `4m66` LDS.L/Q @Rm+,FPSCR: R618. -/
  | ldsLQAtRmIncFpscr (m : BitVec 4)
  /-- `4mF6` LDC.L/Q @Rm+,DBR: R619. -/
  | ldcLQAtRmIncDbr (m : BitVec 4)
  /-- `4m07` LDC.L/Q @Rm+,SR: R620. -/
  | ldcLQAtRmIncSr (m : BitVec 4)
  /-- `4m17` LDC.L/Q @Rm+,GBR: R621. -/
  | ldcLQAtRmIncGbr (m : BitVec 4)
  /-- `4m27` LDC.L/Q @Rm+,VBR: R622. -/
  | ldcLQAtRmIncVbr (m : BitVec 4)
  /-- `4m37` LDC.L/Q @Rm+,SSR: R623. -/
  | ldcLQAtRmIncSsr (m : BitVec 4)
  /-- `4m47` LDC.L/Q @Rm+,SPC: R624. -/
  | ldcLQAtRmIncSpc (m : BitVec 4)
  /-- `4m[1bbb]7` LDC.L/Q @Rm+,Rn_B: R625. -/
  | ldcLQAtRmIncRnB (m : BitVec 4) (b : BitVec 3)
  /-- `Fnm0` FADD FRm,FRn: R650. -/
  | faddFRmFRn (n : BitVec 4) (m : BitVec 4)
  /-- `Fnm1` FSUB FRm,FRn: R651. -/
  | fsubFRmFRn (n : BitVec 4) (m : BitVec 4)
  /-- `Fnm2` FMUL FRm,FRn: R652. -/
  | fmulFRmFRn (n : BitVec 4) (m : BitVec 4)
  /-- `Fnm3` FDIV FRm,FRn: R653. -/
  | fdivFRmFRn (n : BitVec 4) (m : BitVec 4)
  /-- `Fnm4` FCMPEQ FRm,FRn: R654. -/
  | fcmpeqFRmFRn (n : BitVec 4) (m : BitVec 4)
  /-- `Fnm5` FCMPGT FRm,FRn: R655. -/
  | fcmpgtFRmFRn (n : BitVec 4) (m : BitVec 4)
  /-- `Fnm6` FMOV.S @(R0,Rm),FRn: R661. -/
  | fmovSAtR0RmFRn (n : BitVec 4) (m : BitVec 4)
  /-- `Fnm7` FMOV.S FRm,@(R0,Rn): R662. -/
  | fmovSFRmAtR0Rn (n : BitVec 4) (m : BitVec 4)
  /-- `Fnm8` FMOV.S @Rm,FRn: R663. -/
  | fmovSAtRmFRn (n : BitVec 4) (m : BitVec 4)
  /-- `Fnm9` FMOV.S @Rm+,FRn: R664. -/
  | fmovSAtRmIncFRn (n : BitVec 4) (m : BitVec 4)
  /-- `FnmA` FMOV.S FRm,@Rn: R665. -/
  | fmovSFRmAtRn (n : BitVec 4) (m : BitVec 4)
  /-- `FnmB` FMOV.S FRm,@-Rn: R666. -/
  | fmovSFRmAtDecRn (n : BitVec 4) (m : BitVec 4)
  /-- `FnmC` FMOV FRm,FRn: R667. -/
  | fmovFRmFRn (n : BitVec 4) (m : BitVec 4)
  /-- `Fn0D` FSTS FRn: R668. -/
  | fstsFRn (n : BitVec 4)
  /-- `Fm1D` FLDS FRm: R669. -/
  | fldsFRm (m : BitVec 4)
  /-- `Fn2D` FLOAT FRn: R670. -/
  | floatFRn (n : BitVec 4)
  /-- `Fm3D` FTRC FRm: R671. -/
  | ftrcFRm (m : BitVec 4)
  /-- `Fn4D` FNEG FRn: R672. -/
  | fnegFRn (n : BitVec 4)
  /-- `Fn5D` FABS FRn: R673. -/
  | fabsFRn (n : BitVec 4)
  /-- `Fn6D` FSQRT FRn: R674. -/
  | fsqrtFRn (n : BitVec 4)
  /-- `Fn8D` FLDI0 FRn: R675. -/
  | fldi0FRn (n : BitVec 4)
  /-- `Fn9D` FLDI1 FRn: R676. -/
  | fldi1FRn (n : BitVec 4)
  /-- `FnAD` FCNVSD FRn: R677. -/
  | fcnvsdFRn (n : BitVec 4)
  /-- `FmBD` FCNVDS FRm: R678. -/
  | fcnvdsFRm (m : BitVec 4)
  /-- `FiDD` PSETMD #imm4: R679. -/
  | psetmdImm4 (imm : BitVec 4)
  /-- `F3FD` FSCHG: R680. -/
  | fschg
  /-- `F7FD` FPCHG: R681. -/
  | fpchg
  /-- `FBFD` FRCHG: R682. -/
  | frchg
  /-- `FnmE` FMAC FRm,FRn: R683. -/
  | fmacFRmFRn (n : BitVec 4) (m : BitVec 4)
  /-- `8Evo-Fnm6` FMOV.S @(Rm,Ro),FRn: R691. -/
  | xvFmovSAtRmRoFRn (v : BitVec 4) (o : BitVec 4) (n : BitVec 4) (m : BitVec 4)
  /-- `8Evo-Fnm7` FMOV.S FRm,@(Rn,Ro): R692. -/
  | xvFmovSFRmAtRnRo (v : BitVec 4) (o : BitVec 4) (n : BitVec 4) (m : BitVec 4)
  /-- `8Evd-Fnm8` FMOV.S @(Rm,disp4),FRn: R693. -/
  | xvFmovSAtRmDisp4FRn (v : BitVec 4) (disp : BitVec 4) (n : BitVec 4) (m : BitVec 4)
  /-- `8Ev0-Fnm9` FMOV.S @Rm+,FRn: R694. -/
  | xvFmovSAtRmIncFRn (v : BitVec 4) (n : BitVec 4) (m : BitVec 4)
  /-- `8Evd-FnmA` FMOV.S FRm,@(Rn,disp4): R695. -/
  | xvFmovSFRmAtRnDisp4 (v : BitVec 4) (disp : BitVec 4) (n : BitVec 4) (m : BitVec 4)
  /-- `8Ev0-FnmB` FMOV.S FRm,@-Rn: R696. -/
  | xvFmovSFRmAtDecRn (v : BitVec 4) (n : BitVec 4) (m : BitVec 4)
  /-- `8Evv-FnmC` FMOV FRm,FRn: R698. -/
  | xvFmovFRmFRn (v : BitVec 8) (n : BitVec 4) (m : BitVec 4)
  /-- `8Eii-FiDD` PSETMD #imm12: R699. -/
  | xPsetmdImm12 (imm : BitVec 12)
  /-- `8Eod-0nm4` MOV.B Rm,@(Rn,Ro,disp4): R725. -/
  | xMovBRmAtRnRoDisp4 (o : BitVec 4) (disp : BitVec 4) (n : BitVec 4) (m : BitVec 4)
  /-- `8Eod-0nm5` MOV.W Rm,@(Rn,Ro,disp4): R726. -/
  | xMovWRmAtRnRoDisp4 (o : BitVec 4) (disp : BitVec 4) (n : BitVec 4) (m : BitVec 4)
  /-- `8Eod-0nm6` MOV.L Rm,@(Rn,Ro,disp4): R727. -/
  | xMovLRmAtRnRoDisp4 (o : BitVec 4) (disp : BitVec 4) (n : BitVec 4) (m : BitVec 4)
  /-- `8Eod-0nm7` MOV.Q Rm,@(Rn,Ro,disp4): R728. -/
  | xMovQRmAtRnRoDisp4 (o : BitVec 4) (disp : BitVec 4) (n : BitVec 4) (m : BitVec 4)
  /-- `8Eod-0nmC` MOV.B @(Rm,Ro,disp4),Rn: R729. -/
  | xMovBAtRmRoDisp4Rn (o : BitVec 4) (disp : BitVec 4) (n : BitVec 4) (m : BitVec 4)
  /-- `8Eod-0nmD` MOV.W @(Rm,Ro,disp4),Rn: R730. -/
  | xMovWAtRmRoDisp4Rn (o : BitVec 4) (disp : BitVec 4) (n : BitVec 4) (m : BitVec 4)
  /-- `8Eod-0nmE` MOV.L @(Rm,Ro,disp4),Rn: R731. -/
  | xMovLAtRmRoDisp4Rn (o : BitVec 4) (disp : BitVec 4) (n : BitVec 4) (m : BitVec 4)
  /-- `8Eod-0nmF` MOV.Q @(Rm,Ro,disp4),Rn: R732. -/
  | xMovQAtRmRoDisp4Rn (o : BitVec 4) (disp : BitVec 4) (n : BitVec 4) (m : BitVec 4)
  /-- `8Edd-1nmo` MOV.L Rm,@(Rn,Ro,disp8s): R733. -/
  | xMovLRmAtRnRoDisp8s (disp : BitVec 8) (n : BitVec 4) (m : BitVec 4) (o : BitVec 4)
  /-- `8Edd-5nmo` MOV.L @(Rm,Ro,disp8s),Rn: R734. -/
  | xMovLAtRmRoDisp8sRn (disp : BitVec 8) (n : BitVec 4) (m : BitVec 4) (o : BitVec 4)
  /-- `8Edd-2nm0` MOV.B Rm,@(Rn,disp8s): R735. -/
  | xMovBRmAtRnDisp8s (disp : BitVec 8) (n : BitVec 4) (m : BitVec 4)
  /-- `8Edd-2nm1` MOV.W Rm,@(Rn,disp8s): R736. -/
  | xMovWRmAtRnDisp8s (disp : BitVec 8) (n : BitVec 4) (m : BitVec 4)
  /-- `8Edd-2nm2` MOV.L Rm,@(Rn,disp8s): R737. -/
  | xMovLRmAtRnDisp8s (disp : BitVec 8) (n : BitVec 4) (m : BitVec 4)
  /-- `8Edd-2nm3` MOV.Q Rm,@(Rn,disp8s): R738. -/
  | xMovQRmAtRnDisp8s (disp : BitVec 8) (n : BitVec 4) (m : BitVec 4)
  /-- `8Edd-2nm4` FMOV.S FRm,@(Rn,disp8s): R739. -/
  | xFmovSFRmAtRnDisp8s (disp : BitVec 8) (n : BitVec 4) (m : BitVec 4)
  /-- `8Edd-2nm5` FMOV.D DRm,@(Rn,disp8s): R740. -/
  | xFmovDDRmAtRnDisp8s (disp : BitVec 8) (n : BitVec 4) (m : BitVec 4)
  /-- `8Edd-2nm6` FMOV.S @(Rm,disp8s),FRn: R741. -/
  | xFmovSAtRmDisp8sFRn (disp : BitVec 8) (n : BitVec 4) (m : BitVec 4)
  /-- `8Edd-2nm7` FMOV.D @(Rm,disp8s),DRn: R742. -/
  | xFmovDAtRmDisp8sDRn (disp : BitVec 8) (n : BitVec 4) (m : BitVec 4)
  /-- `8Eii-2nm9` AND./Q Rm,#imm8,Rn: R743. -/
  | xAndRmImm8Rn (imm : BitVec 8) (n : BitVec 4) (m : BitVec 4)
  /-- `8Eii-2nmA` XOR./Q Rm,#imm8,Rn: R744. -/
  | xXorRmImm8Rn (imm : BitVec 8) (n : BitVec 4) (m : BitVec 4)
  /-- `8Eii-2nmB` OR./Q Rm,#imm8,Rn: R745. -/
  | xOrRmImm8Rn (imm : BitVec 8) (n : BitVec 4) (m : BitVec 4)
  /-- `8Eii-2nmE` MULL./Q Rm,#imm8,Rn: R746. -/
  | xMullRmImm8Rn (imm : BitVec 8) (n : BitVec 4) (m : BitVec 4)
  /-- `8Eii-3ni0` CMPEQ./Q #imm12,Rn: R747. -/
  | xCmpeqImm12Rn (imm : BitVec 12) (n : BitVec 4)
  /-- `8Eii-3ni2` CMPHS./Q #imm12,Rn: R748. -/
  | xCmphsImm12Rn (imm : BitVec 12) (n : BitVec 4)
  /-- `8Eii-3ni3` CMPGE./Q #imm12,Rn: R749. -/
  | xCmpgeImm12Rn (imm : BitVec 12) (n : BitVec 4)
  /-- `8Eii-3ni6` CMPHI./Q #imm12,Rn: R750. -/
  | xCmphiImm12Rn (imm : BitVec 12) (n : BitVec 4)
  /-- `8Eii-3ni7` CMPGT./Q #imm12,Rn: R751. -/
  | xCmpgtImm12Rn (imm : BitVec 12) (n : BitVec 4)
  /-- `8Eii-3nm8` SUB./Q Rm,#imm8,Rn: R752. -/
  | xSubRmImm8Rn (imm : BitVec 8) (n : BitVec 4) (m : BitVec 4)
  /-- `8Eii-3nmC` ADD./Q Rm,#imm8,Rn: R753. -/
  | xAddRmImm8Rn (imm : BitVec 8) (n : BitVec 4) (m : BitVec 4)
  /-- `8Eii-4n84` MOV.B #imm,@Rn: R754. -/
  | xMovBImmAtRn (imm : BitVec 8) (n : BitVec 4)
  /-- `8Eii-4n94` MOV.W #imm,@Rn: R755. -/
  | xMovWImmAtRn (imm : BitVec 8) (n : BitVec 4)
  /-- `8Eii-4nA4` MOV.L #imm,@Rn: R756. -/
  | xMovLImmAtRn (imm : BitVec 8) (n : BitVec 4)
  /-- `8Eii-4nB4` MOV.Q #imm,@Rn: R757. -/
  | xMovQImmAtRn (imm : BitVec 8) (n : BitVec 4)
  /-- `8Eii-4nC4` MOV.B #imm,@-Rn: R758. -/
  | xMovBImmAtDecRn (imm : BitVec 8) (n : BitVec 4)
  /-- `8Eii-4nD4` MOV.W #imm,@-Rn: R759. -/
  | xMovWImmAtDecRn (imm : BitVec 8) (n : BitVec 4)
  /-- `8Eii-4nE4` MOV.L #imm,@-Rn: R760. -/
  | xMovLImmAtDecRn (imm : BitVec 8) (n : BitVec 4)
  /-- `8Eii-4nF4` MOV.Q #imm,@-Rn: R761. -/
  | xMovQImmAtDecRn (imm : BitVec 8) (n : BitVec 4)
  /-- `8Eii-4nmC` SHAD./Q Rm,#imm,Rn: R762. -/
  | xShadRmImmRn (imm : BitVec 8) (n : BitVec 4) (m : BitVec 4)
  /-- `8Eii-4nmD` SHLD./Q Rm,#imm,Rn: R763. -/
  | xShldRmImmRn (imm : BitVec 8) (n : BitVec 4) (m : BitVec 4)
  /-- `8Edd-6nm0` MOV.B @(Rm,disp8s),Rn: R764. -/
  | xMovBAtRmDisp8sRn (disp : BitVec 8) (n : BitVec 4) (m : BitVec 4)
  /-- `8Edd-6nm1` MOV.W @(Rm,disp8s),Rn: R765. -/
  | xMovWAtRmDisp8sRn (disp : BitVec 8) (n : BitVec 4) (m : BitVec 4)
  /-- `8Edd-6nm2` MOV.L @(Rm,disp8s),Rn: R766. -/
  | xMovLAtRmDisp8sRn (disp : BitVec 8) (n : BitVec 4) (m : BitVec 4)
  /-- `8Edd-6nm3` MOV.Q @(Rm,disp8s),Rn: R767. -/
  | xMovQAtRmDisp8sRn (disp : BitVec 8) (n : BitVec 4) (m : BitVec 4)
  /-- `8Eod-6nm4` LEA.B @(Rm,Ro,disp4),Rn: R768. -/
  | xLeaBAtRmRoDisp4Rn (o : BitVec 4) (disp : BitVec 4) (n : BitVec 4) (m : BitVec 4)
  /-- `8Eod-6nm5` LEA.W @(Rm,Ro,disp4),Rn: R769. -/
  | xLeaWAtRmRoDisp4Rn (o : BitVec 4) (disp : BitVec 4) (n : BitVec 4) (m : BitVec 4)
  /-- `8Eod-6nm6` LEA.L @(Rm,Ro,disp4),Rn: R770. -/
  | xLeaLAtRmRoDisp4Rn (o : BitVec 4) (disp : BitVec 4) (n : BitVec 4) (m : BitVec 4)
  /-- `8Eod-6nm7` LEA.Q @(Rm,Ro,disp4),Rn: R771. -/
  | xLeaQAtRmRoDisp4Rn (o : BitVec 4) (disp : BitVec 4) (n : BitVec 4) (m : BitVec 4)
  /-- `8Edd-6nm8` LEA.B @(Rm,disp8s),Rn: R772. -/
  | xLeaBAtRmDisp8sRn (disp : BitVec 8) (n : BitVec 4) (m : BitVec 4)
  /-- `8Edd-6nm9` LEA.W @(Rm,disp8s),Rn: R773. -/
  | xLeaWAtRmDisp8sRn (disp : BitVec 8) (n : BitVec 4) (m : BitVec 4)
  /-- `8Edd-6nmA` LEA.L @(Rm,disp8s),Rn: R774. -/
  | xLeaLAtRmDisp8sRn (disp : BitVec 8) (n : BitVec 4) (m : BitVec 4)
  /-- `8Edd-6nmB` LEA.Q @(Rm,disp8s),Rn: R775. -/
  | xLeaQAtRmDisp8sRn (disp : BitVec 8) (n : BitVec 4) (m : BitVec 4)
  /-- `8Edd-6nmC` MOVU.B @(Rm,disp8s),Rn: R776. -/
  | xMovuBAtRmDisp8sRn (disp : BitVec 8) (n : BitVec 4) (m : BitVec 4)
  /-- `8Edd-6nmD` MOVU.W @(Rm,disp8s),Rn: R777. -/
  | xMovuWAtRmDisp8sRn (disp : BitVec 8) (n : BitVec 4) (m : BitVec 4)
  /-- `8Edd-6nmE` MOVU.L @(Rm,disp8s),Rn: R778. -/
  | xMovuLAtRmDisp8sRn (disp : BitVec 8) (n : BitVec 4) (m : BitVec 4)
  /-- `8Eii-7nii` ADD./Q #imm16,Rn: R779. -/
  | xAddImm16Rn (imm : BitVec 16) (n : BitVec 4)
  /-- `8Edd-82dd` BRA/N disp16: R780. -/
  | xBranDisp16 (disp : BitVec 16)
  /-- `8Edd-83dd` BSR/N disp16: R781. -/
  | xBsrnDisp16 (disp : BitVec 16)
  /-- `8Eii-88ii` CMPEQ #imm16,R0: R782. -/
  | xCmpeqImm16R0 (imm : BitVec 16)
  /-- `8Edd-89dd` BT disp16: R783. -/
  | xBtDisp16 (disp : BitVec 16)
  /-- `8Eii-8Aii` LDHF16 #imm,FPUL: R784. -/
  | xLdhf16ImmFpul (imm : BitVec 16)
  /-- `8Edd-8Bdd` BF disp16: R785. -/
  | xBfDisp16 (disp : BitVec 16)
  /-- `8Eii-8Cii` LDSH16 #imm,R0: R786. -/
  | xLdsh16ImmR0 (imm : BitVec 16)
  /-- `8Edd-8Ddd` BTS disp16: R787. -/
  | xBtsDisp16 (disp : BitVec 16)
  /-- `8Edd-8Fdd` BFS disp16: R788. -/
  | xBfsDisp16 (disp : BitVec 16)
  /-- `8E[000d]d-9ndd` MOVA @(PC,disp13),Rn: R790. -/
  | xMovaAtPcDisp13Rn (disp : BitVec 13) (n : BitVec 4)
  /-- `8E[001d]d-9ndd` MOVU.W @(PC,disp13),Rn: R791. -/
  | xMovuWAtPcDisp13Rn (disp : BitVec 13) (n : BitVec 4)
  /-- `8E[010d]d-9ndd` FMOV.S @(PC,disp13),FRn: R792. -/
  | xFmovSAtPcDisp13FRn (disp : BitVec 13) (n : BitVec 4)
  /-- `8E[011d]d-9ndd` MOVU.W @(PC,disp13),RHn: R793. -/
  | xMovuWAtPcDisp13RHn (disp : BitVec 13) (n : BitVec 4)
  /-- `8E[100d]d-9ndd` FMOV.S @(PC,disp13),XFn: R794. -/
  | xFmovSAtPcDisp13XFn (disp : BitVec 13) (n : BitVec 4)
  /-- `8E[101d]d-9ndd` MOVU.W @(PC,disp13),RQn: R795. -/
  | xMovuWAtPcDisp13RQn (disp : BitVec 13) (n : BitVec 4)
  /-- `8E[110d]d-9ndd` FMOV.D @(PC,disp13),YDn: R796. -/
  | xFmovDAtPcDisp13YDn (disp : BitVec 13) (n : BitVec 4)
  /-- `8E[111d]d-9ndd` FMOV.D @(PC,disp13),DRn: R797. -/
  | xFmovDAtPcDisp13DRn (disp : BitVec 13) (n : BitVec 4)
  /-- `8Edd-Addd` BRA disp20: R798. -/
  | xBraDisp20 (disp : BitVec 20)
  /-- `8Edd-Bddd` BSR disp20: R799. -/
  | xBsrDisp20 (disp : BitVec 20)
  /-- `8Ejj-C8nj` TST./Q #imm12,Rn: R800. -/
  | xTstImm12Rn (imm : BitVec 12) (n : BitVec 4)
  /-- `8Ejj-C9nj` AND./Q #imm12,Rn: R801. -/
  | xAndImm12Rn (imm : BitVec 12) (n : BitVec 4)
  /-- `8Ejj-CAnj` XOR./Q #imm12,Rn: R802. -/
  | xXorImm12Rn (imm : BitVec 12) (n : BitVec 4)
  /-- `8Ejj-CBnj` OR./Q #imm12,Rn: R803. -/
  | xOrImm12Rn (imm : BitVec 12) (n : BitVec 4)
  /-- `8E[000d]d-Dndd` MOV.L @(PC,disp13),Rn: R805. -/
  | xMovLAtPcDisp13Rn (disp : BitVec 13) (n : BitVec 4)
  /-- `8E[001d]d-Dndd` MOV.W @(PC,disp13),Rn: R806. -/
  | xMovWAtPcDisp13Rn (disp : BitVec 13) (n : BitVec 4)
  /-- `8E[010d]d-Dndd` MOV.L @(PC,disp13),RHn: R807. -/
  | xMovLAtPcDisp13RHn (disp : BitVec 13) (n : BitVec 4)
  /-- `8E[011d]d-Dndd` MOV.W @(PC,disp13),RHn: R808. -/
  | xMovWAtPcDisp13RHn (disp : BitVec 13) (n : BitVec 4)
  /-- `8E[100d]d-Dndd` MOV.L @(PC,disp13),RQn: R809. -/
  | xMovLAtPcDisp13RQn (disp : BitVec 13) (n : BitVec 4)
  /-- `8E[101d]d-Dndd` MOV.W @(PC,disp13),RQn: R810. -/
  | xMovWAtPcDisp13RQn (disp : BitVec 13) (n : BitVec 4)
  /-- `8E[110d]d-Dndd` MOVU.L @(PC,disp13),RQn: R811. -/
  | xMovuLAtPcDisp13RQn (disp : BitVec 13) (n : BitVec 4)
  /-- `8E[111d]d-Dndd` MOV.Q @(PC,disp13),RQn: R812. -/
  | xMovQAtPcDisp13RQn (disp : BitVec 13) (n : BitVec 4)
  /-- `8Eii-Enii` MOV./Q #imm16,Rn: R813. -/
  | xMovImm16Rn (imm : BitVec 16) (n : BitVec 4)
  /-- `8C0[0NMB]-1nmd` MOV.L Rm,@(Rn,disp5): R863. -/
  | oMovLRmAtRnDisp5 (nx : Bool) (mx : Bool) (bx : Bool) (n : BitVec 4) (m : BitVec 4) (disp : BitVec 4)
  /-- `8C0[1NMB]-1nmd` MOV.Q Rm,@(Rn,disp5): R901. -/
  | oMovQRmAtRnDisp5 (nx : Bool) (mx : Bool) (bx : Bool) (n : BitVec 4) (m : BitVec 4) (disp : BitVec 4)
  /-- `8C0[QNMB]-2nm0` MOV.B Rm,@Rn: R864. -/
  | oMovBRmAtRn (q : Bool) (nx : Bool) (mx : Bool) (bx : Bool) (n : BitVec 4) (m : BitVec 4)
  /-- `8C0[QNMB]-2nm1` MOV.W Rm,@Rn: R865. -/
  | oMovWRmAtRn (q : Bool) (nx : Bool) (mx : Bool) (bx : Bool) (n : BitVec 4) (m : BitVec 4)
  /-- `8C0[QNMB]-2nm2` MOV.L Rm,@Rn: R866. -/
  | oMovLRmAtRn (q : Bool) (nx : Bool) (mx : Bool) (bx : Bool) (n : BitVec 4) (m : BitVec 4)
  /-- `8C0[QNMB]-2nm4` MOV.B Rm,@-Rn: R867. -/
  | oMovBRmAtDecRn (q : Bool) (nx : Bool) (mx : Bool) (bx : Bool) (n : BitVec 4) (m : BitVec 4)
  /-- `8C0[QNMB]-2nm5` MOV.W Rm,@-Rn: R868. -/
  | oMovWRmAtDecRn (q : Bool) (nx : Bool) (mx : Bool) (bx : Bool) (n : BitVec 4) (m : BitVec 4)
  /-- `8C0[QNMB]-2nm6` MOV.L Rm,@-Rn: R869. -/
  | oMovLRmAtDecRn (q : Bool) (nx : Bool) (mx : Bool) (bx : Bool) (n : BitVec 4) (m : BitVec 4)
  /-- `8C0[QNMB]-2nm8` TST Rm,Rn: R870. -/
  | oTstRmRn (q : Bool) (nx : Bool) (mx : Bool) (bx : Bool) (n : BitVec 4) (m : BitVec 4)
  /-- `8C0[QNMB]-2nm9` AND Rm,Rn: R871. -/
  | oAndRmRn (q : Bool) (nx : Bool) (mx : Bool) (bx : Bool) (n : BitVec 4) (m : BitVec 4)
  /-- `8C0[QNMB]-2nmA` XOR Rm,Rn: R872. -/
  | oXorRmRn (q : Bool) (nx : Bool) (mx : Bool) (bx : Bool) (n : BitVec 4) (m : BitVec 4)
  /-- `8C0[QNMB]-2nmB` OR Rm,Rn: R873. -/
  | oOrRmRn (q : Bool) (nx : Bool) (mx : Bool) (bx : Bool) (n : BitVec 4) (m : BitVec 4)
  /-- `8C0[QNMB]-3nm0` CMPEQ Rm,Rn: R874. -/
  | oCmpeqRmRn (q : Bool) (nx : Bool) (mx : Bool) (bx : Bool) (n : BitVec 4) (m : BitVec 4)
  /-- `8C0[QNMB]-3nm2` CMPHS Rm,Rn: R875. -/
  | oCmphsRmRn (q : Bool) (nx : Bool) (mx : Bool) (bx : Bool) (n : BitVec 4) (m : BitVec 4)
  /-- `8C0[QNMB]-3nm3` CMPGE Rm,Rn: R876. -/
  | oCmpgeRmRn (q : Bool) (nx : Bool) (mx : Bool) (bx : Bool) (n : BitVec 4) (m : BitVec 4)
  /-- `8C0[QNMB]-3nm6` CMPHI Rm,Rn: R877. -/
  | oCmphiRmRn (q : Bool) (nx : Bool) (mx : Bool) (bx : Bool) (n : BitVec 4) (m : BitVec 4)
  /-- `8C0[QNMB]-3nm7` CMPGT Rm,Rn: R878. -/
  | oCmpgtRmRn (q : Bool) (nx : Bool) (mx : Bool) (bx : Bool) (n : BitVec 4) (m : BitVec 4)
  /-- `8C0[QNMB]-3nm8` SUB Rm,Rn: R879. -/
  | oSubRmRn (q : Bool) (nx : Bool) (mx : Bool) (bx : Bool) (n : BitVec 4) (m : BitVec 4)
  /-- `8C0[QNMB]-3nmA` SUBC Rm,Rn: R880. -/
  | oSubcRmRn (q : Bool) (nx : Bool) (mx : Bool) (bx : Bool) (n : BitVec 4) (m : BitVec 4)
  /-- `8C0[QNMB]-3nmB` SUBV Rm,Rn: R881. -/
  | oSubvRmRn (q : Bool) (nx : Bool) (mx : Bool) (bx : Bool) (n : BitVec 4) (m : BitVec 4)
  /-- `8C0[QNMB]-3nmC` ADD Rm,Rn: R882. -/
  | oAddRmRn (q : Bool) (nx : Bool) (mx : Bool) (bx : Bool) (n : BitVec 4) (m : BitVec 4)
  /-- `8C0[QNMB]-3nmE` ADDC Rm,Rn: R883. -/
  | oAddcRmRn (q : Bool) (nx : Bool) (mx : Bool) (bx : Bool) (n : BitVec 4) (m : BitVec 4)
  /-- `8C0[QNMB]-3nmF` ADDV Rm,Rn: R884. -/
  | oAddvRmRn (q : Bool) (nx : Bool) (mx : Bool) (bx : Bool) (n : BitVec 4) (m : BitVec 4)
  /-- `8C0[0NMB]-5nmd` MOV.L @(Rm,disp5),Rn: R885. -/
  | oMovLAtRmDisp5Rn (nx : Bool) (mx : Bool) (bx : Bool) (n : BitVec 4) (m : BitVec 4) (disp : BitVec 4)
  /-- `8C0[1NMB]-5nmd` MOV.Q @(Rm,disp5),Rn: R902. -/
  | oMovQAtRmDisp5Rn (nx : Bool) (mx : Bool) (bx : Bool) (n : BitVec 4) (m : BitVec 4) (disp : BitVec 4)
  /-- `8C0[QNMB]-6nm0` MOV.B @Rm,Rn: R886. -/
  | oMovBAtRmRn (q : Bool) (nx : Bool) (mx : Bool) (bx : Bool) (n : BitVec 4) (m : BitVec 4)
  /-- `8C0[QNMB]-6nm1` MOV.W @Rm,Rn: R887. -/
  | oMovWAtRmRn (q : Bool) (nx : Bool) (mx : Bool) (bx : Bool) (n : BitVec 4) (m : BitVec 4)
  /-- `8C0[QNMB]-6nm2` MOV.L @Rm,Rn: R888. -/
  | oMovLAtRmRn (q : Bool) (nx : Bool) (mx : Bool) (bx : Bool) (n : BitVec 4) (m : BitVec 4)
  /-- `8C0[QNMB]-6nm3` MOV Rm,Rn: R889. -/
  | oMovRmRn (q : Bool) (nx : Bool) (mx : Bool) (bx : Bool) (n : BitVec 4) (m : BitVec 4)
  /-- `8C0[QNMB]-6nm4` MOV.B @Rm+,Rn: R890. -/
  | oMovBAtRmIncRn (q : Bool) (nx : Bool) (mx : Bool) (bx : Bool) (n : BitVec 4) (m : BitVec 4)
  /-- `8C0[QNMB]-6nm5` MOV.W @Rm+,Rn: R891. -/
  | oMovWAtRmIncRn (q : Bool) (nx : Bool) (mx : Bool) (bx : Bool) (n : BitVec 4) (m : BitVec 4)
  /-- `8C0[QNMB]-6nm6` MOV.L @Rm+,Rn: R892. -/
  | oMovLAtRmIncRn (q : Bool) (nx : Bool) (mx : Bool) (bx : Bool) (n : BitVec 4) (m : BitVec 4)
  /-- `8C0[QNMB]-6nm7` NOT Rm,Rn: R893. -/
  | oNotRmRn (q : Bool) (nx : Bool) (mx : Bool) (bx : Bool) (n : BitVec 4) (m : BitVec 4)
  /-- `8C0[QNMB]-6nmA` NEGC Rm,Rn: R894. -/
  | oNegcRmRn (q : Bool) (nx : Bool) (mx : Bool) (bx : Bool) (n : BitVec 4) (m : BitVec 4)
  /-- `8C0[QNMB]-6nmB` NEG Rm,Rn: R895. -/
  | oNegRmRn (q : Bool) (nx : Bool) (mx : Bool) (bx : Bool) (n : BitVec 4) (m : BitVec 4)
  /-- `8C0[QNMB]-6nmC` EXTU.B Rm,Rn: R896. -/
  | oExtuBRmRn (q : Bool) (nx : Bool) (mx : Bool) (bx : Bool) (n : BitVec 4) (m : BitVec 4)
  /-- `8C0[QNMB]-6nmD` EXTU.W Rm,Rn: R897. -/
  | oExtuWRmRn (q : Bool) (nx : Bool) (mx : Bool) (bx : Bool) (n : BitVec 4) (m : BitVec 4)
  /-- `8C0[QNMB]-6nmE` EXTS.B Rm,Rn: R898. -/
  | oExtsBRmRn (q : Bool) (nx : Bool) (mx : Bool) (bx : Bool) (n : BitVec 4) (m : BitVec 4)
  /-- `8C0[QNMB]-6nmF` EXTS.W Rm,Rn: R899. -/
  | oExtsWRmRn (q : Bool) (nx : Bool) (mx : Bool) (bx : Bool) (n : BitVec 4) (m : BitVec 4)
  /-- `8C0[QNMB]-Enii` MOV #imm10,Rn: R900. -/
  | oMovImm10Rn (q : Bool) (nx : Bool) (mx : Bool) (bx : Bool) (n : BitVec 4) (imm : BitVec 8)
  /-- `8C3[0NST]-0nst` ADD Rs,Rt,Rn: R911. -/
  | tAddRsRtRn (nx : Bool) (sx : Bool) (tx : Bool) (n : BitVec 4) (s : BitVec 4) (t : BitVec 4)
  /-- `8C38-0nst` ADD Rs,Rt,Rn: R911. -/
  | tAddRsRtRnQuad (n : BitVec 4) (s : BitVec 4) (t : BitVec 4)
  /-- `8C3[101T]-0nst` ADD.L Rs,imm5,Rn: R912. -/
  | tAddLRsImm5Rn (tx : Bool) (n : BitVec 4) (s : BitVec 4) (t : BitVec 4)
  /-- `8C3[11ST]-0nst` ADD.Q Rs,imm6,Rn: R913. -/
  | tAddQRsImm6Rn (sx : Bool) (tx : Bool) (n : BitVec 4) (s : BitVec 4) (t : BitVec 4)
  /-- `8C3[0NST]-1nst` SUB Rs,Rt,Rn: R914. -/
  | tSubRsRtRn (nx : Bool) (sx : Bool) (tx : Bool) (n : BitVec 4) (s : BitVec 4) (t : BitVec 4)
  /-- `8C38-1nst` SUB Rs,Rt,Rn: R914. -/
  | tSubRsRtRnQuad (n : BitVec 4) (s : BitVec 4) (t : BitVec 4)
  /-- `8C3[101T]-1nst` SUB.L Rs,imm5,Rn: R915. -/
  | tSubLRsImm5Rn (tx : Bool) (n : BitVec 4) (s : BitVec 4) (t : BitVec 4)
  /-- `8C3[11ST]-1nst` SUB.Q Rs,imm6,Rn: R916. -/
  | tSubQRsImm6Rn (sx : Bool) (tx : Bool) (n : BitVec 4) (s : BitVec 4) (t : BitVec 4)
  /-- `8C3[0NST]-2nst` MUL Rs,Rt,Rn: R917. -/
  | tMulRsRtRn (nx : Bool) (sx : Bool) (tx : Bool) (n : BitVec 4) (s : BitVec 4) (t : BitVec 4)
  /-- `8C38-2nst` MUL Rs,Rt,Rn: R917. -/
  | tMulRsRtRnQuad (n : BitVec 4) (s : BitVec 4) (t : BitVec 4)
  /-- `8C3[0NST]-3nst` AND Rs,Rt,Rn: R918. -/
  | tAndRsRtRn (nx : Bool) (sx : Bool) (tx : Bool) (n : BitVec 4) (s : BitVec 4) (t : BitVec 4)
  /-- `8C38-3nst` AND Rs,Rt,Rn: R918. -/
  | tAndRsRtRnQuad (n : BitVec 4) (s : BitVec 4) (t : BitVec 4)
  /-- `8C3[0NST]-4nst` OR Rs,Rt,Rn: R919. -/
  | tOrRsRtRn (nx : Bool) (sx : Bool) (tx : Bool) (n : BitVec 4) (s : BitVec 4) (t : BitVec 4)
  /-- `8C38-4nst` OR Rs,Rt,Rn: R919. -/
  | tOrRsRtRnQuad (n : BitVec 4) (s : BitVec 4) (t : BitVec 4)
  /-- `8C3[0NST]-5nst` XOR Rs,Rt,Rn: R920. -/
  | tXorRsRtRn (nx : Bool) (sx : Bool) (tx : Bool) (n : BitVec 4) (s : BitVec 4) (t : BitVec 4)
  /-- `8C38-5nst` XOR Rs,Rt,Rn: R920. -/
  | tXorRsRtRnQuad (n : BitVec 4) (s : BitVec 4) (t : BitVec 4)
  /-- `8C3[0NST]-6nst` SHLL Rs,Rt,Rn: R921. -/
  | tShllRsRtRn (nx : Bool) (sx : Bool) (tx : Bool) (n : BitVec 4) (s : BitVec 4) (t : BitVec 4)
  /-- `8C38-6nst` SHLL Rs,Rt,Rn: R921. -/
  | tShllRsRtRnQuad (n : BitVec 4) (s : BitVec 4) (t : BitVec 4)
  /-- `8C3[101T]-6nst` SHLL.L Rs,imm5,Rn: R922. -/
  | tShllLRsImm5Rn (tx : Bool) (n : BitVec 4) (s : BitVec 4) (t : BitVec 4)
  /-- `8C3[11ST]-6nst` SHLL.Q Rs,imm6,Rn: R923. -/
  | tShllQRsImm6Rn (sx : Bool) (tx : Bool) (n : BitVec 4) (s : BitVec 4) (t : BitVec 4)
  /-- `8C3[0NST]-7nst` SHLR Rs,Rt,Rn: R924. -/
  | tShlrRsRtRn (nx : Bool) (sx : Bool) (tx : Bool) (n : BitVec 4) (s : BitVec 4) (t : BitVec 4)
  /-- `8C38-7nst` SHLR Rs,Rt,Rn: R924. -/
  | tShlrRsRtRnQuad (n : BitVec 4) (s : BitVec 4) (t : BitVec 4)
  /-- `8C3[101T]-7nst` SHLR.L Rs,imm5,Rn: R925. -/
  | tShlrLRsImm5Rn (tx : Bool) (n : BitVec 4) (s : BitVec 4) (t : BitVec 4)
  /-- `8C3[11ST]-7nst` SHLR.Q Rs,imm6,Rn: R926. -/
  | tShlrQRsImm6Rn (sx : Bool) (tx : Bool) (n : BitVec 4) (s : BitVec 4) (t : BitVec 4)
  /-- `8C3[0NST]-8nst` SHAR Rs,Rt,Rn: R927. -/
  | tSharRsRtRn (nx : Bool) (sx : Bool) (tx : Bool) (n : BitVec 4) (s : BitVec 4) (t : BitVec 4)
  /-- `8C38-8nst` SHAR Rs,Rt,Rn: R927. -/
  | tSharRsRtRnQuad (n : BitVec 4) (s : BitVec 4) (t : BitVec 4)
  /-- `8C3[101T]-8nst` SHAR.L Rs,imm5,Rn: R928. -/
  | tSharLRsImm5Rn (tx : Bool) (n : BitVec 4) (s : BitVec 4) (t : BitVec 4)
  /-- `8C3[11ST]-8nst` SHAR.Q Rs,imm6,Rn: R929. -/
  | tSharQRsImm6Rn (sx : Bool) (tx : Bool) (n : BitVec 4) (s : BitVec 4) (t : BitVec 4)
  /-- `8C3[QNST]-Cnst` FADD FRs,FRt,FRn: R930. -/
  | tFaddFRsFRtFRn (q : Bool) (nx : Bool) (sx : Bool) (tx : Bool) (n : BitVec 4) (s : BitVec 4) (t : BitVec 4)
  /-- `8C3[QNST]-Dnst` FSUB FRs,FRt,FRn: R931. -/
  | tFsubFRsFRtFRn (q : Bool) (nx : Bool) (sx : Bool) (tx : Bool) (n : BitVec 4) (s : BitVec 4) (t : BitVec 4)
  /-- `8C3[QNST]-Enst` FMUL FRs,FRt,FRn: R932. -/
  | tFmulFRsFRtFRn (q : Bool) (nx : Bool) (sx : Bool) (tx : Bool) (n : BitVec 4) (s : BitVec 4) (t : BitVec 4)
  /-- `8C3[QNST]-Fnst` FDIV FRs,FRt,FRn: R933. -/
  | tFdivFRsFRtFRn (q : Bool) (nx : Bool) (sx : Bool) (tx : Bool) (n : BitVec 4) (s : BitVec 4) (t : BitVec 4)
  /-- `8Aii-iiii` MOVI24 #imm24,R0: R940. -/
  | movi24Imm24R0 (imm : BitVec 24)
  /-- `0ni0-iiii` MOVI20 #imm,Rn: R941. -/
  | movi20ImmRn (n : BitVec 4) (imm : BitVec 20)
  /-- `0ni1-iiii` MOVI20S #imm,Rn: R942. -/
  | movi20sImmRn (n : BitVec 4) (imm : BitVec 20)
  /-- `3nm1-0ddd` MOV.B Rm,@(Rn,disp): R943. -/
  | wMovBRmAtRnDisp (n : BitVec 4) (m : BitVec 4) (disp : BitVec 12)
  /-- `3nm1-1ddd` MOV.W Rm,@(Rn,disp): R944. -/
  | wMovWRmAtRnDisp (n : BitVec 4) (m : BitVec 4) (disp : BitVec 12)
  /-- `3nm1-2ddd` MOV.L Rm,@(Rn,disp): R945. -/
  | wMovLRmAtRnDisp (n : BitVec 4) (m : BitVec 4) (disp : BitVec 12)
  /-- `3nm1-3ddd` FMOV.S FRm,@(Rn,disp): R946. -/
  | wFmovSFRmAtRnDisp (n : BitVec 4) (m : BitVec 4) (disp : BitVec 12)
  /-- `3nm1-4ddd` MOV.B @(Rm,disp),Rn: R947. -/
  | wMovBAtRmDispRn (n : BitVec 4) (m : BitVec 4) (disp : BitVec 12)
  /-- `3nm1-5ddd` MOV.W @(Rm,disp),Rn: R948. -/
  | wMovWAtRmDispRn (n : BitVec 4) (m : BitVec 4) (disp : BitVec 12)
  /-- `3nm1-6ddd` MOV.L @(Rm,disp),Rn: R949. -/
  | wMovLAtRmDispRn (n : BitVec 4) (m : BitVec 4) (disp : BitVec 12)
  /-- `3nm1-7ddd` FMOV.S @(Rm,disp),FRn: R950. -/
  | wFmovSAtRmDispFRn (n : BitVec 4) (m : BitVec 4) (disp : BitVec 12)
  /-- `3nm1-8ddd` MOVU.B @(Rm,disp),Rn: R951. -/
  | wMovuBAtRmDispRn (n : BitVec 4) (m : BitVec 4) (disp : BitVec 12)
  /-- `3nm1-9ddd` MOVU.W @(Rm,disp),Rn: R952. -/
  | wMovuWAtRmDispRn (n : BitVec 4) (m : BitVec 4) (disp : BitVec 12)
  /-- `CE7n-iiii-iiii-iiii` ADD.Q #imm48,Rn: R961. -/
  | zAddQImm48Rn (n : BitVec 4) (imm : BitVec 48)
  /-- `CEA0-dddd-dddd-dddd` BRA disp48: R963. -/
  | zBraDisp48 (disp : BitVec 48)
  /-- `CEB0-dddd-dddd-dddd` BSR disp48: R964. -/
  | zBsrDisp48 (disp : BitVec 48)
  /-- `CEEn-iiii-iiii-iiii` MOV.Q #imm48,Rn: R965. -/
  | zMovQImm48Rn (n : BitVec 4) (imm : BitVec 48)
  /-- `82xx-xxxx` (reserved) XPFX1: R954. -/
  | resXpfx1 (p : BitVec 8)
  /-- `83xx-xxxx` (reserved) XPFX3: R955. -/
  | resXpfx3 (p : BitVec 8)
  /-- `86xx-xxxx` (reserved) XPFX4: R956. -/
  | resXpfx4 (p : BitVec 8)
  /-- `87xx-xxxx` (reserved) XPFX5: R956. -/
  | resXpfx5 (p : BitVec 8)
  /-- `CCxx-xxxx` (reserved) XPFY0: R957. -/
  | resXpfy0 (p : BitVec 8)
  /-- `CDxx-xxxx` (reserved) XPFY1: R957. -/
  | resXpfy1 (p : BitVec 8)
  /-- `CFxx-xxxx-xxxx-xxxx` (reserved) XPFZ1: R958. -/
  | resXpfz1 (p : BitVec 8)
  /-- `FxxF-xxxx` (reserved) XPFV0: R959. -/
  | resXpfv0 (p : BitVec 8)
  /-- `3xx9-xxxx` (reserved) 3ni9-Xddd: R953. -/
  | res3xx9 (p : BitVec 8)
  /-- `8C1x-xxxx` (reserved) 8C1x: R938. -/
  | res8C1x (p : BitVec 4)
  /-- `8C2x-xxxx` (reserved) 8C2x: R938. -/
  | res8C2x (p : BitVec 4)
  /-- `8C4x-xxxx` (reserved) 8C4x: R938. -/
  | res8C4x (p : BitVec 4)
  /-- `8C5x-xxxx` (reserved) 8C5x: R938. -/
  | res8C5x (p : BitVec 4)
  /-- `8C6x-xxxx` (reserved) 8C6x: R938. -/
  | res8C6x (p : BitVec 4)
  /-- `8C7x-xxxx` (reserved) 8C7x: R938. -/
  | res8C7x (p : BitVec 4)
  /-- `8C[1xxx]x-xxxx-xxxx-xxxx` (reserved) 8C8x..8CFx: R939. -/
  | res8C8x (p : BitVec 7)
  /-- `8C3x-9xxx` (reserved) 8C3e-9nst: R934. -/
  | resTacb9 (p : BitVec 4) (r : BitVec 12)
  /-- `8C3x-Axxx` (reserved) 8C3e-Anst: R934. -/
  | resTacbA (p : BitVec 4) (r : BitVec 12)
  /-- `8C3x-Bxxx` (reserved) 8C3e-Bnst: R934. -/
  | resTacbB (p : BitVec 4) (r : BitVec 12)
  deriving DecidableEq, Repr

end Sys2Proof
end

