-- ==== Sys2Proof/Decode.lean ====
section
/-! DEFINITION. Decode.lean: from words to instructions and back (spec/30_encoding.md).
The decoder looks at nibbles, in the notation of rule R10. Every nibble pattern that no row lists is rejected by name
(rule R210).
The functions that build an instruction are marked noncomputable for one reason: Lean's code generator has no tag for
a constructor past the 245th that has fields. The kernel evaluates them like any other definition. -/
namespace Sys2Proof

/-! ### Nibbles and bits -/

/-- A word from its nibbles, most significant first (rule R9). -/
def mk4 (a b c d : Nib) : IWord := a ++ b ++ c ++ d

/-- Nibble `k` of a word, 0 the least significant (rule R9). -/
def nib (w : IWord) (k : Nat) : Nib := w.extractLsb' (4 * k) 4

/-- A nibble from its bits, most significant first. -/
def bits4 (x3 x2 x1 x0 : Bool) : Nib :=
  BitVec.ofBool x3 ++ BitVec.ofBool x2 ++ BitVec.ofBool x1 ++ BitVec.ofBool x0

/-! ### Results -/

/-- Why a sequence of words is no instruction. -/
inductive Reject where
  /-- A 16-bit pattern that no row lists (rule R210). -/
  | unallocated16
  /-- A wide form whose words select no row (rules R210, R700, R722, R862, R910, R966). -/
  | unallocatedWide
  /-- A row of the other mode (rule R187). -/
  | wrongMode
  /-- Fewer words than the first word asks for (rule R186). -/
  | truncated
  deriving DecidableEq, Repr

/-- What the decoder answers. -/
inductive Decoded where
  | ok (i : Instr)
  | reject (r : Reject)
  deriving DecidableEq, Repr

/-! ### Lengths -/

/-- The length in bytes that the nibbles of the first word decide (rules R186, R187). -/
def lengthNib (jq : Bool) (a b c d : Nib) : Nat :=
  match a.toNat with
  | 0x0 => match d.toNat with
    | 0 => 4
    | 1 => 4
    | _ => 2
  | 0x3 => match d.toNat with
    | 1 => 4
    | 9 => 4
    | _ => 2
  | 0x8 => match b.toNat with
    | 0x2 => 4
    | 0x3 => 4
    | 0x6 => 4
    | 0x7 => 4
    | 0xA => 4
    | 0xC => if c.getLsbD 3 then 8 else 4
    | 0xE => 4
    | _ => 2
  | 0xC => if jq then
      match b.toNat with
      | 0xC => 4
      | 0xD => 4
      | 0xE => 8
      | 0xF => 8
      | _ => 2
    else 2
  | 0xF => match d.toNat with
    | 0xF => 4
    | _ => 2
  | _ => 2

/-- The length in bytes of the instruction that starts with `w` (rule R186). -/
def lengthOf (jq : Bool) (w : IWord) : Nat := lengthNib jq (nib w 3) (nib w 2) (nib w 1) (nib w 0)

/-- The reserved prefix, if any, that the first word alone selects (rules R938, R939, R953 to R959). -/
noncomputable def reservedNib (jq : Bool) (a b c d : Nib) : Option Instr :=
  match a.toNat with
  | 0x3 => match d.toNat with
    | 9 => some (.res3xx9 (b ++ c))
    | _ => none
  | 0x8 => match b.toNat with
    | 0x2 => some (.resXpfx1 (c ++ d))
    | 0x3 => some (.resXpfx3 (c ++ d))
    | 0x6 => some (.resXpfx4 (c ++ d))
    | 0x7 => some (.resXpfx5 (c ++ d))
    | 0xC => if c.getLsbD 3 then some (.res8C8x (c.extractLsb' 0 3 ++ d)) else
      match c.toNat with
      | 1 => some (.res8C1x d)
      | 2 => some (.res8C2x d)
      | 4 => some (.res8C4x d)
      | 5 => some (.res8C5x d)
      | 6 => some (.res8C6x d)
      | 7 => some (.res8C7x d)
      | _ => none
    | _ => none
  | 0xC => if jq then
      match b.toNat with
      | 0xC => some (.resXpfy0 (c ++ d))
      | 0xD => some (.resXpfy1 (c ++ d))
      | 0xF => some (.resXpfz1 (c ++ d))
      | _ => none
    else none
  | 0xF => match d.toNat with
    | 0xF => some (.resXpfv0 (b ++ c))
    | _ => none
  | _ => none

/-- The reserved prefix, if any, that a first word alone selects. -/
noncomputable def reservedFirst (jq : Bool) (w : IWord) : Option Instr :=
  reservedNib jq (nib w 3) (nib w 2) (nib w 1) (nib w 0)

/-- Whether a first word `CExx` of XPFZ0 selects no row whatever follows (rule R966). -/
def unallocatedXpfz0 (w : IWord) : Bool :=
  match (nib w 1).toNat with
  | 0x7 => false
  | 0xA => nib w 0 != 0
  | 0xB => nib w 0 != 0
  | 0xE => false
  | _ => true

/-! ### 16-bit and 32-bit forms -/

/-- The 16-bit forms `0xxx` (rule R230). -/
def decode16x0 (b c d : Nib) : Decoded :=
  match d.toNat with
  | 0x2 => match c.toNat with
    | 0x0 => .ok (.stcSrRn b)
    | 0x1 => .ok (.stcGbrRn b)
    | 0x2 => .ok (.stcVbrRn b)
    | 0x3 => .ok (.stcSsrRn b)
    | 0x4 => .ok (.stcSpcRn b)
    | _ => if c.getLsbD 3 then .ok (.stcRmBRn b (c.extractLsb' 0 3)) else .reject .unallocated16
  | 0x3 => match c.toNat with
    | 0x0 => .ok (.bsrfRm b)
    | 0x2 => .ok (.brafRm b)
    | 0x8 => .ok (.prefAtRn b)
    | 0xC => .ok (.movcaLR0AtRn b)
    | 0xE => .ok (.icbiAtRn b)
    | _ => .reject .unallocated16
  | 0x4 => .ok (.movBRmAtR0Rn b c)
  | 0x5 => .ok (.movWQRmAtR0Rn b c)
  | 0x6 => .ok (.movLRmAtR0Rn b c)
  | 0x7 => .ok (.mulLRmRn b c)
  | 0x8 => match b.toNat with
    | 0x0 => match c.toNat with
      | 0x0 => .ok .clrt
      | 0x1 => .ok .sett
      | 0x2 => .ok .clrmac
      | 0x3 => .ok .ldtlb
      | 0x4 => .ok .clrs
      | 0x5 => .ok .sets
      | 0x6 => .ok .nott
      | _ => .reject .unallocated16
    | 0x1 => match c.toNat with
      | 0x4 => .ok .iclrmdDQ
      | 0x5 => .ok .isetmdDQ
      | _ => .reject .unallocated16
    | 0x2 => match c.toNat with
      | 0x4 => .ok .iclrmdJQ
      | 0x5 => .ok .isetmdJQ
      | _ => .reject .unallocated16
    | 0x3 => match c.toNat with
      | 0x4 => .ok .iclrmdJDQ
      | 0x5 => .ok .isetmdJDQ
      | _ => .reject .unallocated16
    | _ => .reject .unallocated16
  | 0x9 => match c.toNat with
    | 0x0 => .ok (.nop b)
    | 0x1 => match b.toNat with
      | 0x0 => .ok .div0u
      | _ => .reject .unallocated16
    | 0x2 => .ok (.movtRn b)
    | 0x3 => .ok (.movrtRn b)
    | 0xA => .ok (.movuaLR0AtRm b)
    | 0xE => .ok (.movuaLR0AtDecRm b)
    | _ => .reject .unallocated16
  | 0xA => match c.toNat with
    | 0x0 => .ok (.stsMachRn b)
    | 0x1 => .ok (.stsMaclRn b)
    | 0x2 => .ok (.stsPrRn b)
    | 0x3 => .ok (.stcSgrRn b)
    | 0x5 => .ok (.stsFpulRn b)
    | 0x6 => .ok (.stsFpscrRn b)
    | 0xF => .ok (.stcDbrRn b)
    | _ => .reject .unallocated16
  | 0xB => match c.toNat with
    | 0x0 => match b.toNat with
      | 0x0 => .ok .rts
      | _ => .reject .unallocated16
    | 0x1 => match b.toNat with
      | 0x0 => .ok .sleep
      | _ => .reject .unallocated16
    | 0x2 => match b.toNat with
      | 0x0 => .ok .rte
      | _ => .reject .unallocated16
    | 0x3 => match b.toNat with
      | 0x0 => .ok .brk
      | _ => .reject .unallocated16
    | 0x5 => match b.toNat with
      | 0x0 => .ok .resbank
      | _ => .reject .unallocated16
    | 0x6 => match b.toNat with
      | 0x0 => .ok .rtsn
      | _ => .reject .unallocated16
    | 0x7 => .ok (.rtvnRm b)
    | 0xA => match b.toNat with
      | 0x0 => .ok .synco
      | _ => .reject .unallocated16
    | _ => .reject .unallocated16
  | 0xC => .ok (.movBAtR0RmRn b c)
  | 0xD => .ok (.movWQAtR0RmRn b c)
  | 0xE => .ok (.movLAtR0RmRn b c)
  | 0xF => .ok (.macLAtRmIncAtRnInc b c)
  | _ => .reject .unallocated16

/-- The 16-bit forms `1xxx` (rule R230). -/
def decode16x1 (b c d : Nib) : Decoded :=
  .ok (.movLRmAtRnDisp b c d)

/-- The 16-bit forms `2xxx` (rule R230). -/
def decode16x2 (b c d : Nib) : Decoded :=
  match d.toNat with
  | 0x0 => .ok (.movBRmAtRn b c)
  | 0x1 => .ok (.movWQRmAtRn b c)
  | 0x2 => .ok (.movLRmAtRn b c)
  | 0x3 => .ok (.casLRmRnAtR0 b c)
  | 0x4 => .ok (.movBRmAtDecRn b c)
  | 0x5 => .ok (.movWQRmAtDecRn b c)
  | 0x6 => .ok (.movLRmAtDecRn b c)
  | 0x7 => .ok (.div0sRmRn b c)
  | 0x8 => .ok (.tstRmRn b c)
  | 0x9 => .ok (.andRmRn b c)
  | 0xA => .ok (.xorRmRn b c)
  | 0xB => .ok (.orRmRn b c)
  | 0xC => .ok (.cmpstrRmRn b c)
  | 0xD => .ok (.xtrctRmRn b c)
  | 0xE => .ok (.muluWQRmRn b c)
  | 0xF => .ok (.mulsWQRmRn b c)
  | _ => .reject .unallocated16

/-- The 16-bit forms `3xxx` (rule R230). -/
def decode16x3 (b c d : Nib) : Decoded :=
  match d.toNat with
  | 0x0 => .ok (.cmpeqRmRn b c)
  | 0x2 => .ok (.cmphsRmRn b c)
  | 0x3 => .ok (.cmpgeRmRn b c)
  | 0x4 => .ok (.div1RmRn b c)
  | 0x5 => .ok (.dmuluLRmRn b c)
  | 0x6 => .ok (.cmphiRmRn b c)
  | 0x7 => .ok (.cmpgtRmRn b c)
  | 0x8 => .ok (.subRmRn b c)
  | 0xA => .ok (.subcRmRn b c)
  | 0xB => .ok (.subvRmRn b c)
  | 0xC => .ok (.addRmRn b c)
  | 0xD => .ok (.dmulsLRmRn b c)
  | 0xE => .ok (.addcRmRn b c)
  | 0xF => .ok (.addvRmRn b c)
  | _ => .reject .unallocated16

/-- The 16-bit forms `4xxx` (rule R230). -/
def decode16x4 (b c d : Nib) : Decoded :=
  match d.toNat with
  | 0x0 => match c.toNat with
    | 0x0 => .ok (.shllRn b)
    | 0x1 => .ok (.dtRn b)
    | 0x2 => .ok (.shalRn b)
    | _ => .reject .unallocated16
  | 0x1 => match c.toNat with
    | 0x0 => .ok (.shlrRn b)
    | 0x1 => .ok (.cmppzRn b)
    | 0x2 => .ok (.sharRn b)
    | _ => .reject .unallocated16
  | 0x2 => match c.toNat with
    | 0x0 => .ok (.stsLQMachAtDecRn b)
    | 0x1 => .ok (.stsLQMaclAtDecRn b)
    | 0x2 => .ok (.stsLQPrAtDecRn b)
    | 0x3 => .ok (.stcLQSgrAtDecRn b)
    | 0x5 => .ok (.stsLQFpulAtDecRn b)
    | 0x6 => .ok (.stsLQFpscrAtDecRn b)
    | 0xF => .ok (.stcLQDbrAtDecRn b)
    | _ => .reject .unallocated16
  | 0x3 => match c.toNat with
    | 0x0 => .ok (.stcLQSrAtDecRn b)
    | 0x1 => .ok (.stcLQGbrAtDecRn b)
    | 0x2 => .ok (.stcLQVbrAtDecRn b)
    | 0x3 => .ok (.stcLQSsrAtDecRn b)
    | 0x4 => .ok (.stcLQSpcAtDecRn b)
    | _ => if c.getLsbD 3 then .ok (.stcLQRmBAtDecRn b (c.extractLsb' 0 3)) else .reject .unallocated16
  | 0x4 => match c.toNat with
    | 0x0 => .ok (.rotlRn b)
    | 0x1 => .ok (.rot32Rn b)
    | 0x2 => .ok (.rotclRn b)
    | 0x3 => .ok (.shll4Rn b)
    | 0x4 => .ok (.extuLRn b)
    | 0x5 => .ok (.extsLRn b)
    | 0x6 => .ok (.movQWAtR0Rn b)
    | 0x7 => .ok (.movQWRmAtR0 b)
    | 0x8 => .ok (.divuR0Rn b)
    | 0x9 => .ok (.divsR0Rn b)
    | _ => .reject .unallocated16
  | 0x5 => match c.toNat with
    | 0x0 => .ok (.rotrRn b)
    | 0x1 => .ok (.cmpplRn b)
    | 0x2 => .ok (.rotcrRn b)
    | 0x3 => .ok (.shlr4Rn b)
    | 0x4 => .ok (.movhiR0RHn b)
    | 0x5 => .ok (.movhiRHmR0 b)
    | 0x6 => .ok (.movLAtPcIncRn b)
    | 0x7 => .ok (.movQAtPcIncRn b)
    | _ => .reject .unallocated16
  | 0x6 => match c.toNat with
    | 0x0 => .ok (.ldsLQAtRmIncMach b)
    | 0x1 => .ok (.ldsLQAtRmIncMacl b)
    | 0x2 => .ok (.ldsLQAtRmIncPr b)
    | 0x3 => .ok (.ldcLQAtRmIncSgr b)
    | 0x5 => .ok (.ldsLQAtRmIncFpul b)
    | 0x6 => .ok (.ldsLQAtRmIncFpscr b)
    | 0xF => .ok (.ldcLQAtRmIncDbr b)
    | _ => .reject .unallocated16
  | 0x7 => match c.toNat with
    | 0x0 => .ok (.ldcLQAtRmIncSr b)
    | 0x1 => .ok (.ldcLQAtRmIncGbr b)
    | 0x2 => .ok (.ldcLQAtRmIncVbr b)
    | 0x3 => .ok (.ldcLQAtRmIncSsr b)
    | 0x4 => .ok (.ldcLQAtRmIncSpc b)
    | _ => if c.getLsbD 3 then .ok (.ldcLQAtRmIncRnB b (c.extractLsb' 0 3)) else .reject .unallocated16
  | 0x8 => match c.toNat with
    | 0x0 => .ok (.shll2Rn b)
    | 0x1 => .ok (.shll8Rn b)
    | 0x2 => .ok (.shll16Rn b)
    | 0x3 => .ok (.shll32Rn b)
    | 0x4 => .ok (.pushLQRm b)
    | 0x5 => .ok (.popLQRn b)
    | _ => .reject .unallocated16
  | 0x9 => match c.toNat with
    | 0x0 => .ok (.shlr2Rn b)
    | 0x1 => .ok (.shlr8Rn b)
    | 0x2 => .ok (.shlr16Rn b)
    | 0x3 => .ok (.shlr32Rn b)
    | 0xA => .ok (.movuaLAtRmR0 b)
    | 0xE => .ok (.movuaLAtRmIncR0 b)
    | _ => .reject .unallocated16
  | 0xA => match c.toNat with
    | 0x0 => .ok (.ldsRmMach b)
    | 0x1 => .ok (.ldsRmMacl b)
    | 0x2 => .ok (.ldsRmPr b)
    | 0x3 => .ok (.ldcRmSgr b)
    | 0x5 => .ok (.ldsRmFpul b)
    | 0x6 => .ok (.ldsRmFpscr b)
    | 0xF => .ok (.ldcRmDbr b)
    | _ => .reject .unallocated16
  | 0xB => match c.toNat with
    | 0x0 => .ok (.jsrAtRm b)
    | 0x1 => .ok (.tasBAtRn b)
    | 0x2 => .ok (.jmpAtRm b)
    | 0x4 => .ok (.jsrnRm b)
    | 0x8 => .ok (.movBR0AtRnInc b)
    | 0x9 => .ok (.movWQR0AtRnInc b)
    | 0xA => .ok (.movLR0AtRnInc b)
    | 0xC => .ok (.movBAtDecRmR0 b)
    | 0xD => .ok (.movWQAtDecRmR0 b)
    | 0xE => .ok (.movLAtDecRmR0 b)
    | _ => .reject .unallocated16
  | 0xC => .ok (.shadRmRn b c)
  | 0xD => .ok (.shldRmRn b c)
  | 0xE => match c.toNat with
    | 0x0 => .ok (.ldcRmSr b)
    | 0x1 => .ok (.ldcRmGbr b)
    | 0x2 => .ok (.ldcRmVbr b)
    | 0x3 => .ok (.ldcRmSsr b)
    | 0x4 => .ok (.ldcRmSpc b)
    | _ => if c.getLsbD 3 then .ok (.ldcRmRnB b (c.extractLsb' 0 3)) else .reject .unallocated16
  | 0xF => .ok (.macWQAtRmIncAtRnInc b c)
  | _ => .reject .unallocated16

/-- The 16-bit forms `5xxx` (rule R230). -/
def decode16x5 (b c d : Nib) : Decoded :=
  .ok (.movLAtRmDispRn b c d)

/-- The 16-bit forms `6xxx` (rule R230). -/
def decode16x6 (b c d : Nib) : Decoded :=
  match d.toNat with
  | 0x0 => .ok (.movBAtRmRn b c)
  | 0x1 => .ok (.movWQAtRmRn b c)
  | 0x2 => .ok (.movLAtRmRn b c)
  | 0x3 => .ok (.movRmRn b c)
  | 0x4 => .ok (.movBAtRmIncRn b c)
  | 0x5 => .ok (.movWQAtRmIncRn b c)
  | 0x6 => .ok (.movLAtRmIncRn b c)
  | 0x7 => .ok (.notRmRn b c)
  | 0x8 => .ok (.swapBRmRn b c)
  | 0x9 => .ok (.swapWRmRn b c)
  | 0xA => .ok (.negcRmRn b c)
  | 0xB => .ok (.negRmRn b c)
  | 0xC => .ok (.extuBRmRn b c)
  | 0xD => .ok (.extuWRmRn b c)
  | 0xE => .ok (.extsBRmRn b c)
  | 0xF => .ok (.extsWRmRn b c)
  | _ => .reject .unallocated16

/-- The 16-bit forms `7xxx` (rule R230). -/
def decode16x7 (b c d : Nib) : Decoded :=
  .ok (.addImmRn b (c ++ d))

/-- The 16-bit forms `8xxx` (rule R230). -/
def decode16x8 (b c d : Nib) : Decoded :=
  match b.toNat with
  | 0x0 => .ok (.movBR0AtRnDisp c d)
  | 0x1 => .ok (.movWQR0AtRnDisp c d)
  | 0x4 => .ok (.movBAtRmDispR0 c d)
  | 0x5 => .ok (.movWQAtRmDispR0 c d)
  | 0x8 => .ok (.cmpeqImmR0 (c ++ d))
  | 0x9 => .ok (.bt (c ++ d))
  | 0xB => .ok (.bf (c ++ d))
  | 0xD => .ok (.bts (c ++ d))
  | 0xF => .ok (.bfs (c ++ d))
  | _ => .reject .unallocated16

/-- The 16-bit forms `9xxx` (rule R230). -/
def decode16x9 (b c d : Nib) : Decoded :=
  .ok (.movWQAtPcDispRn b (c ++ d))

/-- The 16-bit forms `Axxx` (rule R230). -/
def decode16xA (b c d : Nib) : Decoded :=
  .ok (.bra (b ++ c ++ d))

/-- The 16-bit forms `Bxxx` (rule R230). -/
def decode16xB (b c d : Nib) : Decoded :=
  .ok (.bsr (b ++ c ++ d))

/-- The 16-bit forms `Cxxx` (rule R230). -/
def decode16xC (jq : Bool) (b c d : Nib) : Decoded :=
  match b.toNat with
  | 0x0 => if jq then .reject .wrongMode else .ok (.movBR0AtGbrDisp (c ++ d))
  | 0x1 => if jq then .reject .wrongMode else .ok (.movWQR0AtGbrDisp (c ++ d))
  | 0x2 => if jq then .reject .wrongMode else .ok (.movLR0AtGbrDisp (c ++ d))
  | 0x3 => .ok (.trapaImm (c ++ d))
  | 0x4 => if jq then .reject .wrongMode else .ok (.movBAtGbrDispR0 (c ++ d))
  | 0x5 => if jq then .reject .wrongMode else .ok (.movWQAtGbrDispR0 (c ++ d))
  | 0x6 => if jq then .reject .wrongMode else .ok (.movLAtGbrDispR0 (c ++ d))
  | 0x7 => .ok (.movaAtPcDispR0 (c ++ d))
  | 0x8 => .ok (.tstImmR0 (c ++ d))
  | 0x9 => .ok (.andImmR0 (c ++ d))
  | 0xA => .ok (.xorImmR0 (c ++ d))
  | 0xB => .ok (.orImmR0 (c ++ d))
  | 0xC => if jq then .reject .wrongMode else .ok (.tstBImmAtGbrR0 (c ++ d))
  | 0xD => if jq then .reject .wrongMode else .ok (.andBImmAtGbrR0 (c ++ d))
  | 0xE => if jq then .reject .wrongMode else .ok (.xorBImmAtGbrR0 (c ++ d))
  | 0xF => if jq then .reject .wrongMode else .ok (.orBImmAtGbrR0 (c ++ d))
  | _ => .reject .unallocated16

/-- The 16-bit forms `Dxxx` (rule R230). -/
def decode16xD (b c d : Nib) : Decoded :=
  .ok (.movLAtPcDispRn b (c ++ d))

/-- The 16-bit forms `Exxx` (rule R230). -/
def decode16xE (b c d : Nib) : Decoded :=
  .ok (.movImmRn b (c ++ d))

/-- The 16-bit forms `Fxxx` (rule R230). -/
noncomputable def decode16xF (b c d : Nib) : Decoded :=
  match d.toNat with
  | 0x0 => .ok (.faddFRmFRn b c)
  | 0x1 => .ok (.fsubFRmFRn b c)
  | 0x2 => .ok (.fmulFRmFRn b c)
  | 0x3 => .ok (.fdivFRmFRn b c)
  | 0x4 => .ok (.fcmpeqFRmFRn b c)
  | 0x5 => .ok (.fcmpgtFRmFRn b c)
  | 0x6 => .ok (.fmovSAtR0RmFRn b c)
  | 0x7 => .ok (.fmovSFRmAtR0Rn b c)
  | 0x8 => .ok (.fmovSAtRmFRn b c)
  | 0x9 => .ok (.fmovSAtRmIncFRn b c)
  | 0xA => .ok (.fmovSFRmAtRn b c)
  | 0xB => .ok (.fmovSFRmAtDecRn b c)
  | 0xC => .ok (.fmovFRmFRn b c)
  | 0xD => match c.toNat with
    | 0x0 => .ok (.fstsFRn b)
    | 0x1 => .ok (.fldsFRm b)
    | 0x2 => .ok (.floatFRn b)
    | 0x3 => .ok (.ftrcFRm b)
    | 0x4 => .ok (.fnegFRn b)
    | 0x5 => .ok (.fabsFRn b)
    | 0x6 => .ok (.fsqrtFRn b)
    | 0x8 => .ok (.fldi0FRn b)
    | 0x9 => .ok (.fldi1FRn b)
    | 0xA => .ok (.fcnvsdFRn b)
    | 0xB => .ok (.fcnvdsFRm b)
    | 0xD => .ok (.psetmdImm4 b)
    | 0xF => match b.toNat with
      | 0x3 => .ok .fschg
      | 0x7 => .ok .fpchg
      | 0xB => .ok .frchg
      | _ => .reject .unallocated16
    | _ => .reject .unallocated16
  | 0xE => .ok (.fmacFRmFRn b c)
  | _ => .reject .unallocated16

/-- A 16-bit form from its four nibbles, most significant first (rules R181, R187, R230). -/
noncomputable def decode16 (jq : Bool) (a b c d : Nib) : Decoded :=
  match a.toNat with
  | 0x0 => decode16x0 b c d
  | 0x1 => decode16x1 b c d
  | 0x2 => decode16x2 b c d
  | 0x3 => decode16x3 b c d
  | 0x4 => decode16x4 b c d
  | 0x5 => decode16x5 b c d
  | 0x6 => decode16x6 b c d
  | 0x7 => decode16x7 b c d
  | 0x8 => decode16x8 b c d
  | 0x9 => decode16x9 b c d
  | 0xA => decode16xA b c d
  | 0xB => decode16xB b c d
  | 0xC => decode16xC jq b c d
  | 0xD => decode16xD b c d
  | 0xE => decode16xE b c d
  | 0xF => decode16xF b c d
  | _ => .reject .unallocated16

/-- The XPFX0 forms `8Exx-0xxx`: payload nibbles `h`, `l`, second word nibbles after its first (rules R182, R230). -/
noncomputable def decodeX0 (h l b c d : Nib) : Decoded :=
  match d.toNat with
  | 0x4 => .ok (.xMovBRmAtRnRoDisp4 h l b c)
  | 0x5 => .ok (.xMovWRmAtRnRoDisp4 h l b c)
  | 0x6 => .ok (.xMovLRmAtRnRoDisp4 h l b c)
  | 0x7 => .ok (.xMovQRmAtRnRoDisp4 h l b c)
  | 0xC => .ok (.xMovBAtRmRoDisp4Rn h l b c)
  | 0xD => .ok (.xMovWAtRmRoDisp4Rn h l b c)
  | 0xE => .ok (.xMovLAtRmRoDisp4Rn h l b c)
  | 0xF => .ok (.xMovQAtRmRoDisp4Rn h l b c)
  | _ => .reject .unallocatedWide

/-- The XPFX0 forms `8Exx-1xxx`: payload nibbles `h`, `l`, second word nibbles after its first (rules R182, R230). -/
noncomputable def decodeX1 (h l b c d : Nib) : Decoded :=
  .ok (.xMovLRmAtRnRoDisp8s (h ++ l) b c d)

/-- The XPFX0 forms `8Exx-2xxx`: payload nibbles `h`, `l`, second word nibbles after its first (rules R182, R230). -/
noncomputable def decodeX2 (h l b c d : Nib) : Decoded :=
  match d.toNat with
  | 0x0 => .ok (.xMovBRmAtRnDisp8s (h ++ l) b c)
  | 0x1 => .ok (.xMovWRmAtRnDisp8s (h ++ l) b c)
  | 0x2 => .ok (.xMovLRmAtRnDisp8s (h ++ l) b c)
  | 0x3 => .ok (.xMovQRmAtRnDisp8s (h ++ l) b c)
  | 0x4 => .ok (.xFmovSFRmAtRnDisp8s (h ++ l) b c)
  | 0x5 => .ok (.xFmovDDRmAtRnDisp8s (h ++ l) b c)
  | 0x6 => .ok (.xFmovSAtRmDisp8sFRn (h ++ l) b c)
  | 0x7 => .ok (.xFmovDAtRmDisp8sDRn (h ++ l) b c)
  | 0x9 => .ok (.xAndRmImm8Rn (h ++ l) b c)
  | 0xA => .ok (.xXorRmImm8Rn (h ++ l) b c)
  | 0xB => .ok (.xOrRmImm8Rn (h ++ l) b c)
  | 0xE => .ok (.xMullRmImm8Rn (h ++ l) b c)
  | _ => .reject .unallocatedWide

/-- The XPFX0 forms `8Exx-3xxx`: payload nibbles `h`, `l`, second word nibbles after its first (rules R182, R230). -/
noncomputable def decodeX3 (h l b c d : Nib) : Decoded :=
  match d.toNat with
  | 0x0 => .ok (.xCmpeqImm12Rn (h ++ l ++ c) b)
  | 0x2 => .ok (.xCmphsImm12Rn (h ++ l ++ c) b)
  | 0x3 => .ok (.xCmpgeImm12Rn (h ++ l ++ c) b)
  | 0x6 => .ok (.xCmphiImm12Rn (h ++ l ++ c) b)
  | 0x7 => .ok (.xCmpgtImm12Rn (h ++ l ++ c) b)
  | 0x8 => .ok (.xSubRmImm8Rn (h ++ l) b c)
  | 0xC => .ok (.xAddRmImm8Rn (h ++ l) b c)
  | _ => .reject .unallocatedWide

/-- The XPFX0 forms `8Exx-4xxx`: payload nibbles `h`, `l`, second word nibbles after its first (rules R182, R230). -/
noncomputable def decodeX4 (h l b c d : Nib) : Decoded :=
  match d.toNat with
  | 0x4 => match c.toNat with
    | 0x8 => .ok (.xMovBImmAtRn (h ++ l) b)
    | 0x9 => .ok (.xMovWImmAtRn (h ++ l) b)
    | 0xA => .ok (.xMovLImmAtRn (h ++ l) b)
    | 0xB => .ok (.xMovQImmAtRn (h ++ l) b)
    | 0xC => .ok (.xMovBImmAtDecRn (h ++ l) b)
    | 0xD => .ok (.xMovWImmAtDecRn (h ++ l) b)
    | 0xE => .ok (.xMovLImmAtDecRn (h ++ l) b)
    | 0xF => .ok (.xMovQImmAtDecRn (h ++ l) b)
    | _ => .reject .unallocatedWide
  | 0xC => .ok (.xShadRmImmRn (h ++ l) b c)
  | 0xD => .ok (.xShldRmImmRn (h ++ l) b c)
  | _ => .reject .unallocatedWide

/-- The XPFX0 forms `8Exx-5xxx`: payload nibbles `h`, `l`, second word nibbles after its first (rules R182, R230). -/
noncomputable def decodeX5 (h l b c d : Nib) : Decoded :=
  .ok (.xMovLAtRmRoDisp8sRn (h ++ l) b c d)

/-- The XPFX0 forms `8Exx-6xxx`: payload nibbles `h`, `l`, second word nibbles after its first (rules R182, R230). -/
noncomputable def decodeX6 (h l b c d : Nib) : Decoded :=
  match d.toNat with
  | 0x0 => .ok (.xMovBAtRmDisp8sRn (h ++ l) b c)
  | 0x1 => .ok (.xMovWAtRmDisp8sRn (h ++ l) b c)
  | 0x2 => .ok (.xMovLAtRmDisp8sRn (h ++ l) b c)
  | 0x3 => .ok (.xMovQAtRmDisp8sRn (h ++ l) b c)
  | 0x4 => .ok (.xLeaBAtRmRoDisp4Rn h l b c)
  | 0x5 => .ok (.xLeaWAtRmRoDisp4Rn h l b c)
  | 0x6 => .ok (.xLeaLAtRmRoDisp4Rn h l b c)
  | 0x7 => .ok (.xLeaQAtRmRoDisp4Rn h l b c)
  | 0x8 => .ok (.xLeaBAtRmDisp8sRn (h ++ l) b c)
  | 0x9 => .ok (.xLeaWAtRmDisp8sRn (h ++ l) b c)
  | 0xA => .ok (.xLeaLAtRmDisp8sRn (h ++ l) b c)
  | 0xB => .ok (.xLeaQAtRmDisp8sRn (h ++ l) b c)
  | 0xC => .ok (.xMovuBAtRmDisp8sRn (h ++ l) b c)
  | 0xD => .ok (.xMovuWAtRmDisp8sRn (h ++ l) b c)
  | 0xE => .ok (.xMovuLAtRmDisp8sRn (h ++ l) b c)
  | _ => .reject .unallocatedWide

/-- The XPFX0 forms `8Exx-7xxx`: payload nibbles `h`, `l`, second word nibbles after its first (rules R182, R230). -/
noncomputable def decodeX7 (h l b c d : Nib) : Decoded :=
  .ok (.xAddImm16Rn (h ++ l ++ c ++ d) b)

/-- The XPFX0 forms `8Exx-8xxx`: payload nibbles `h`, `l`, second word nibbles after its first (rules R182, R230). -/
noncomputable def decodeX8 (h l b c d : Nib) : Decoded :=
  match b.toNat with
  | 0x2 => .ok (.xBranDisp16 (h ++ l ++ c ++ d))
  | 0x3 => .ok (.xBsrnDisp16 (h ++ l ++ c ++ d))
  | 0x8 => .ok (.xCmpeqImm16R0 (h ++ l ++ c ++ d))
  | 0x9 => .ok (.xBtDisp16 (h ++ l ++ c ++ d))
  | 0xA => .ok (.xLdhf16ImmFpul (h ++ l ++ c ++ d))
  | 0xB => .ok (.xBfDisp16 (h ++ l ++ c ++ d))
  | 0xC => .ok (.xLdsh16ImmR0 (h ++ l ++ c ++ d))
  | 0xD => .ok (.xBtsDisp16 (h ++ l ++ c ++ d))
  | 0xF => .ok (.xBfsDisp16 (h ++ l ++ c ++ d))
  | _ => .reject .unallocatedWide

/-- The XPFX0 forms `8Exx-9xxx`: payload nibbles `h`, `l`, second word nibbles after its first (rules R182, R230). -/
noncomputable def decodeX9 (h l b c d : Nib) : Decoded :=
  match (h.extractLsb' 1 3).toNat with
  | 0 => .ok (.xMovaAtPcDisp13Rn (h.extractLsb' 0 1 ++ l ++ c ++ d) b)
  | 1 => .ok (.xMovuWAtPcDisp13Rn (h.extractLsb' 0 1 ++ l ++ c ++ d) b)
  | 2 => .ok (.xFmovSAtPcDisp13FRn (h.extractLsb' 0 1 ++ l ++ c ++ d) b)
  | 3 => .ok (.xMovuWAtPcDisp13RHn (h.extractLsb' 0 1 ++ l ++ c ++ d) b)
  | 4 => .ok (.xFmovSAtPcDisp13XFn (h.extractLsb' 0 1 ++ l ++ c ++ d) b)
  | 5 => .ok (.xMovuWAtPcDisp13RQn (h.extractLsb' 0 1 ++ l ++ c ++ d) b)
  | 6 => .ok (.xFmovDAtPcDisp13YDn (h.extractLsb' 0 1 ++ l ++ c ++ d) b)
  | 7 => .ok (.xFmovDAtPcDisp13DRn (h.extractLsb' 0 1 ++ l ++ c ++ d) b)
  | _ => .reject .unallocatedWide

/-- The XPFX0 forms `8Exx-Axxx`: payload nibbles `h`, `l`, second word nibbles after its first (rules R182, R230). -/
noncomputable def decodeXA (h l b c d : Nib) : Decoded :=
  .ok (.xBraDisp20 (h ++ l ++ b ++ c ++ d))

/-- The XPFX0 forms `8Exx-Bxxx`: payload nibbles `h`, `l`, second word nibbles after its first (rules R182, R230). -/
noncomputable def decodeXB (h l b c d : Nib) : Decoded :=
  .ok (.xBsrDisp20 (h ++ l ++ b ++ c ++ d))

/-- The XPFX0 forms `8Exx-Cxxx`: payload nibbles `h`, `l`, second word nibbles after its first (rules R182, R230). -/
noncomputable def decodeXC (h l b c d : Nib) : Decoded :=
  match b.toNat with
  | 0x8 => .ok (.xTstImm12Rn (h ++ l ++ d) c)
  | 0x9 => .ok (.xAndImm12Rn (h ++ l ++ d) c)
  | 0xA => .ok (.xXorImm12Rn (h ++ l ++ d) c)
  | 0xB => .ok (.xOrImm12Rn (h ++ l ++ d) c)
  | _ => .reject .unallocatedWide

/-- The XPFX0 forms `8Exx-Dxxx`: payload nibbles `h`, `l`, second word nibbles after its first (rules R182, R230). -/
noncomputable def decodeXD (h l b c d : Nib) : Decoded :=
  match (h.extractLsb' 1 3).toNat with
  | 0 => .ok (.xMovLAtPcDisp13Rn (h.extractLsb' 0 1 ++ l ++ c ++ d) b)
  | 1 => .ok (.xMovWAtPcDisp13Rn (h.extractLsb' 0 1 ++ l ++ c ++ d) b)
  | 2 => .ok (.xMovLAtPcDisp13RHn (h.extractLsb' 0 1 ++ l ++ c ++ d) b)
  | 3 => .ok (.xMovWAtPcDisp13RHn (h.extractLsb' 0 1 ++ l ++ c ++ d) b)
  | 4 => .ok (.xMovLAtPcDisp13RQn (h.extractLsb' 0 1 ++ l ++ c ++ d) b)
  | 5 => .ok (.xMovWAtPcDisp13RQn (h.extractLsb' 0 1 ++ l ++ c ++ d) b)
  | 6 => .ok (.xMovuLAtPcDisp13RQn (h.extractLsb' 0 1 ++ l ++ c ++ d) b)
  | 7 => .ok (.xMovQAtPcDisp13RQn (h.extractLsb' 0 1 ++ l ++ c ++ d) b)
  | _ => .reject .unallocatedWide

/-- The XPFX0 forms `8Exx-Exxx`: payload nibbles `h`, `l`, second word nibbles after its first (rules R182, R230). -/
noncomputable def decodeXE (h l b c d : Nib) : Decoded :=
  .ok (.xMovImm16Rn (h ++ l ++ c ++ d) b)

/-- The XPFX0 forms `8Exx-Fxxx`: payload nibbles `h`, `l`, second word nibbles after its first (rules R182, R230). -/
noncomputable def decodeXF (h l b c d : Nib) : Decoded :=
  match d.toNat with
  | 0x6 => .ok (.xvFmovSAtRmRoFRn h l b c)
  | 0x7 => .ok (.xvFmovSFRmAtRnRo h l b c)
  | 0x8 => .ok (.xvFmovSAtRmDisp4FRn h l b c)
  | 0x9 => match l.toNat with
    | 0x0 => .ok (.xvFmovSAtRmIncFRn h b c)
    | _ => .reject .unallocatedWide
  | 0xA => .ok (.xvFmovSFRmAtRnDisp4 h l b c)
  | 0xB => match l.toNat with
    | 0x0 => .ok (.xvFmovSFRmAtDecRn h b c)
    | _ => .reject .unallocatedWide
  | 0xC => .ok (.xvFmovFRmFRn (h ++ l) b c)
  | 0xD => match c.toNat with
    | 0xD => .ok (.xPsetmdImm12 (h ++ l ++ b))
    | _ => .reject .unallocatedWide
  | _ => .reject .unallocatedWide

/-- An XPFX0 form: payload nibbles `h`, `l`, second word `a b c d` (rules R182, R722). -/
noncomputable def decodeXpfx0 (h l a b c d : Nib) : Decoded :=
  match a.toNat with
  | 0x0 => decodeX0 h l b c d
  | 0x1 => decodeX1 h l b c d
  | 0x2 => decodeX2 h l b c d
  | 0x3 => decodeX3 h l b c d
  | 0x4 => decodeX4 h l b c d
  | 0x5 => decodeX5 h l b c d
  | 0x6 => decodeX6 h l b c d
  | 0x7 => decodeX7 h l b c d
  | 0x8 => decodeX8 h l b c d
  | 0x9 => decodeX9 h l b c d
  | 0xA => decodeXA h l b c d
  | 0xB => decodeXB h l b c d
  | 0xC => decodeXC h l b c d
  | 0xD => decodeXD h l b c d
  | 0xE => decodeXE h l b c d
  | 0xF => decodeXF h l b c d
  | _ => .reject .unallocatedWide

/-- The OPREX forms `8C0e-1xxx` (rules R183, R860, R862). -/
noncomputable def decodeO1 (e b c d : Nib) : Decoded :=
  if e.getLsbD 3 then .ok (.oMovQRmAtRnDisp5 (e.getLsbD 2) (e.getLsbD 1) (e.getLsbD 0) b c d) else .ok (.oMovLRmAtRnDisp5 (e.getLsbD 2) (e.getLsbD 1) (e.getLsbD 0) b c d)

/-- The OPREX forms `8C0e-2xxx` (rules R183, R860, R862). -/
noncomputable def decodeO2 (e b c d : Nib) : Decoded :=
  match d.toNat with
  | 0x0 => .ok (.oMovBRmAtRn (e.getLsbD 3) (e.getLsbD 2) (e.getLsbD 1) (e.getLsbD 0) b c)
  | 0x1 => .ok (.oMovWRmAtRn (e.getLsbD 3) (e.getLsbD 2) (e.getLsbD 1) (e.getLsbD 0) b c)
  | 0x2 => .ok (.oMovLRmAtRn (e.getLsbD 3) (e.getLsbD 2) (e.getLsbD 1) (e.getLsbD 0) b c)
  | 0x4 => .ok (.oMovBRmAtDecRn (e.getLsbD 3) (e.getLsbD 2) (e.getLsbD 1) (e.getLsbD 0) b c)
  | 0x5 => .ok (.oMovWRmAtDecRn (e.getLsbD 3) (e.getLsbD 2) (e.getLsbD 1) (e.getLsbD 0) b c)
  | 0x6 => .ok (.oMovLRmAtDecRn (e.getLsbD 3) (e.getLsbD 2) (e.getLsbD 1) (e.getLsbD 0) b c)
  | 0x8 => .ok (.oTstRmRn (e.getLsbD 3) (e.getLsbD 2) (e.getLsbD 1) (e.getLsbD 0) b c)
  | 0x9 => .ok (.oAndRmRn (e.getLsbD 3) (e.getLsbD 2) (e.getLsbD 1) (e.getLsbD 0) b c)
  | 0xA => .ok (.oXorRmRn (e.getLsbD 3) (e.getLsbD 2) (e.getLsbD 1) (e.getLsbD 0) b c)
  | 0xB => .ok (.oOrRmRn (e.getLsbD 3) (e.getLsbD 2) (e.getLsbD 1) (e.getLsbD 0) b c)
  | _ => .reject .unallocatedWide

/-- The OPREX forms `8C0e-3xxx` (rules R183, R860, R862). -/
noncomputable def decodeO3 (e b c d : Nib) : Decoded :=
  match d.toNat with
  | 0x0 => .ok (.oCmpeqRmRn (e.getLsbD 3) (e.getLsbD 2) (e.getLsbD 1) (e.getLsbD 0) b c)
  | 0x2 => .ok (.oCmphsRmRn (e.getLsbD 3) (e.getLsbD 2) (e.getLsbD 1) (e.getLsbD 0) b c)
  | 0x3 => .ok (.oCmpgeRmRn (e.getLsbD 3) (e.getLsbD 2) (e.getLsbD 1) (e.getLsbD 0) b c)
  | 0x6 => .ok (.oCmphiRmRn (e.getLsbD 3) (e.getLsbD 2) (e.getLsbD 1) (e.getLsbD 0) b c)
  | 0x7 => .ok (.oCmpgtRmRn (e.getLsbD 3) (e.getLsbD 2) (e.getLsbD 1) (e.getLsbD 0) b c)
  | 0x8 => .ok (.oSubRmRn (e.getLsbD 3) (e.getLsbD 2) (e.getLsbD 1) (e.getLsbD 0) b c)
  | 0xA => .ok (.oSubcRmRn (e.getLsbD 3) (e.getLsbD 2) (e.getLsbD 1) (e.getLsbD 0) b c)
  | 0xB => .ok (.oSubvRmRn (e.getLsbD 3) (e.getLsbD 2) (e.getLsbD 1) (e.getLsbD 0) b c)
  | 0xC => .ok (.oAddRmRn (e.getLsbD 3) (e.getLsbD 2) (e.getLsbD 1) (e.getLsbD 0) b c)
  | 0xE => .ok (.oAddcRmRn (e.getLsbD 3) (e.getLsbD 2) (e.getLsbD 1) (e.getLsbD 0) b c)
  | 0xF => .ok (.oAddvRmRn (e.getLsbD 3) (e.getLsbD 2) (e.getLsbD 1) (e.getLsbD 0) b c)
  | _ => .reject .unallocatedWide

/-- The OPREX forms `8C0e-5xxx` (rules R183, R860, R862). -/
noncomputable def decodeO5 (e b c d : Nib) : Decoded :=
  if e.getLsbD 3 then .ok (.oMovQAtRmDisp5Rn (e.getLsbD 2) (e.getLsbD 1) (e.getLsbD 0) b c d) else .ok (.oMovLAtRmDisp5Rn (e.getLsbD 2) (e.getLsbD 1) (e.getLsbD 0) b c d)

/-- The OPREX forms `8C0e-6xxx` (rules R183, R860, R862). -/
noncomputable def decodeO6 (e b c d : Nib) : Decoded :=
  match d.toNat with
  | 0x0 => .ok (.oMovBAtRmRn (e.getLsbD 3) (e.getLsbD 2) (e.getLsbD 1) (e.getLsbD 0) b c)
  | 0x1 => .ok (.oMovWAtRmRn (e.getLsbD 3) (e.getLsbD 2) (e.getLsbD 1) (e.getLsbD 0) b c)
  | 0x2 => .ok (.oMovLAtRmRn (e.getLsbD 3) (e.getLsbD 2) (e.getLsbD 1) (e.getLsbD 0) b c)
  | 0x3 => .ok (.oMovRmRn (e.getLsbD 3) (e.getLsbD 2) (e.getLsbD 1) (e.getLsbD 0) b c)
  | 0x4 => .ok (.oMovBAtRmIncRn (e.getLsbD 3) (e.getLsbD 2) (e.getLsbD 1) (e.getLsbD 0) b c)
  | 0x5 => .ok (.oMovWAtRmIncRn (e.getLsbD 3) (e.getLsbD 2) (e.getLsbD 1) (e.getLsbD 0) b c)
  | 0x6 => .ok (.oMovLAtRmIncRn (e.getLsbD 3) (e.getLsbD 2) (e.getLsbD 1) (e.getLsbD 0) b c)
  | 0x7 => .ok (.oNotRmRn (e.getLsbD 3) (e.getLsbD 2) (e.getLsbD 1) (e.getLsbD 0) b c)
  | 0xA => .ok (.oNegcRmRn (e.getLsbD 3) (e.getLsbD 2) (e.getLsbD 1) (e.getLsbD 0) b c)
  | 0xB => .ok (.oNegRmRn (e.getLsbD 3) (e.getLsbD 2) (e.getLsbD 1) (e.getLsbD 0) b c)
  | 0xC => .ok (.oExtuBRmRn (e.getLsbD 3) (e.getLsbD 2) (e.getLsbD 1) (e.getLsbD 0) b c)
  | 0xD => .ok (.oExtuWRmRn (e.getLsbD 3) (e.getLsbD 2) (e.getLsbD 1) (e.getLsbD 0) b c)
  | 0xE => .ok (.oExtsBRmRn (e.getLsbD 3) (e.getLsbD 2) (e.getLsbD 1) (e.getLsbD 0) b c)
  | 0xF => .ok (.oExtsWRmRn (e.getLsbD 3) (e.getLsbD 2) (e.getLsbD 1) (e.getLsbD 0) b c)
  | _ => .reject .unallocatedWide

/-- The OPREX forms `8C0e-Exxx` (rules R183, R860, R862). -/
noncomputable def decodeOE (e b c d : Nib) : Decoded :=
  .ok (.oMovImm10Rn (e.getLsbD 3) (e.getLsbD 2) (e.getLsbD 1) (e.getLsbD 0) b (c ++ d))

/-- An OPREX form: prefix nibble `e`, second word `a b c d` (rule R183). -/
noncomputable def decodeOprex (e a b c d : Nib) : Decoded :=
  match a.toNat with
  | 0x1 => decodeO1 e b c d
  | 0x2 => decodeO2 e b c d
  | 0x3 => decodeO3 e b c d
  | 0x5 => decodeO5 e b c d
  | 0x6 => decodeO6 e b c d
  | 0xE => decodeOE e b c d
  | _ => .reject .unallocatedWide

/-- A TACB form: prefix nibble `e`, second word `a b c d`. The cases of rule R910 are tried in its order:
Q = 0, e = 8, Q and N, Q and S; e = 9 selects no row. -/
noncomputable def decodeTacb (e a b c d : Nib) : Decoded :=
  match a.toNat with
  | 0x0 =>
    if e.getLsbD 3 then
      if e.getLsbD 2 then .ok (.tAddQRsImm6Rn (e.getLsbD 1) (e.getLsbD 0) b c d)
      else if e.getLsbD 1 then .ok (.tAddLRsImm5Rn (e.getLsbD 0) b c d)
      else if e.getLsbD 0 then .reject .unallocatedWide else .ok (.tAddRsRtRnQuad b c d)
    else .ok (.tAddRsRtRn (e.getLsbD 2) (e.getLsbD 1) (e.getLsbD 0) b c d)
  | 0x1 =>
    if e.getLsbD 3 then
      if e.getLsbD 2 then .ok (.tSubQRsImm6Rn (e.getLsbD 1) (e.getLsbD 0) b c d)
      else if e.getLsbD 1 then .ok (.tSubLRsImm5Rn (e.getLsbD 0) b c d)
      else if e.getLsbD 0 then .reject .unallocatedWide else .ok (.tSubRsRtRnQuad b c d)
    else .ok (.tSubRsRtRn (e.getLsbD 2) (e.getLsbD 1) (e.getLsbD 0) b c d)
  | 0x2 =>
    if e.getLsbD 3 then
      if e.getLsbD 2 || e.getLsbD 1 || e.getLsbD 0 then .reject .unallocatedWide else .ok (.tMulRsRtRnQuad b c d)
    else .ok (.tMulRsRtRn (e.getLsbD 2) (e.getLsbD 1) (e.getLsbD 0) b c d)
  | 0x3 =>
    if e.getLsbD 3 then
      if e.getLsbD 2 || e.getLsbD 1 || e.getLsbD 0 then .reject .unallocatedWide else .ok (.tAndRsRtRnQuad b c d)
    else .ok (.tAndRsRtRn (e.getLsbD 2) (e.getLsbD 1) (e.getLsbD 0) b c d)
  | 0x4 =>
    if e.getLsbD 3 then
      if e.getLsbD 2 || e.getLsbD 1 || e.getLsbD 0 then .reject .unallocatedWide else .ok (.tOrRsRtRnQuad b c d)
    else .ok (.tOrRsRtRn (e.getLsbD 2) (e.getLsbD 1) (e.getLsbD 0) b c d)
  | 0x5 =>
    if e.getLsbD 3 then
      if e.getLsbD 2 || e.getLsbD 1 || e.getLsbD 0 then .reject .unallocatedWide else .ok (.tXorRsRtRnQuad b c d)
    else .ok (.tXorRsRtRn (e.getLsbD 2) (e.getLsbD 1) (e.getLsbD 0) b c d)
  | 0x6 =>
    if e.getLsbD 3 then
      if e.getLsbD 2 then .ok (.tShllQRsImm6Rn (e.getLsbD 1) (e.getLsbD 0) b c d)
      else if e.getLsbD 1 then .ok (.tShllLRsImm5Rn (e.getLsbD 0) b c d)
      else if e.getLsbD 0 then .reject .unallocatedWide else .ok (.tShllRsRtRnQuad b c d)
    else .ok (.tShllRsRtRn (e.getLsbD 2) (e.getLsbD 1) (e.getLsbD 0) b c d)
  | 0x7 =>
    if e.getLsbD 3 then
      if e.getLsbD 2 then .ok (.tShlrQRsImm6Rn (e.getLsbD 1) (e.getLsbD 0) b c d)
      else if e.getLsbD 1 then .ok (.tShlrLRsImm5Rn (e.getLsbD 0) b c d)
      else if e.getLsbD 0 then .reject .unallocatedWide else .ok (.tShlrRsRtRnQuad b c d)
    else .ok (.tShlrRsRtRn (e.getLsbD 2) (e.getLsbD 1) (e.getLsbD 0) b c d)
  | 0x8 =>
    if e.getLsbD 3 then
      if e.getLsbD 2 then .ok (.tSharQRsImm6Rn (e.getLsbD 1) (e.getLsbD 0) b c d)
      else if e.getLsbD 1 then .ok (.tSharLRsImm5Rn (e.getLsbD 0) b c d)
      else if e.getLsbD 0 then .reject .unallocatedWide else .ok (.tSharRsRtRnQuad b c d)
    else .ok (.tSharRsRtRn (e.getLsbD 2) (e.getLsbD 1) (e.getLsbD 0) b c d)
  | 0x9 => .ok (.resTacb9 e (b ++ c ++ d))
  | 0xA => .ok (.resTacbA e (b ++ c ++ d))
  | 0xB => .ok (.resTacbB e (b ++ c ++ d))
  | 0xC => .ok (.tFaddFRsFRtFRn (e.getLsbD 3) (e.getLsbD 2) (e.getLsbD 1) (e.getLsbD 0) b c d)
  | 0xD => .ok (.tFsubFRsFRtFRn (e.getLsbD 3) (e.getLsbD 2) (e.getLsbD 1) (e.getLsbD 0) b c d)
  | 0xE => .ok (.tFmulFRsFRtFRn (e.getLsbD 3) (e.getLsbD 2) (e.getLsbD 1) (e.getLsbD 0) b c d)
  | 0xF => .ok (.tFdivFRsFRtFRn (e.getLsbD 3) (e.getLsbD 2) (e.getLsbD 1) (e.getLsbD 0) b c d)
  | _ => .reject .unallocatedWide

/-- The gated group `3nm1-xddd` (rules R943 to R952). -/
noncomputable def decodeMisc (n m a b c d : Nib) : Decoded :=
  match a.toNat with
  | 0x0 => .ok (.wMovBRmAtRnDisp n m (b ++ c ++ d))
  | 0x1 => .ok (.wMovWRmAtRnDisp n m (b ++ c ++ d))
  | 0x2 => .ok (.wMovLRmAtRnDisp n m (b ++ c ++ d))
  | 0x3 => .ok (.wFmovSFRmAtRnDisp n m (b ++ c ++ d))
  | 0x4 => .ok (.wMovBAtRmDispRn n m (b ++ c ++ d))
  | 0x5 => .ok (.wMovWAtRmDispRn n m (b ++ c ++ d))
  | 0x6 => .ok (.wMovLAtRmDispRn n m (b ++ c ++ d))
  | 0x7 => .ok (.wFmovSAtRmDispFRn n m (b ++ c ++ d))
  | 0x8 => .ok (.wMovuBAtRmDispRn n m (b ++ c ++ d))
  | 0x9 => .ok (.wMovuWAtRmDispRn n m (b ++ c ++ d))
  | _ => .reject .unallocatedWide

/-- A 32-bit form from its two words, most significant nibbles first (rules R182, R183, R184). -/
noncomputable def decode32 (a b c d e f g h : Nib) : Decoded :=
  match a.toNat with
  | 0x0 => match d.toNat with
    | 0 => .ok (.movi20ImmRn b (c ++ e ++ f ++ g ++ h))
    | 1 => .ok (.movi20sImmRn b (c ++ e ++ f ++ g ++ h))
    | _ => .reject .unallocatedWide
  | 0x3 => match d.toNat with
    | 1 => decodeMisc b c e f g h
    | _ => .reject .unallocatedWide
  | 0x8 => match b.toNat with
    | 0xA => .ok (.movi24Imm24R0 (c ++ d ++ e ++ f ++ g ++ h))
    | 0xC => match c.toNat with
      | 0 => decodeOprex d e f g h
      | 3 => decodeTacb d e f g h
      | _ => .reject .unallocatedWide
    | 0xE => decodeXpfx0 c d e f g h
    | _ => .reject .unallocatedWide
  | _ => .reject .unallocatedWide

/-- A 64-bit XPFZ0 form: the low nibbles `c d` of its first word and its three later words
(rules R184, R960 to R966). -/
noncomputable def decode64 (c d : Nib) (w1 w2 w3 : IWord) : Decoded :=
  match c.toNat with
  | 0x7 => .ok (.zAddQImm48Rn d (w1 ++ w2 ++ w3))
  | 0xA => match d.toNat with
    | 0 => .ok (.zBraDisp48 (w1 ++ w2 ++ w3))
    | _ => .reject .unallocatedWide
  | 0xB => match d.toNat with
    | 0 => .ok (.zBsrDisp48 (w1 ++ w2 ++ w3))
    | _ => .reject .unallocatedWide
  | 0xE => .ok (.zMovQImm48Rn d (w1 ++ w2 ++ w3))
  | _ => .reject .unallocatedWide

/-! ### Words and bytes -/

/-- The instruction that a list of words starts with, under the effective JQ (rules R186, R187, R230). A reserved
prefix is decided by its first word alone. -/
noncomputable def decodeWords (jq : Bool) (ws : List IWord) : Decoded :=
  match ws with
  | [] => .reject .truncated
  | w :: rest =>
    match reservedFirst jq w with
    | some i => .ok i
    | none =>
      match lengthOf jq w with
      | 2 => decode16 jq (nib w 3) (nib w 2) (nib w 1) (nib w 0)
      | 4 =>
        match rest with
        | w1 :: _ => decode32 (nib w 3) (nib w 2) (nib w 1) (nib w 0) (nib w1 3) (nib w1 2) (nib w1 1) (nib w1 0)
        | _ => .reject .truncated
      | _ =>
        match rest with
        | w1 :: w2 :: w3 :: _ => decode64 (nib w 1) (nib w 0) w1 w2 w3
        | _ => .reject .truncated

/-- The two bytes of a word in memory order (rule R133). -/
def wordBytes (e : Endian) (w : IWord) : List Byte :=
  match e with
  | .little => [w.extractLsb' 0 8, w.extractLsb' 8 8]
  | .big => [w.extractLsb' 8 8, w.extractLsb' 0 8]

/-- A word from the byte at the lower address and the byte at the higher (rule R133). -/
def wordOfBytes (e : Endian) (b0 b1 : Byte) : IWord :=
  match e with
  | .little => b1 ++ b0
  | .big => b0 ++ b1

/-- The words that a sequence of bytes holds; a last odd byte is left out (rule R133). -/
def wordsOfBytes (e : Endian) : List Byte → List IWord
  | b0 :: b1 :: bs => wordOfBytes e b0 b1 :: wordsOfBytes e bs
  | _ => []

/-- The decoder on bytes in memory order: total (rules R133, R210). -/
noncomputable def decode (e : Endian) (jq : Bool) (bs : List Byte) : Decoded := decodeWords jq (wordsOfBytes e bs)

/-! ### The encoder -/

/-- The words of an instruction, first word first, written from the same patterns (rules R181 to R184, R191).
The bits that a reserved row leaves undecoded after its first word are written 0. -/
def encode : Instr → List IWord
  | .movRmRn n m => [mk4 0x6#4 n m 0x3#4]
  | .movImmRn n imm => [mk4 0xE#4 n (imm.extractLsb' 4 4) (imm.extractLsb' 0 4)]
  | .movBRmAtRn n m => [mk4 0x2#4 n m 0x0#4]
  | .movWQRmAtRn n m => [mk4 0x2#4 n m 0x1#4]
  | .movLRmAtRn n m => [mk4 0x2#4 n m 0x2#4]
  | .movBAtRmRn n m => [mk4 0x6#4 n m 0x0#4]
  | .movWQAtRmRn n m => [mk4 0x6#4 n m 0x1#4]
  | .movLAtRmRn n m => [mk4 0x6#4 n m 0x2#4]
  | .movBRmAtDecRn n m => [mk4 0x2#4 n m 0x4#4]
  | .movWQRmAtDecRn n m => [mk4 0x2#4 n m 0x5#4]
  | .movLRmAtDecRn n m => [mk4 0x2#4 n m 0x6#4]
  | .movBAtRmIncRn n m => [mk4 0x6#4 n m 0x4#4]
  | .movWQAtRmIncRn n m => [mk4 0x6#4 n m 0x5#4]
  | .movLAtRmIncRn n m => [mk4 0x6#4 n m 0x6#4]
  | .movBRmAtR0Rn n m => [mk4 0x0#4 n m 0x4#4]
  | .movWQRmAtR0Rn n m => [mk4 0x0#4 n m 0x5#4]
  | .movLRmAtR0Rn n m => [mk4 0x0#4 n m 0x6#4]
  | .movBAtR0RmRn n m => [mk4 0x0#4 n m 0xC#4]
  | .movWQAtR0RmRn n m => [mk4 0x0#4 n m 0xD#4]
  | .movLAtR0RmRn n m => [mk4 0x0#4 n m 0xE#4]
  | .movLRmAtRnDisp n m disp => [mk4 0x1#4 n m disp]
  | .movLAtRmDispRn n m disp => [mk4 0x5#4 n m disp]
  | .movBR0AtRnDisp n disp => [mk4 0x8#4 0x0#4 n disp]
  | .movWQR0AtRnDisp n disp => [mk4 0x8#4 0x1#4 n disp]
  | .movBAtRmDispR0 m disp => [mk4 0x8#4 0x4#4 m disp]
  | .movWQAtRmDispR0 m disp => [mk4 0x8#4 0x5#4 m disp]
  | .movWQAtPcDispRn n disp => [mk4 0x9#4 n (disp.extractLsb' 4 4) (disp.extractLsb' 0 4)]
  | .movLAtPcDispRn n disp => [mk4 0xD#4 n (disp.extractLsb' 4 4) (disp.extractLsb' 0 4)]
  | .movaAtPcDispR0 disp => [mk4 0xC#4 0x7#4 (disp.extractLsb' 4 4) (disp.extractLsb' 0 4)]
  | .movBR0AtGbrDisp disp => [mk4 0xC#4 0x0#4 (disp.extractLsb' 4 4) (disp.extractLsb' 0 4)]
  | .movWQR0AtGbrDisp disp => [mk4 0xC#4 0x1#4 (disp.extractLsb' 4 4) (disp.extractLsb' 0 4)]
  | .movLR0AtGbrDisp disp => [mk4 0xC#4 0x2#4 (disp.extractLsb' 4 4) (disp.extractLsb' 0 4)]
  | .movBAtGbrDispR0 disp => [mk4 0xC#4 0x4#4 (disp.extractLsb' 4 4) (disp.extractLsb' 0 4)]
  | .movWQAtGbrDispR0 disp => [mk4 0xC#4 0x5#4 (disp.extractLsb' 4 4) (disp.extractLsb' 0 4)]
  | .movLAtGbrDispR0 disp => [mk4 0xC#4 0x6#4 (disp.extractLsb' 4 4) (disp.extractLsb' 0 4)]
  | .movBR0AtRnInc n => [mk4 0x4#4 n 0x8#4 0xB#4]
  | .movWQR0AtRnInc n => [mk4 0x4#4 n 0x9#4 0xB#4]
  | .movLR0AtRnInc n => [mk4 0x4#4 n 0xA#4 0xB#4]
  | .movBAtDecRmR0 m => [mk4 0x4#4 m 0xC#4 0xB#4]
  | .movWQAtDecRmR0 m => [mk4 0x4#4 m 0xD#4 0xB#4]
  | .movLAtDecRmR0 m => [mk4 0x4#4 m 0xE#4 0xB#4]
  | .pushLQRm m => [mk4 0x4#4 m 0x4#4 0x8#4]
  | .popLQRn n => [mk4 0x4#4 n 0x5#4 0x8#4]
  | .movQWAtR0Rn n => [mk4 0x4#4 n 0x6#4 0x4#4]
  | .movQWRmAtR0 m => [mk4 0x4#4 m 0x7#4 0x4#4]
  | .movuaLAtRmR0 m => [mk4 0x4#4 m 0xA#4 0x9#4]
  | .movuaLAtRmIncR0 m => [mk4 0x4#4 m 0xE#4 0x9#4]
  | .movuaLR0AtRm m => [mk4 0x0#4 m 0xA#4 0x9#4]
  | .movuaLR0AtDecRm m => [mk4 0x0#4 m 0xE#4 0x9#4]
  | .movtRn n => [mk4 0x0#4 n 0x2#4 0x9#4]
  | .movrtRn n => [mk4 0x0#4 n 0x3#4 0x9#4]
  | .swapBRmRn n m => [mk4 0x6#4 n m 0x8#4]
  | .swapWRmRn n m => [mk4 0x6#4 n m 0x9#4]
  | .xtrctRmRn n m => [mk4 0x2#4 n m 0xD#4]
  | .movLAtPcIncRn n => [mk4 0x4#4 n 0x6#4 0x5#4]
  | .movQAtPcIncRn n => [mk4 0x4#4 n 0x7#4 0x5#4]
  | .addRmRn n m => [mk4 0x3#4 n m 0xC#4]
  | .addImmRn n imm => [mk4 0x7#4 n (imm.extractLsb' 4 4) (imm.extractLsb' 0 4)]
  | .addcRmRn n m => [mk4 0x3#4 n m 0xE#4]
  | .addvRmRn n m => [mk4 0x3#4 n m 0xF#4]
  | .subRmRn n m => [mk4 0x3#4 n m 0x8#4]
  | .subcRmRn n m => [mk4 0x3#4 n m 0xA#4]
  | .subvRmRn n m => [mk4 0x3#4 n m 0xB#4]
  | .negRmRn n m => [mk4 0x6#4 n m 0xB#4]
  | .negcRmRn n m => [mk4 0x6#4 n m 0xA#4]
  | .cmpeqRmRn n m => [mk4 0x3#4 n m 0x0#4]
  | .cmphsRmRn n m => [mk4 0x3#4 n m 0x2#4]
  | .cmpgeRmRn n m => [mk4 0x3#4 n m 0x3#4]
  | .cmphiRmRn n m => [mk4 0x3#4 n m 0x6#4]
  | .cmpgtRmRn n m => [mk4 0x3#4 n m 0x7#4]
  | .cmppzRn n => [mk4 0x4#4 n 0x1#4 0x1#4]
  | .cmpplRn n => [mk4 0x4#4 n 0x1#4 0x5#4]
  | .cmpstrRmRn n m => [mk4 0x2#4 n m 0xC#4]
  | .cmpeqImmR0 imm => [mk4 0x8#4 0x8#4 (imm.extractLsb' 4 4) (imm.extractLsb' 0 4)]
  | .dtRn n => [mk4 0x4#4 n 0x1#4 0x0#4]
  | .extsBRmRn n m => [mk4 0x6#4 n m 0xE#4]
  | .extsWRmRn n m => [mk4 0x6#4 n m 0xF#4]
  | .extuBRmRn n m => [mk4 0x6#4 n m 0xC#4]
  | .extuWRmRn n m => [mk4 0x6#4 n m 0xD#4]
  | .mulLRmRn n m => [mk4 0x0#4 n m 0x7#4]
  | .muluWQRmRn n m => [mk4 0x2#4 n m 0xE#4]
  | .mulsWQRmRn n m => [mk4 0x2#4 n m 0xF#4]
  | .dmuluLRmRn n m => [mk4 0x3#4 n m 0x5#4]
  | .dmulsLRmRn n m => [mk4 0x3#4 n m 0xD#4]
  | .div0sRmRn n m => [mk4 0x2#4 n m 0x7#4]
  | .div0u => [mk4 0x0#4 0x0#4 0x1#4 0x9#4]
  | .div1RmRn n m => [mk4 0x3#4 n m 0x4#4]
  | .divuR0Rn n => [mk4 0x4#4 n 0x8#4 0x4#4]
  | .divsR0Rn n => [mk4 0x4#4 n 0x9#4 0x4#4]
  | .macLAtRmIncAtRnInc n m => [mk4 0x0#4 n m 0xF#4]
  | .macWQAtRmIncAtRnInc n m => [mk4 0x4#4 n m 0xF#4]
  | .andRmRn n m => [mk4 0x2#4 n m 0x9#4]
  | .andImmR0 imm => [mk4 0xC#4 0x9#4 (imm.extractLsb' 4 4) (imm.extractLsb' 0 4)]
  | .andBImmAtGbrR0 imm => [mk4 0xC#4 0xD#4 (imm.extractLsb' 4 4) (imm.extractLsb' 0 4)]
  | .orRmRn n m => [mk4 0x2#4 n m 0xB#4]
  | .orImmR0 imm => [mk4 0xC#4 0xB#4 (imm.extractLsb' 4 4) (imm.extractLsb' 0 4)]
  | .orBImmAtGbrR0 imm => [mk4 0xC#4 0xF#4 (imm.extractLsb' 4 4) (imm.extractLsb' 0 4)]
  | .xorRmRn n m => [mk4 0x2#4 n m 0xA#4]
  | .xorImmR0 imm => [mk4 0xC#4 0xA#4 (imm.extractLsb' 4 4) (imm.extractLsb' 0 4)]
  | .xorBImmAtGbrR0 imm => [mk4 0xC#4 0xE#4 (imm.extractLsb' 4 4) (imm.extractLsb' 0 4)]
  | .tstRmRn n m => [mk4 0x2#4 n m 0x8#4]
  | .tstImmR0 imm => [mk4 0xC#4 0x8#4 (imm.extractLsb' 4 4) (imm.extractLsb' 0 4)]
  | .tstBImmAtGbrR0 imm => [mk4 0xC#4 0xC#4 (imm.extractLsb' 4 4) (imm.extractLsb' 0 4)]
  | .notRmRn n m => [mk4 0x6#4 n m 0x7#4]
  | .tasBAtRn n => [mk4 0x4#4 n 0x1#4 0xB#4]
  | .shadRmRn n m => [mk4 0x4#4 n m 0xC#4]
  | .shldRmRn n m => [mk4 0x4#4 n m 0xD#4]
  | .shllRn n => [mk4 0x4#4 n 0x0#4 0x0#4]
  | .shalRn n => [mk4 0x4#4 n 0x2#4 0x0#4]
  | .shlrRn n => [mk4 0x4#4 n 0x0#4 0x1#4]
  | .sharRn n => [mk4 0x4#4 n 0x2#4 0x1#4]
  | .rotlRn n => [mk4 0x4#4 n 0x0#4 0x4#4]
  | .rotrRn n => [mk4 0x4#4 n 0x0#4 0x5#4]
  | .rotclRn n => [mk4 0x4#4 n 0x2#4 0x4#4]
  | .rotcrRn n => [mk4 0x4#4 n 0x2#4 0x5#4]
  | .shll2Rn n => [mk4 0x4#4 n 0x0#4 0x8#4]
  | .shll8Rn n => [mk4 0x4#4 n 0x1#4 0x8#4]
  | .shll16Rn n => [mk4 0x4#4 n 0x2#4 0x8#4]
  | .shlr2Rn n => [mk4 0x4#4 n 0x0#4 0x9#4]
  | .shlr8Rn n => [mk4 0x4#4 n 0x1#4 0x9#4]
  | .shlr16Rn n => [mk4 0x4#4 n 0x2#4 0x9#4]
  | .shll4Rn n => [mk4 0x4#4 n 0x3#4 0x4#4]
  | .shlr4Rn n => [mk4 0x4#4 n 0x3#4 0x5#4]
  | .shll32Rn n => [mk4 0x4#4 n 0x3#4 0x8#4]
  | .shlr32Rn n => [mk4 0x4#4 n 0x3#4 0x9#4]
  | .rot32Rn n => [mk4 0x4#4 n 0x1#4 0x4#4]
  | .movhiR0RHn n => [mk4 0x4#4 n 0x4#4 0x5#4]
  | .movhiRHmR0 m => [mk4 0x4#4 m 0x5#4 0x5#4]
  | .extuLRn n => [mk4 0x4#4 n 0x4#4 0x4#4]
  | .extsLRn n => [mk4 0x4#4 n 0x5#4 0x4#4]
  | .bt disp => [mk4 0x8#4 0x9#4 (disp.extractLsb' 4 4) (disp.extractLsb' 0 4)]
  | .bf disp => [mk4 0x8#4 0xB#4 (disp.extractLsb' 4 4) (disp.extractLsb' 0 4)]
  | .bts disp => [mk4 0x8#4 0xD#4 (disp.extractLsb' 4 4) (disp.extractLsb' 0 4)]
  | .bfs disp => [mk4 0x8#4 0xF#4 (disp.extractLsb' 4 4) (disp.extractLsb' 0 4)]
  | .bra disp => [mk4 0xA#4 (disp.extractLsb' 8 4) (disp.extractLsb' 4 4) (disp.extractLsb' 0 4)]
  | .bsr disp => [mk4 0xB#4 (disp.extractLsb' 8 4) (disp.extractLsb' 4 4) (disp.extractLsb' 0 4)]
  | .brafRm m => [mk4 0x0#4 m 0x2#4 0x3#4]
  | .bsrfRm m => [mk4 0x0#4 m 0x0#4 0x3#4]
  | .jmpAtRm m => [mk4 0x4#4 m 0x2#4 0xB#4]
  | .jsrAtRm m => [mk4 0x4#4 m 0x0#4 0xB#4]
  | .rts => [mk4 0x0#4 0x0#4 0x0#4 0xB#4]
  | .rtsn => [mk4 0x0#4 0x0#4 0x6#4 0xB#4]
  | .rtvnRm m => [mk4 0x0#4 m 0x7#4 0xB#4]
  | .jsrnRm m => [mk4 0x4#4 m 0x4#4 0xB#4]
  | .stcSrRn n => [mk4 0x0#4 n 0x0#4 0x2#4]
  | .stcGbrRn n => [mk4 0x0#4 n 0x1#4 0x2#4]
  | .stcVbrRn n => [mk4 0x0#4 n 0x2#4 0x2#4]
  | .stcSsrRn n => [mk4 0x0#4 n 0x3#4 0x2#4]
  | .stcSpcRn n => [mk4 0x0#4 n 0x4#4 0x2#4]
  | .stcRmBRn n b => [mk4 0x0#4 n (1#1 ++ b) 0x2#4]
  | .stcSgrRn n => [mk4 0x0#4 n 0x3#4 0xA#4]
  | .stcDbrRn n => [mk4 0x0#4 n 0xF#4 0xA#4]
  | .stsMachRn n => [mk4 0x0#4 n 0x0#4 0xA#4]
  | .stsMaclRn n => [mk4 0x0#4 n 0x1#4 0xA#4]
  | .stsPrRn n => [mk4 0x0#4 n 0x2#4 0xA#4]
  | .stsFpulRn n => [mk4 0x0#4 n 0x5#4 0xA#4]
  | .stsFpscrRn n => [mk4 0x0#4 n 0x6#4 0xA#4]
  | .ldcRmSr m => [mk4 0x4#4 m 0x0#4 0xE#4]
  | .ldcRmGbr m => [mk4 0x4#4 m 0x1#4 0xE#4]
  | .ldcRmVbr m => [mk4 0x4#4 m 0x2#4 0xE#4]
  | .ldcRmSsr m => [mk4 0x4#4 m 0x3#4 0xE#4]
  | .ldcRmSpc m => [mk4 0x4#4 m 0x4#4 0xE#4]
  | .ldcRmRnB m b => [mk4 0x4#4 m (1#1 ++ b) 0xE#4]
  | .ldcRmSgr m => [mk4 0x4#4 m 0x3#4 0xA#4]
  | .ldcRmDbr m => [mk4 0x4#4 m 0xF#4 0xA#4]
  | .ldsRmMach m => [mk4 0x4#4 m 0x0#4 0xA#4]
  | .ldsRmMacl m => [mk4 0x4#4 m 0x1#4 0xA#4]
  | .ldsRmPr m => [mk4 0x4#4 m 0x2#4 0xA#4]
  | .iclrmdDQ => [mk4 0x0#4 0x1#4 0x4#4 0x8#4]
  | .iclrmdJQ => [mk4 0x0#4 0x2#4 0x4#4 0x8#4]
  | .iclrmdJDQ => [mk4 0x0#4 0x3#4 0x4#4 0x8#4]
  | .isetmdDQ => [mk4 0x0#4 0x1#4 0x5#4 0x8#4]
  | .isetmdJQ => [mk4 0x0#4 0x2#4 0x5#4 0x8#4]
  | .isetmdJDQ => [mk4 0x0#4 0x3#4 0x5#4 0x8#4]
  | .ldsRmFpul m => [mk4 0x4#4 m 0x5#4 0xA#4]
  | .ldsRmFpscr m => [mk4 0x4#4 m 0x6#4 0xA#4]
  | .clrt => [mk4 0x0#4 0x0#4 0x0#4 0x8#4]
  | .sett => [mk4 0x0#4 0x0#4 0x1#4 0x8#4]
  | .clrs => [mk4 0x0#4 0x0#4 0x4#4 0x8#4]
  | .sets => [mk4 0x0#4 0x0#4 0x5#4 0x8#4]
  | .nott => [mk4 0x0#4 0x0#4 0x6#4 0x8#4]
  | .clrmac => [mk4 0x0#4 0x0#4 0x2#4 0x8#4]
  | .nop imm => [mk4 0x0#4 imm 0x0#4 0x9#4]
  | .trapaImm imm => [mk4 0xC#4 0x3#4 (imm.extractLsb' 4 4) (imm.extractLsb' 0 4)]
  | .rte => [mk4 0x0#4 0x0#4 0x2#4 0xB#4]
  | .sleep => [mk4 0x0#4 0x0#4 0x1#4 0xB#4]
  | .brk => [mk4 0x0#4 0x0#4 0x3#4 0xB#4]
  | .ldtlb => [mk4 0x0#4 0x0#4 0x3#4 0x8#4]
  | .resbank => [mk4 0x0#4 0x0#4 0x5#4 0xB#4]
  | .synco => [mk4 0x0#4 0x0#4 0xA#4 0xB#4]
  | .prefAtRn n => [mk4 0x0#4 n 0x8#4 0x3#4]
  | .movcaLR0AtRn n => [mk4 0x0#4 n 0xC#4 0x3#4]
  | .icbiAtRn n => [mk4 0x0#4 n 0xE#4 0x3#4]
  | .casLRmRnAtR0 n m => [mk4 0x2#4 n m 0x3#4]
  | .stsLQMachAtDecRn n => [mk4 0x4#4 n 0x0#4 0x2#4]
  | .stsLQMaclAtDecRn n => [mk4 0x4#4 n 0x1#4 0x2#4]
  | .stsLQPrAtDecRn n => [mk4 0x4#4 n 0x2#4 0x2#4]
  | .stcLQSgrAtDecRn n => [mk4 0x4#4 n 0x3#4 0x2#4]
  | .stsLQFpulAtDecRn n => [mk4 0x4#4 n 0x5#4 0x2#4]
  | .stsLQFpscrAtDecRn n => [mk4 0x4#4 n 0x6#4 0x2#4]
  | .stcLQDbrAtDecRn n => [mk4 0x4#4 n 0xF#4 0x2#4]
  | .stcLQSrAtDecRn n => [mk4 0x4#4 n 0x0#4 0x3#4]
  | .stcLQGbrAtDecRn n => [mk4 0x4#4 n 0x1#4 0x3#4]
  | .stcLQVbrAtDecRn n => [mk4 0x4#4 n 0x2#4 0x3#4]
  | .stcLQSsrAtDecRn n => [mk4 0x4#4 n 0x3#4 0x3#4]
  | .stcLQSpcAtDecRn n => [mk4 0x4#4 n 0x4#4 0x3#4]
  | .stcLQRmBAtDecRn n b => [mk4 0x4#4 n (1#1 ++ b) 0x3#4]
  | .ldsLQAtRmIncMach m => [mk4 0x4#4 m 0x0#4 0x6#4]
  | .ldsLQAtRmIncMacl m => [mk4 0x4#4 m 0x1#4 0x6#4]
  | .ldsLQAtRmIncPr m => [mk4 0x4#4 m 0x2#4 0x6#4]
  | .ldcLQAtRmIncSgr m => [mk4 0x4#4 m 0x3#4 0x6#4]
  | .ldsLQAtRmIncFpul m => [mk4 0x4#4 m 0x5#4 0x6#4]
  | .ldsLQAtRmIncFpscr m => [mk4 0x4#4 m 0x6#4 0x6#4]
  | .ldcLQAtRmIncDbr m => [mk4 0x4#4 m 0xF#4 0x6#4]
  | .ldcLQAtRmIncSr m => [mk4 0x4#4 m 0x0#4 0x7#4]
  | .ldcLQAtRmIncGbr m => [mk4 0x4#4 m 0x1#4 0x7#4]
  | .ldcLQAtRmIncVbr m => [mk4 0x4#4 m 0x2#4 0x7#4]
  | .ldcLQAtRmIncSsr m => [mk4 0x4#4 m 0x3#4 0x7#4]
  | .ldcLQAtRmIncSpc m => [mk4 0x4#4 m 0x4#4 0x7#4]
  | .ldcLQAtRmIncRnB m b => [mk4 0x4#4 m (1#1 ++ b) 0x7#4]
  | .faddFRmFRn n m => [mk4 0xF#4 n m 0x0#4]
  | .fsubFRmFRn n m => [mk4 0xF#4 n m 0x1#4]
  | .fmulFRmFRn n m => [mk4 0xF#4 n m 0x2#4]
  | .fdivFRmFRn n m => [mk4 0xF#4 n m 0x3#4]
  | .fcmpeqFRmFRn n m => [mk4 0xF#4 n m 0x4#4]
  | .fcmpgtFRmFRn n m => [mk4 0xF#4 n m 0x5#4]
  | .fmovSAtR0RmFRn n m => [mk4 0xF#4 n m 0x6#4]
  | .fmovSFRmAtR0Rn n m => [mk4 0xF#4 n m 0x7#4]
  | .fmovSAtRmFRn n m => [mk4 0xF#4 n m 0x8#4]
  | .fmovSAtRmIncFRn n m => [mk4 0xF#4 n m 0x9#4]
  | .fmovSFRmAtRn n m => [mk4 0xF#4 n m 0xA#4]
  | .fmovSFRmAtDecRn n m => [mk4 0xF#4 n m 0xB#4]
  | .fmovFRmFRn n m => [mk4 0xF#4 n m 0xC#4]
  | .fstsFRn n => [mk4 0xF#4 n 0x0#4 0xD#4]
  | .fldsFRm m => [mk4 0xF#4 m 0x1#4 0xD#4]
  | .floatFRn n => [mk4 0xF#4 n 0x2#4 0xD#4]
  | .ftrcFRm m => [mk4 0xF#4 m 0x3#4 0xD#4]
  | .fnegFRn n => [mk4 0xF#4 n 0x4#4 0xD#4]
  | .fabsFRn n => [mk4 0xF#4 n 0x5#4 0xD#4]
  | .fsqrtFRn n => [mk4 0xF#4 n 0x6#4 0xD#4]
  | .fldi0FRn n => [mk4 0xF#4 n 0x8#4 0xD#4]
  | .fldi1FRn n => [mk4 0xF#4 n 0x9#4 0xD#4]
  | .fcnvsdFRn n => [mk4 0xF#4 n 0xA#4 0xD#4]
  | .fcnvdsFRm m => [mk4 0xF#4 m 0xB#4 0xD#4]
  | .psetmdImm4 imm => [mk4 0xF#4 imm 0xD#4 0xD#4]
  | .fschg => [mk4 0xF#4 0x3#4 0xF#4 0xD#4]
  | .fpchg => [mk4 0xF#4 0x7#4 0xF#4 0xD#4]
  | .frchg => [mk4 0xF#4 0xB#4 0xF#4 0xD#4]
  | .fmacFRmFRn n m => [mk4 0xF#4 n m 0xE#4]
  | .xvFmovSAtRmRoFRn v o n m => [mk4 0x8#4 0xE#4 v o, mk4 0xF#4 n m 0x6#4]
  | .xvFmovSFRmAtRnRo v o n m => [mk4 0x8#4 0xE#4 v o, mk4 0xF#4 n m 0x7#4]
  | .xvFmovSAtRmDisp4FRn v disp n m => [mk4 0x8#4 0xE#4 v disp, mk4 0xF#4 n m 0x8#4]
  | .xvFmovSAtRmIncFRn v n m => [mk4 0x8#4 0xE#4 v 0x0#4, mk4 0xF#4 n m 0x9#4]
  | .xvFmovSFRmAtRnDisp4 v disp n m => [mk4 0x8#4 0xE#4 v disp, mk4 0xF#4 n m 0xA#4]
  | .xvFmovSFRmAtDecRn v n m => [mk4 0x8#4 0xE#4 v 0x0#4, mk4 0xF#4 n m 0xB#4]
  | .xvFmovFRmFRn v n m => [mk4 0x8#4 0xE#4 (v.extractLsb' 4 4) (v.extractLsb' 0 4), mk4 0xF#4 n m 0xC#4]
  | .xPsetmdImm12 imm => [mk4 0x8#4 0xE#4 (imm.extractLsb' 8 4) (imm.extractLsb' 4 4), mk4 0xF#4 (imm.extractLsb' 0 4) 0xD#4 0xD#4]
  | .xMovBRmAtRnRoDisp4 o disp n m => [mk4 0x8#4 0xE#4 o disp, mk4 0x0#4 n m 0x4#4]
  | .xMovWRmAtRnRoDisp4 o disp n m => [mk4 0x8#4 0xE#4 o disp, mk4 0x0#4 n m 0x5#4]
  | .xMovLRmAtRnRoDisp4 o disp n m => [mk4 0x8#4 0xE#4 o disp, mk4 0x0#4 n m 0x6#4]
  | .xMovQRmAtRnRoDisp4 o disp n m => [mk4 0x8#4 0xE#4 o disp, mk4 0x0#4 n m 0x7#4]
  | .xMovBAtRmRoDisp4Rn o disp n m => [mk4 0x8#4 0xE#4 o disp, mk4 0x0#4 n m 0xC#4]
  | .xMovWAtRmRoDisp4Rn o disp n m => [mk4 0x8#4 0xE#4 o disp, mk4 0x0#4 n m 0xD#4]
  | .xMovLAtRmRoDisp4Rn o disp n m => [mk4 0x8#4 0xE#4 o disp, mk4 0x0#4 n m 0xE#4]
  | .xMovQAtRmRoDisp4Rn o disp n m => [mk4 0x8#4 0xE#4 o disp, mk4 0x0#4 n m 0xF#4]
  | .xMovLRmAtRnRoDisp8s disp n m o => [mk4 0x8#4 0xE#4 (disp.extractLsb' 4 4) (disp.extractLsb' 0 4), mk4 0x1#4 n m o]
  | .xMovLAtRmRoDisp8sRn disp n m o => [mk4 0x8#4 0xE#4 (disp.extractLsb' 4 4) (disp.extractLsb' 0 4), mk4 0x5#4 n m o]
  | .xMovBRmAtRnDisp8s disp n m => [mk4 0x8#4 0xE#4 (disp.extractLsb' 4 4) (disp.extractLsb' 0 4), mk4 0x2#4 n m 0x0#4]
  | .xMovWRmAtRnDisp8s disp n m => [mk4 0x8#4 0xE#4 (disp.extractLsb' 4 4) (disp.extractLsb' 0 4), mk4 0x2#4 n m 0x1#4]
  | .xMovLRmAtRnDisp8s disp n m => [mk4 0x8#4 0xE#4 (disp.extractLsb' 4 4) (disp.extractLsb' 0 4), mk4 0x2#4 n m 0x2#4]
  | .xMovQRmAtRnDisp8s disp n m => [mk4 0x8#4 0xE#4 (disp.extractLsb' 4 4) (disp.extractLsb' 0 4), mk4 0x2#4 n m 0x3#4]
  | .xFmovSFRmAtRnDisp8s disp n m => [mk4 0x8#4 0xE#4 (disp.extractLsb' 4 4) (disp.extractLsb' 0 4), mk4 0x2#4 n m 0x4#4]
  | .xFmovDDRmAtRnDisp8s disp n m => [mk4 0x8#4 0xE#4 (disp.extractLsb' 4 4) (disp.extractLsb' 0 4), mk4 0x2#4 n m 0x5#4]
  | .xFmovSAtRmDisp8sFRn disp n m => [mk4 0x8#4 0xE#4 (disp.extractLsb' 4 4) (disp.extractLsb' 0 4), mk4 0x2#4 n m 0x6#4]
  | .xFmovDAtRmDisp8sDRn disp n m => [mk4 0x8#4 0xE#4 (disp.extractLsb' 4 4) (disp.extractLsb' 0 4), mk4 0x2#4 n m 0x7#4]
  | .xAndRmImm8Rn imm n m => [mk4 0x8#4 0xE#4 (imm.extractLsb' 4 4) (imm.extractLsb' 0 4), mk4 0x2#4 n m 0x9#4]
  | .xXorRmImm8Rn imm n m => [mk4 0x8#4 0xE#4 (imm.extractLsb' 4 4) (imm.extractLsb' 0 4), mk4 0x2#4 n m 0xA#4]
  | .xOrRmImm8Rn imm n m => [mk4 0x8#4 0xE#4 (imm.extractLsb' 4 4) (imm.extractLsb' 0 4), mk4 0x2#4 n m 0xB#4]
  | .xMullRmImm8Rn imm n m => [mk4 0x8#4 0xE#4 (imm.extractLsb' 4 4) (imm.extractLsb' 0 4), mk4 0x2#4 n m 0xE#4]
  | .xCmpeqImm12Rn imm n => [mk4 0x8#4 0xE#4 (imm.extractLsb' 8 4) (imm.extractLsb' 4 4), mk4 0x3#4 n (imm.extractLsb' 0 4) 0x0#4]
  | .xCmphsImm12Rn imm n => [mk4 0x8#4 0xE#4 (imm.extractLsb' 8 4) (imm.extractLsb' 4 4), mk4 0x3#4 n (imm.extractLsb' 0 4) 0x2#4]
  | .xCmpgeImm12Rn imm n => [mk4 0x8#4 0xE#4 (imm.extractLsb' 8 4) (imm.extractLsb' 4 4), mk4 0x3#4 n (imm.extractLsb' 0 4) 0x3#4]
  | .xCmphiImm12Rn imm n => [mk4 0x8#4 0xE#4 (imm.extractLsb' 8 4) (imm.extractLsb' 4 4), mk4 0x3#4 n (imm.extractLsb' 0 4) 0x6#4]
  | .xCmpgtImm12Rn imm n => [mk4 0x8#4 0xE#4 (imm.extractLsb' 8 4) (imm.extractLsb' 4 4), mk4 0x3#4 n (imm.extractLsb' 0 4) 0x7#4]
  | .xSubRmImm8Rn imm n m => [mk4 0x8#4 0xE#4 (imm.extractLsb' 4 4) (imm.extractLsb' 0 4), mk4 0x3#4 n m 0x8#4]
  | .xAddRmImm8Rn imm n m => [mk4 0x8#4 0xE#4 (imm.extractLsb' 4 4) (imm.extractLsb' 0 4), mk4 0x3#4 n m 0xC#4]
  | .xMovBImmAtRn imm n => [mk4 0x8#4 0xE#4 (imm.extractLsb' 4 4) (imm.extractLsb' 0 4), mk4 0x4#4 n 0x8#4 0x4#4]
  | .xMovWImmAtRn imm n => [mk4 0x8#4 0xE#4 (imm.extractLsb' 4 4) (imm.extractLsb' 0 4), mk4 0x4#4 n 0x9#4 0x4#4]
  | .xMovLImmAtRn imm n => [mk4 0x8#4 0xE#4 (imm.extractLsb' 4 4) (imm.extractLsb' 0 4), mk4 0x4#4 n 0xA#4 0x4#4]
  | .xMovQImmAtRn imm n => [mk4 0x8#4 0xE#4 (imm.extractLsb' 4 4) (imm.extractLsb' 0 4), mk4 0x4#4 n 0xB#4 0x4#4]
  | .xMovBImmAtDecRn imm n => [mk4 0x8#4 0xE#4 (imm.extractLsb' 4 4) (imm.extractLsb' 0 4), mk4 0x4#4 n 0xC#4 0x4#4]
  | .xMovWImmAtDecRn imm n => [mk4 0x8#4 0xE#4 (imm.extractLsb' 4 4) (imm.extractLsb' 0 4), mk4 0x4#4 n 0xD#4 0x4#4]
  | .xMovLImmAtDecRn imm n => [mk4 0x8#4 0xE#4 (imm.extractLsb' 4 4) (imm.extractLsb' 0 4), mk4 0x4#4 n 0xE#4 0x4#4]
  | .xMovQImmAtDecRn imm n => [mk4 0x8#4 0xE#4 (imm.extractLsb' 4 4) (imm.extractLsb' 0 4), mk4 0x4#4 n 0xF#4 0x4#4]
  | .xShadRmImmRn imm n m => [mk4 0x8#4 0xE#4 (imm.extractLsb' 4 4) (imm.extractLsb' 0 4), mk4 0x4#4 n m 0xC#4]
  | .xShldRmImmRn imm n m => [mk4 0x8#4 0xE#4 (imm.extractLsb' 4 4) (imm.extractLsb' 0 4), mk4 0x4#4 n m 0xD#4]
  | .xMovBAtRmDisp8sRn disp n m => [mk4 0x8#4 0xE#4 (disp.extractLsb' 4 4) (disp.extractLsb' 0 4), mk4 0x6#4 n m 0x0#4]
  | .xMovWAtRmDisp8sRn disp n m => [mk4 0x8#4 0xE#4 (disp.extractLsb' 4 4) (disp.extractLsb' 0 4), mk4 0x6#4 n m 0x1#4]
  | .xMovLAtRmDisp8sRn disp n m => [mk4 0x8#4 0xE#4 (disp.extractLsb' 4 4) (disp.extractLsb' 0 4), mk4 0x6#4 n m 0x2#4]
  | .xMovQAtRmDisp8sRn disp n m => [mk4 0x8#4 0xE#4 (disp.extractLsb' 4 4) (disp.extractLsb' 0 4), mk4 0x6#4 n m 0x3#4]
  | .xLeaBAtRmRoDisp4Rn o disp n m => [mk4 0x8#4 0xE#4 o disp, mk4 0x6#4 n m 0x4#4]
  | .xLeaWAtRmRoDisp4Rn o disp n m => [mk4 0x8#4 0xE#4 o disp, mk4 0x6#4 n m 0x5#4]
  | .xLeaLAtRmRoDisp4Rn o disp n m => [mk4 0x8#4 0xE#4 o disp, mk4 0x6#4 n m 0x6#4]
  | .xLeaQAtRmRoDisp4Rn o disp n m => [mk4 0x8#4 0xE#4 o disp, mk4 0x6#4 n m 0x7#4]
  | .xLeaBAtRmDisp8sRn disp n m => [mk4 0x8#4 0xE#4 (disp.extractLsb' 4 4) (disp.extractLsb' 0 4), mk4 0x6#4 n m 0x8#4]
  | .xLeaWAtRmDisp8sRn disp n m => [mk4 0x8#4 0xE#4 (disp.extractLsb' 4 4) (disp.extractLsb' 0 4), mk4 0x6#4 n m 0x9#4]
  | .xLeaLAtRmDisp8sRn disp n m => [mk4 0x8#4 0xE#4 (disp.extractLsb' 4 4) (disp.extractLsb' 0 4), mk4 0x6#4 n m 0xA#4]
  | .xLeaQAtRmDisp8sRn disp n m => [mk4 0x8#4 0xE#4 (disp.extractLsb' 4 4) (disp.extractLsb' 0 4), mk4 0x6#4 n m 0xB#4]
  | .xMovuBAtRmDisp8sRn disp n m => [mk4 0x8#4 0xE#4 (disp.extractLsb' 4 4) (disp.extractLsb' 0 4), mk4 0x6#4 n m 0xC#4]
  | .xMovuWAtRmDisp8sRn disp n m => [mk4 0x8#4 0xE#4 (disp.extractLsb' 4 4) (disp.extractLsb' 0 4), mk4 0x6#4 n m 0xD#4]
  | .xMovuLAtRmDisp8sRn disp n m => [mk4 0x8#4 0xE#4 (disp.extractLsb' 4 4) (disp.extractLsb' 0 4), mk4 0x6#4 n m 0xE#4]
  | .xAddImm16Rn imm n => [mk4 0x8#4 0xE#4 (imm.extractLsb' 12 4) (imm.extractLsb' 8 4), mk4 0x7#4 n (imm.extractLsb' 4 4) (imm.extractLsb' 0 4)]
  | .xBranDisp16 disp => [mk4 0x8#4 0xE#4 (disp.extractLsb' 12 4) (disp.extractLsb' 8 4), mk4 0x8#4 0x2#4 (disp.extractLsb' 4 4) (disp.extractLsb' 0 4)]
  | .xBsrnDisp16 disp => [mk4 0x8#4 0xE#4 (disp.extractLsb' 12 4) (disp.extractLsb' 8 4), mk4 0x8#4 0x3#4 (disp.extractLsb' 4 4) (disp.extractLsb' 0 4)]
  | .xCmpeqImm16R0 imm => [mk4 0x8#4 0xE#4 (imm.extractLsb' 12 4) (imm.extractLsb' 8 4), mk4 0x8#4 0x8#4 (imm.extractLsb' 4 4) (imm.extractLsb' 0 4)]
  | .xBtDisp16 disp => [mk4 0x8#4 0xE#4 (disp.extractLsb' 12 4) (disp.extractLsb' 8 4), mk4 0x8#4 0x9#4 (disp.extractLsb' 4 4) (disp.extractLsb' 0 4)]
  | .xLdhf16ImmFpul imm => [mk4 0x8#4 0xE#4 (imm.extractLsb' 12 4) (imm.extractLsb' 8 4), mk4 0x8#4 0xA#4 (imm.extractLsb' 4 4) (imm.extractLsb' 0 4)]
  | .xBfDisp16 disp => [mk4 0x8#4 0xE#4 (disp.extractLsb' 12 4) (disp.extractLsb' 8 4), mk4 0x8#4 0xB#4 (disp.extractLsb' 4 4) (disp.extractLsb' 0 4)]
  | .xLdsh16ImmR0 imm => [mk4 0x8#4 0xE#4 (imm.extractLsb' 12 4) (imm.extractLsb' 8 4), mk4 0x8#4 0xC#4 (imm.extractLsb' 4 4) (imm.extractLsb' 0 4)]
  | .xBtsDisp16 disp => [mk4 0x8#4 0xE#4 (disp.extractLsb' 12 4) (disp.extractLsb' 8 4), mk4 0x8#4 0xD#4 (disp.extractLsb' 4 4) (disp.extractLsb' 0 4)]
  | .xBfsDisp16 disp => [mk4 0x8#4 0xE#4 (disp.extractLsb' 12 4) (disp.extractLsb' 8 4), mk4 0x8#4 0xF#4 (disp.extractLsb' 4 4) (disp.extractLsb' 0 4)]
  | .xMovaAtPcDisp13Rn disp n => [mk4 0x8#4 0xE#4 (0#3 ++ disp.extractLsb' 12 1) (disp.extractLsb' 8 4), mk4 0x9#4 n (disp.extractLsb' 4 4) (disp.extractLsb' 0 4)]
  | .xMovuWAtPcDisp13Rn disp n => [mk4 0x8#4 0xE#4 (1#3 ++ disp.extractLsb' 12 1) (disp.extractLsb' 8 4), mk4 0x9#4 n (disp.extractLsb' 4 4) (disp.extractLsb' 0 4)]
  | .xFmovSAtPcDisp13FRn disp n => [mk4 0x8#4 0xE#4 (2#3 ++ disp.extractLsb' 12 1) (disp.extractLsb' 8 4), mk4 0x9#4 n (disp.extractLsb' 4 4) (disp.extractLsb' 0 4)]
  | .xMovuWAtPcDisp13RHn disp n => [mk4 0x8#4 0xE#4 (3#3 ++ disp.extractLsb' 12 1) (disp.extractLsb' 8 4), mk4 0x9#4 n (disp.extractLsb' 4 4) (disp.extractLsb' 0 4)]
  | .xFmovSAtPcDisp13XFn disp n => [mk4 0x8#4 0xE#4 (4#3 ++ disp.extractLsb' 12 1) (disp.extractLsb' 8 4), mk4 0x9#4 n (disp.extractLsb' 4 4) (disp.extractLsb' 0 4)]
  | .xMovuWAtPcDisp13RQn disp n => [mk4 0x8#4 0xE#4 (5#3 ++ disp.extractLsb' 12 1) (disp.extractLsb' 8 4), mk4 0x9#4 n (disp.extractLsb' 4 4) (disp.extractLsb' 0 4)]
  | .xFmovDAtPcDisp13YDn disp n => [mk4 0x8#4 0xE#4 (6#3 ++ disp.extractLsb' 12 1) (disp.extractLsb' 8 4), mk4 0x9#4 n (disp.extractLsb' 4 4) (disp.extractLsb' 0 4)]
  | .xFmovDAtPcDisp13DRn disp n => [mk4 0x8#4 0xE#4 (7#3 ++ disp.extractLsb' 12 1) (disp.extractLsb' 8 4), mk4 0x9#4 n (disp.extractLsb' 4 4) (disp.extractLsb' 0 4)]
  | .xBraDisp20 disp => [mk4 0x8#4 0xE#4 (disp.extractLsb' 16 4) (disp.extractLsb' 12 4), mk4 0xA#4 (disp.extractLsb' 8 4) (disp.extractLsb' 4 4) (disp.extractLsb' 0 4)]
  | .xBsrDisp20 disp => [mk4 0x8#4 0xE#4 (disp.extractLsb' 16 4) (disp.extractLsb' 12 4), mk4 0xB#4 (disp.extractLsb' 8 4) (disp.extractLsb' 4 4) (disp.extractLsb' 0 4)]
  | .xTstImm12Rn imm n => [mk4 0x8#4 0xE#4 (imm.extractLsb' 8 4) (imm.extractLsb' 4 4), mk4 0xC#4 0x8#4 n (imm.extractLsb' 0 4)]
  | .xAndImm12Rn imm n => [mk4 0x8#4 0xE#4 (imm.extractLsb' 8 4) (imm.extractLsb' 4 4), mk4 0xC#4 0x9#4 n (imm.extractLsb' 0 4)]
  | .xXorImm12Rn imm n => [mk4 0x8#4 0xE#4 (imm.extractLsb' 8 4) (imm.extractLsb' 4 4), mk4 0xC#4 0xA#4 n (imm.extractLsb' 0 4)]
  | .xOrImm12Rn imm n => [mk4 0x8#4 0xE#4 (imm.extractLsb' 8 4) (imm.extractLsb' 4 4), mk4 0xC#4 0xB#4 n (imm.extractLsb' 0 4)]
  | .xMovLAtPcDisp13Rn disp n => [mk4 0x8#4 0xE#4 (0#3 ++ disp.extractLsb' 12 1) (disp.extractLsb' 8 4), mk4 0xD#4 n (disp.extractLsb' 4 4) (disp.extractLsb' 0 4)]
  | .xMovWAtPcDisp13Rn disp n => [mk4 0x8#4 0xE#4 (1#3 ++ disp.extractLsb' 12 1) (disp.extractLsb' 8 4), mk4 0xD#4 n (disp.extractLsb' 4 4) (disp.extractLsb' 0 4)]
  | .xMovLAtPcDisp13RHn disp n => [mk4 0x8#4 0xE#4 (2#3 ++ disp.extractLsb' 12 1) (disp.extractLsb' 8 4), mk4 0xD#4 n (disp.extractLsb' 4 4) (disp.extractLsb' 0 4)]
  | .xMovWAtPcDisp13RHn disp n => [mk4 0x8#4 0xE#4 (3#3 ++ disp.extractLsb' 12 1) (disp.extractLsb' 8 4), mk4 0xD#4 n (disp.extractLsb' 4 4) (disp.extractLsb' 0 4)]
  | .xMovLAtPcDisp13RQn disp n => [mk4 0x8#4 0xE#4 (4#3 ++ disp.extractLsb' 12 1) (disp.extractLsb' 8 4), mk4 0xD#4 n (disp.extractLsb' 4 4) (disp.extractLsb' 0 4)]
  | .xMovWAtPcDisp13RQn disp n => [mk4 0x8#4 0xE#4 (5#3 ++ disp.extractLsb' 12 1) (disp.extractLsb' 8 4), mk4 0xD#4 n (disp.extractLsb' 4 4) (disp.extractLsb' 0 4)]
  | .xMovuLAtPcDisp13RQn disp n => [mk4 0x8#4 0xE#4 (6#3 ++ disp.extractLsb' 12 1) (disp.extractLsb' 8 4), mk4 0xD#4 n (disp.extractLsb' 4 4) (disp.extractLsb' 0 4)]
  | .xMovQAtPcDisp13RQn disp n => [mk4 0x8#4 0xE#4 (7#3 ++ disp.extractLsb' 12 1) (disp.extractLsb' 8 4), mk4 0xD#4 n (disp.extractLsb' 4 4) (disp.extractLsb' 0 4)]
  | .xMovImm16Rn imm n => [mk4 0x8#4 0xE#4 (imm.extractLsb' 12 4) (imm.extractLsb' 8 4), mk4 0xE#4 n (imm.extractLsb' 4 4) (imm.extractLsb' 0 4)]
  | .oMovLRmAtRnDisp5 nx mx bx n m disp => [mk4 0x8#4 0xC#4 0x0#4 (bits4 false nx mx bx), mk4 0x1#4 n m disp]
  | .oMovQRmAtRnDisp5 nx mx bx n m disp => [mk4 0x8#4 0xC#4 0x0#4 (bits4 true nx mx bx), mk4 0x1#4 n m disp]
  | .oMovBRmAtRn q nx mx bx n m => [mk4 0x8#4 0xC#4 0x0#4 (bits4 q nx mx bx), mk4 0x2#4 n m 0x0#4]
  | .oMovWRmAtRn q nx mx bx n m => [mk4 0x8#4 0xC#4 0x0#4 (bits4 q nx mx bx), mk4 0x2#4 n m 0x1#4]
  | .oMovLRmAtRn q nx mx bx n m => [mk4 0x8#4 0xC#4 0x0#4 (bits4 q nx mx bx), mk4 0x2#4 n m 0x2#4]
  | .oMovBRmAtDecRn q nx mx bx n m => [mk4 0x8#4 0xC#4 0x0#4 (bits4 q nx mx bx), mk4 0x2#4 n m 0x4#4]
  | .oMovWRmAtDecRn q nx mx bx n m => [mk4 0x8#4 0xC#4 0x0#4 (bits4 q nx mx bx), mk4 0x2#4 n m 0x5#4]
  | .oMovLRmAtDecRn q nx mx bx n m => [mk4 0x8#4 0xC#4 0x0#4 (bits4 q nx mx bx), mk4 0x2#4 n m 0x6#4]
  | .oTstRmRn q nx mx bx n m => [mk4 0x8#4 0xC#4 0x0#4 (bits4 q nx mx bx), mk4 0x2#4 n m 0x8#4]
  | .oAndRmRn q nx mx bx n m => [mk4 0x8#4 0xC#4 0x0#4 (bits4 q nx mx bx), mk4 0x2#4 n m 0x9#4]
  | .oXorRmRn q nx mx bx n m => [mk4 0x8#4 0xC#4 0x0#4 (bits4 q nx mx bx), mk4 0x2#4 n m 0xA#4]
  | .oOrRmRn q nx mx bx n m => [mk4 0x8#4 0xC#4 0x0#4 (bits4 q nx mx bx), mk4 0x2#4 n m 0xB#4]
  | .oCmpeqRmRn q nx mx bx n m => [mk4 0x8#4 0xC#4 0x0#4 (bits4 q nx mx bx), mk4 0x3#4 n m 0x0#4]
  | .oCmphsRmRn q nx mx bx n m => [mk4 0x8#4 0xC#4 0x0#4 (bits4 q nx mx bx), mk4 0x3#4 n m 0x2#4]
  | .oCmpgeRmRn q nx mx bx n m => [mk4 0x8#4 0xC#4 0x0#4 (bits4 q nx mx bx), mk4 0x3#4 n m 0x3#4]
  | .oCmphiRmRn q nx mx bx n m => [mk4 0x8#4 0xC#4 0x0#4 (bits4 q nx mx bx), mk4 0x3#4 n m 0x6#4]
  | .oCmpgtRmRn q nx mx bx n m => [mk4 0x8#4 0xC#4 0x0#4 (bits4 q nx mx bx), mk4 0x3#4 n m 0x7#4]
  | .oSubRmRn q nx mx bx n m => [mk4 0x8#4 0xC#4 0x0#4 (bits4 q nx mx bx), mk4 0x3#4 n m 0x8#4]
  | .oSubcRmRn q nx mx bx n m => [mk4 0x8#4 0xC#4 0x0#4 (bits4 q nx mx bx), mk4 0x3#4 n m 0xA#4]
  | .oSubvRmRn q nx mx bx n m => [mk4 0x8#4 0xC#4 0x0#4 (bits4 q nx mx bx), mk4 0x3#4 n m 0xB#4]
  | .oAddRmRn q nx mx bx n m => [mk4 0x8#4 0xC#4 0x0#4 (bits4 q nx mx bx), mk4 0x3#4 n m 0xC#4]
  | .oAddcRmRn q nx mx bx n m => [mk4 0x8#4 0xC#4 0x0#4 (bits4 q nx mx bx), mk4 0x3#4 n m 0xE#4]
  | .oAddvRmRn q nx mx bx n m => [mk4 0x8#4 0xC#4 0x0#4 (bits4 q nx mx bx), mk4 0x3#4 n m 0xF#4]
  | .oMovLAtRmDisp5Rn nx mx bx n m disp => [mk4 0x8#4 0xC#4 0x0#4 (bits4 false nx mx bx), mk4 0x5#4 n m disp]
  | .oMovQAtRmDisp5Rn nx mx bx n m disp => [mk4 0x8#4 0xC#4 0x0#4 (bits4 true nx mx bx), mk4 0x5#4 n m disp]
  | .oMovBAtRmRn q nx mx bx n m => [mk4 0x8#4 0xC#4 0x0#4 (bits4 q nx mx bx), mk4 0x6#4 n m 0x0#4]
  | .oMovWAtRmRn q nx mx bx n m => [mk4 0x8#4 0xC#4 0x0#4 (bits4 q nx mx bx), mk4 0x6#4 n m 0x1#4]
  | .oMovLAtRmRn q nx mx bx n m => [mk4 0x8#4 0xC#4 0x0#4 (bits4 q nx mx bx), mk4 0x6#4 n m 0x2#4]
  | .oMovRmRn q nx mx bx n m => [mk4 0x8#4 0xC#4 0x0#4 (bits4 q nx mx bx), mk4 0x6#4 n m 0x3#4]
  | .oMovBAtRmIncRn q nx mx bx n m => [mk4 0x8#4 0xC#4 0x0#4 (bits4 q nx mx bx), mk4 0x6#4 n m 0x4#4]
  | .oMovWAtRmIncRn q nx mx bx n m => [mk4 0x8#4 0xC#4 0x0#4 (bits4 q nx mx bx), mk4 0x6#4 n m 0x5#4]
  | .oMovLAtRmIncRn q nx mx bx n m => [mk4 0x8#4 0xC#4 0x0#4 (bits4 q nx mx bx), mk4 0x6#4 n m 0x6#4]
  | .oNotRmRn q nx mx bx n m => [mk4 0x8#4 0xC#4 0x0#4 (bits4 q nx mx bx), mk4 0x6#4 n m 0x7#4]
  | .oNegcRmRn q nx mx bx n m => [mk4 0x8#4 0xC#4 0x0#4 (bits4 q nx mx bx), mk4 0x6#4 n m 0xA#4]
  | .oNegRmRn q nx mx bx n m => [mk4 0x8#4 0xC#4 0x0#4 (bits4 q nx mx bx), mk4 0x6#4 n m 0xB#4]
  | .oExtuBRmRn q nx mx bx n m => [mk4 0x8#4 0xC#4 0x0#4 (bits4 q nx mx bx), mk4 0x6#4 n m 0xC#4]
  | .oExtuWRmRn q nx mx bx n m => [mk4 0x8#4 0xC#4 0x0#4 (bits4 q nx mx bx), mk4 0x6#4 n m 0xD#4]
  | .oExtsBRmRn q nx mx bx n m => [mk4 0x8#4 0xC#4 0x0#4 (bits4 q nx mx bx), mk4 0x6#4 n m 0xE#4]
  | .oExtsWRmRn q nx mx bx n m => [mk4 0x8#4 0xC#4 0x0#4 (bits4 q nx mx bx), mk4 0x6#4 n m 0xF#4]
  | .oMovImm10Rn q nx mx bx n imm => [mk4 0x8#4 0xC#4 0x0#4 (bits4 q nx mx bx), mk4 0xE#4 n (imm.extractLsb' 4 4) (imm.extractLsb' 0 4)]
  | .tAddRsRtRn nx sx tx n s t => [mk4 0x8#4 0xC#4 0x3#4 (bits4 false nx sx tx), mk4 0x0#4 n s t]
  | .tAddRsRtRnQuad n s t => [mk4 0x8#4 0xC#4 0x3#4 0x8#4, mk4 0x0#4 n s t]
  | .tAddLRsImm5Rn tx n s t => [mk4 0x8#4 0xC#4 0x3#4 (bits4 true false true tx), mk4 0x0#4 n s t]
  | .tAddQRsImm6Rn sx tx n s t => [mk4 0x8#4 0xC#4 0x3#4 (bits4 true true sx tx), mk4 0x0#4 n s t]
  | .tSubRsRtRn nx sx tx n s t => [mk4 0x8#4 0xC#4 0x3#4 (bits4 false nx sx tx), mk4 0x1#4 n s t]
  | .tSubRsRtRnQuad n s t => [mk4 0x8#4 0xC#4 0x3#4 0x8#4, mk4 0x1#4 n s t]
  | .tSubLRsImm5Rn tx n s t => [mk4 0x8#4 0xC#4 0x3#4 (bits4 true false true tx), mk4 0x1#4 n s t]
  | .tSubQRsImm6Rn sx tx n s t => [mk4 0x8#4 0xC#4 0x3#4 (bits4 true true sx tx), mk4 0x1#4 n s t]
  | .tMulRsRtRn nx sx tx n s t => [mk4 0x8#4 0xC#4 0x3#4 (bits4 false nx sx tx), mk4 0x2#4 n s t]
  | .tMulRsRtRnQuad n s t => [mk4 0x8#4 0xC#4 0x3#4 0x8#4, mk4 0x2#4 n s t]
  | .tAndRsRtRn nx sx tx n s t => [mk4 0x8#4 0xC#4 0x3#4 (bits4 false nx sx tx), mk4 0x3#4 n s t]
  | .tAndRsRtRnQuad n s t => [mk4 0x8#4 0xC#4 0x3#4 0x8#4, mk4 0x3#4 n s t]
  | .tOrRsRtRn nx sx tx n s t => [mk4 0x8#4 0xC#4 0x3#4 (bits4 false nx sx tx), mk4 0x4#4 n s t]
  | .tOrRsRtRnQuad n s t => [mk4 0x8#4 0xC#4 0x3#4 0x8#4, mk4 0x4#4 n s t]
  | .tXorRsRtRn nx sx tx n s t => [mk4 0x8#4 0xC#4 0x3#4 (bits4 false nx sx tx), mk4 0x5#4 n s t]
  | .tXorRsRtRnQuad n s t => [mk4 0x8#4 0xC#4 0x3#4 0x8#4, mk4 0x5#4 n s t]
  | .tShllRsRtRn nx sx tx n s t => [mk4 0x8#4 0xC#4 0x3#4 (bits4 false nx sx tx), mk4 0x6#4 n s t]
  | .tShllRsRtRnQuad n s t => [mk4 0x8#4 0xC#4 0x3#4 0x8#4, mk4 0x6#4 n s t]
  | .tShllLRsImm5Rn tx n s t => [mk4 0x8#4 0xC#4 0x3#4 (bits4 true false true tx), mk4 0x6#4 n s t]
  | .tShllQRsImm6Rn sx tx n s t => [mk4 0x8#4 0xC#4 0x3#4 (bits4 true true sx tx), mk4 0x6#4 n s t]
  | .tShlrRsRtRn nx sx tx n s t => [mk4 0x8#4 0xC#4 0x3#4 (bits4 false nx sx tx), mk4 0x7#4 n s t]
  | .tShlrRsRtRnQuad n s t => [mk4 0x8#4 0xC#4 0x3#4 0x8#4, mk4 0x7#4 n s t]
  | .tShlrLRsImm5Rn tx n s t => [mk4 0x8#4 0xC#4 0x3#4 (bits4 true false true tx), mk4 0x7#4 n s t]
  | .tShlrQRsImm6Rn sx tx n s t => [mk4 0x8#4 0xC#4 0x3#4 (bits4 true true sx tx), mk4 0x7#4 n s t]
  | .tSharRsRtRn nx sx tx n s t => [mk4 0x8#4 0xC#4 0x3#4 (bits4 false nx sx tx), mk4 0x8#4 n s t]
  | .tSharRsRtRnQuad n s t => [mk4 0x8#4 0xC#4 0x3#4 0x8#4, mk4 0x8#4 n s t]
  | .tSharLRsImm5Rn tx n s t => [mk4 0x8#4 0xC#4 0x3#4 (bits4 true false true tx), mk4 0x8#4 n s t]
  | .tSharQRsImm6Rn sx tx n s t => [mk4 0x8#4 0xC#4 0x3#4 (bits4 true true sx tx), mk4 0x8#4 n s t]
  | .tFaddFRsFRtFRn q nx sx tx n s t => [mk4 0x8#4 0xC#4 0x3#4 (bits4 q nx sx tx), mk4 0xC#4 n s t]
  | .tFsubFRsFRtFRn q nx sx tx n s t => [mk4 0x8#4 0xC#4 0x3#4 (bits4 q nx sx tx), mk4 0xD#4 n s t]
  | .tFmulFRsFRtFRn q nx sx tx n s t => [mk4 0x8#4 0xC#4 0x3#4 (bits4 q nx sx tx), mk4 0xE#4 n s t]
  | .tFdivFRsFRtFRn q nx sx tx n s t => [mk4 0x8#4 0xC#4 0x3#4 (bits4 q nx sx tx), mk4 0xF#4 n s t]
  | .movi24Imm24R0 imm => [mk4 0x8#4 0xA#4 (imm.extractLsb' 20 4) (imm.extractLsb' 16 4), mk4 (imm.extractLsb' 12 4) (imm.extractLsb' 8 4) (imm.extractLsb' 4 4) (imm.extractLsb' 0 4)]
  | .movi20ImmRn n imm => [mk4 0x0#4 n (imm.extractLsb' 16 4) 0x0#4, mk4 (imm.extractLsb' 12 4) (imm.extractLsb' 8 4) (imm.extractLsb' 4 4) (imm.extractLsb' 0 4)]
  | .movi20sImmRn n imm => [mk4 0x0#4 n (imm.extractLsb' 16 4) 0x1#4, mk4 (imm.extractLsb' 12 4) (imm.extractLsb' 8 4) (imm.extractLsb' 4 4) (imm.extractLsb' 0 4)]
  | .wMovBRmAtRnDisp n m disp => [mk4 0x3#4 n m 0x1#4, mk4 0x0#4 (disp.extractLsb' 8 4) (disp.extractLsb' 4 4) (disp.extractLsb' 0 4)]
  | .wMovWRmAtRnDisp n m disp => [mk4 0x3#4 n m 0x1#4, mk4 0x1#4 (disp.extractLsb' 8 4) (disp.extractLsb' 4 4) (disp.extractLsb' 0 4)]
  | .wMovLRmAtRnDisp n m disp => [mk4 0x3#4 n m 0x1#4, mk4 0x2#4 (disp.extractLsb' 8 4) (disp.extractLsb' 4 4) (disp.extractLsb' 0 4)]
  | .wFmovSFRmAtRnDisp n m disp => [mk4 0x3#4 n m 0x1#4, mk4 0x3#4 (disp.extractLsb' 8 4) (disp.extractLsb' 4 4) (disp.extractLsb' 0 4)]
  | .wMovBAtRmDispRn n m disp => [mk4 0x3#4 n m 0x1#4, mk4 0x4#4 (disp.extractLsb' 8 4) (disp.extractLsb' 4 4) (disp.extractLsb' 0 4)]
  | .wMovWAtRmDispRn n m disp => [mk4 0x3#4 n m 0x1#4, mk4 0x5#4 (disp.extractLsb' 8 4) (disp.extractLsb' 4 4) (disp.extractLsb' 0 4)]
  | .wMovLAtRmDispRn n m disp => [mk4 0x3#4 n m 0x1#4, mk4 0x6#4 (disp.extractLsb' 8 4) (disp.extractLsb' 4 4) (disp.extractLsb' 0 4)]
  | .wFmovSAtRmDispFRn n m disp => [mk4 0x3#4 n m 0x1#4, mk4 0x7#4 (disp.extractLsb' 8 4) (disp.extractLsb' 4 4) (disp.extractLsb' 0 4)]
  | .wMovuBAtRmDispRn n m disp => [mk4 0x3#4 n m 0x1#4, mk4 0x8#4 (disp.extractLsb' 8 4) (disp.extractLsb' 4 4) (disp.extractLsb' 0 4)]
  | .wMovuWAtRmDispRn n m disp => [mk4 0x3#4 n m 0x1#4, mk4 0x9#4 (disp.extractLsb' 8 4) (disp.extractLsb' 4 4) (disp.extractLsb' 0 4)]
  | .zAddQImm48Rn n imm => [mk4 0xC#4 0xE#4 0x7#4 n, mk4 (imm.extractLsb' 44 4) (imm.extractLsb' 40 4) (imm.extractLsb' 36 4) (imm.extractLsb' 32 4), mk4 (imm.extractLsb' 28 4) (imm.extractLsb' 24 4) (imm.extractLsb' 20 4) (imm.extractLsb' 16 4), mk4 (imm.extractLsb' 12 4) (imm.extractLsb' 8 4) (imm.extractLsb' 4 4) (imm.extractLsb' 0 4)]
  | .zBraDisp48 disp => [mk4 0xC#4 0xE#4 0xA#4 0x0#4, mk4 (disp.extractLsb' 44 4) (disp.extractLsb' 40 4) (disp.extractLsb' 36 4) (disp.extractLsb' 32 4), mk4 (disp.extractLsb' 28 4) (disp.extractLsb' 24 4) (disp.extractLsb' 20 4) (disp.extractLsb' 16 4), mk4 (disp.extractLsb' 12 4) (disp.extractLsb' 8 4) (disp.extractLsb' 4 4) (disp.extractLsb' 0 4)]
  | .zBsrDisp48 disp => [mk4 0xC#4 0xE#4 0xB#4 0x0#4, mk4 (disp.extractLsb' 44 4) (disp.extractLsb' 40 4) (disp.extractLsb' 36 4) (disp.extractLsb' 32 4), mk4 (disp.extractLsb' 28 4) (disp.extractLsb' 24 4) (disp.extractLsb' 20 4) (disp.extractLsb' 16 4), mk4 (disp.extractLsb' 12 4) (disp.extractLsb' 8 4) (disp.extractLsb' 4 4) (disp.extractLsb' 0 4)]
  | .zMovQImm48Rn n imm => [mk4 0xC#4 0xE#4 0xE#4 n, mk4 (imm.extractLsb' 44 4) (imm.extractLsb' 40 4) (imm.extractLsb' 36 4) (imm.extractLsb' 32 4), mk4 (imm.extractLsb' 28 4) (imm.extractLsb' 24 4) (imm.extractLsb' 20 4) (imm.extractLsb' 16 4), mk4 (imm.extractLsb' 12 4) (imm.extractLsb' 8 4) (imm.extractLsb' 4 4) (imm.extractLsb' 0 4)]
  | .resXpfx1 p => [mk4 0x8#4 0x2#4 (p.extractLsb' 4 4) (p.extractLsb' 0 4), mk4 0x0#4 0x0#4 0x0#4 0x0#4]
  | .resXpfx3 p => [mk4 0x8#4 0x3#4 (p.extractLsb' 4 4) (p.extractLsb' 0 4), mk4 0x0#4 0x0#4 0x0#4 0x0#4]
  | .resXpfx4 p => [mk4 0x8#4 0x6#4 (p.extractLsb' 4 4) (p.extractLsb' 0 4), mk4 0x0#4 0x0#4 0x0#4 0x0#4]
  | .resXpfx5 p => [mk4 0x8#4 0x7#4 (p.extractLsb' 4 4) (p.extractLsb' 0 4), mk4 0x0#4 0x0#4 0x0#4 0x0#4]
  | .resXpfy0 p => [mk4 0xC#4 0xC#4 (p.extractLsb' 4 4) (p.extractLsb' 0 4), mk4 0x0#4 0x0#4 0x0#4 0x0#4]
  | .resXpfy1 p => [mk4 0xC#4 0xD#4 (p.extractLsb' 4 4) (p.extractLsb' 0 4), mk4 0x0#4 0x0#4 0x0#4 0x0#4]
  | .resXpfz1 p => [mk4 0xC#4 0xF#4 (p.extractLsb' 4 4) (p.extractLsb' 0 4), mk4 0x0#4 0x0#4 0x0#4 0x0#4, mk4 0x0#4 0x0#4 0x0#4 0x0#4, mk4 0x0#4 0x0#4 0x0#4 0x0#4]
  | .resXpfv0 p => [mk4 0xF#4 (p.extractLsb' 4 4) (p.extractLsb' 0 4) 0xF#4, mk4 0x0#4 0x0#4 0x0#4 0x0#4]
  | .res3xx9 p => [mk4 0x3#4 (p.extractLsb' 4 4) (p.extractLsb' 0 4) 0x9#4, mk4 0x0#4 0x0#4 0x0#4 0x0#4]
  | .res8C1x p => [mk4 0x8#4 0xC#4 0x1#4 p, mk4 0x0#4 0x0#4 0x0#4 0x0#4]
  | .res8C2x p => [mk4 0x8#4 0xC#4 0x2#4 p, mk4 0x0#4 0x0#4 0x0#4 0x0#4]
  | .res8C4x p => [mk4 0x8#4 0xC#4 0x4#4 p, mk4 0x0#4 0x0#4 0x0#4 0x0#4]
  | .res8C5x p => [mk4 0x8#4 0xC#4 0x5#4 p, mk4 0x0#4 0x0#4 0x0#4 0x0#4]
  | .res8C6x p => [mk4 0x8#4 0xC#4 0x6#4 p, mk4 0x0#4 0x0#4 0x0#4 0x0#4]
  | .res8C7x p => [mk4 0x8#4 0xC#4 0x7#4 p, mk4 0x0#4 0x0#4 0x0#4 0x0#4]
  | .res8C8x p => [mk4 0x8#4 0xC#4 (1#1 ++ p.extractLsb' 4 3) (p.extractLsb' 0 4), mk4 0x0#4 0x0#4 0x0#4 0x0#4, mk4 0x0#4 0x0#4 0x0#4 0x0#4, mk4 0x0#4 0x0#4 0x0#4 0x0#4]
  | .resTacb9 p r => [mk4 0x8#4 0xC#4 0x3#4 p, mk4 0x9#4 (r.extractLsb' 8 4) (r.extractLsb' 4 4) (r.extractLsb' 0 4)]
  | .resTacbA p r => [mk4 0x8#4 0xC#4 0x3#4 p, mk4 0xA#4 (r.extractLsb' 8 4) (r.extractLsb' 4 4) (r.extractLsb' 0 4)]
  | .resTacbB p r => [mk4 0x8#4 0xC#4 0x3#4 p, mk4 0xB#4 (r.extractLsb' 8 4) (r.extractLsb' 4 4) (r.extractLsb' 0 4)]

/-- The first word of an instruction: the value that an illegal-instruction trap records (rule R971). -/
def firstWord (i : Instr) : IWord := (encode i).headD 0

/-- The length in bytes of an instruction. -/
def Instr.length (i : Instr) : Nat := 2 * (encode i).length

/-- The bytes of an instruction in memory order. -/
def encodeBytes (e : Endian) (i : Instr) : List Byte := (encode i).flatMap (wordBytes e)

/-! ### The host's question -/

/-- The four words of a table word: as spec/opcode_table.json numbers them (rule R230: `w0 : w1 : w2 : w3`), the first
word is the most significant; the words after the first `nbits` bits are 0 (log 6). -/
def tableWords (nbits w : Nat) : List IWord :=
  match nbits with
  | 16 => [BitVec.ofNat 16 w, 0, 0, 0]
  | 32 => [BitVec.ofNat 16 (w / 2 ^ 16), BitVec.ofNat 16 w, 0, 0]
  | _ => [BitVec.ofNat 16 (w / 2 ^ 48), BitVec.ofNat 16 (w / 2 ^ 32), BitVec.ofNat 16 (w / 2 ^ 16), BitVec.ofNat 16 w]

/-- The effective JQ under which a table word is read: rows of one word are read with JQ = 0 and longer rows with
JQ = 1, which covers the mode of every row (rules R187, R230, log 7). -/
def tableJq (nbits : Nat) : Bool := nbits != 16

/-- What the decoder reads from the bits `w` of a table row of `nbits` bits, laid out in little-endian byte order. -/
noncomputable def decodeTableWord (nbits w : Nat) : Option Instr :=
  match decode .little (tableJq nbits) ((tableWords nbits w).flatMap (wordBytes .little)) with
  | .ok i => some i
  | .reject _ => none

end Sys2Proof
end

