-- ==== Sys2Proof/Machine/State.lean ====
section
/-! DEFINITION. Machine/State.lean: the state of one BJX1 core (spec/10_state.md), as plain data, and its value
after reset. -/
namespace Sys2Proof.Machine

/-- Why the machine stops without a next state: there is no reason. The spec gives no halt (rule R1055), every
exception it names is taken (rule R970 (10)), and every instruction of the table has an effect. Safe. -/
inductive Fault : Type
  deriving DecidableEq, Repr

/-- Why an instruction is refused. -/
inductive Refusal where
  /-- Raised by an arm of `exec` whose instruction has no meaning yet. Safe. No arm uses it. -/
  | notModelled (mnemonic : String)
  /-- Raised by `State.resolve` for an access to a device range, or to a physical address in a device
  region, whose behaviour the spec does not give (rules R134 (5), R139:
  a model may refuse it). Safe (log 8). -/
  | deviceAccess (address : Quad)
  deriving DecidableEq, Repr

/-- Memory: bytes by physical address, strictly rising, no listed byte equal to 0 (log 5). -/
abbrev Memory := List Host.Cell

/-- The pending delayed branch (rule R110). -/
structure DelaySlot where
  /-- Where control goes after the slot instruction. -/
  target : Quad
  /-- The address of the branch. -/
  branchPc : Quad
  /-- Whether RTE set it, so that the slot is fetched with supervisor rights (rule R582, log 23). -/
  fromRte : Bool
  deriving DecidableEq, Repr

/-- The interrupt input (rules R111, R995): bit L of `levels` is a pending request of level L (1 to 15). -/
structure Irq where
  levels : BitVec 16
  nmi : Bool
  deriving DecidableEq, Repr

/-- The record of the last trap entry (rule R112). -/
structure LastTrap where
  kind : TrapKind
  code : Dword
  value : Quad
  deriving DecidableEq, Repr

/-- What a stale fetch may still see: one event of memory as instruction fetch knows it (rule R136, log 11). -/
inductive CacheEvent where
  /-- A byte was stored at the physical address `p`, where `old` was before (rule R135). -/
  | stored (p : Nat) (old : Byte)
  /-- An ICBI of the address `a`, the `draw`-th free choice being its reach (rule R594, log 12). -/
  | icbi (draw : Nat) (a : Quad)
  deriving DecidableEq, Repr

/-- The whole state of one core. Registers of XLEN bits are 64-bit cells (log 24). -/
structure State where
  /-- The implementation parameters (rule R8). No step writes them. -/
  cfg : Config
  /-- Bank A of R0 to R7 (rule R51). -/
  ga : Vector Quad 8
  /-- Bank B of R0 to R7 (rule R51). -/
  gb : Vector Quad 8
  /-- R8 to R15 (rule R51). -/
  g : Vector Quad 8
  /-- The program counter (rule R60). -/
  pc : Quad
  /-- SR in the lower half, SRH in the upper (rules R65, R78). -/
  sr : Quad
  /-- GBR (rule R79). -/
  gbr : Quad
  /-- VBR (rule R80). -/
  vbr : Quad
  /-- SSR (rule R81). -/
  ssr : Quad
  /-- SPC (rule R81). -/
  spc : Quad
  /-- SGR (rule R81). -/
  sgr : Quad
  /-- DBR (rule R84). -/
  dbr : Quad
  /-- MACH, with XMACH in its upper half (rule R85). -/
  mach : Quad
  /-- MACL, with XMACL in its upper half (rule R85). -/
  macl : Quad
  /-- PR (rule R86). -/
  pr : Quad
  /-- FPUL (rule R87). -/
  fpul : Dword
  /-- FPSCR (rule R88). -/
  fpscr : Dword
  /-- FPU bank A (rule R100). -/
  fa : Vector Dword 16
  /-- FPU bank B (rule R100). -/
  fb : Vector Dword 16
  /-- The pending delayed branch (rule R110). -/
  ds : Option DelaySlot
  /-- The interrupt input, driven by the platform (rule R111). -/
  irq : Irq
  /-- The platform's reset request (rule R970 (1)). -/
  resetReq : Bool
  /-- Set by SLEEP (rule R111). -/
  sleeping : Bool
  /-- The last trap (rule R112). -/
  lastTrap : LastTrap
  /-- STALE (rule R113): logical byte addresses, strictly rising. -/
  stale : List Nat
  /-- The stores and ICBIs since reset, the newest first, from which the bytes that were there at the last ICBI of an
  address or at reset are read (rule R136, log 11). -/
  history : List CacheEvent
  /-- The bytes of memory. -/
  mem : Memory
  /-- How many free values have been drawn: the model's own field (log 15). -/
  freeCount : Nat
  deriving DecidableEq, Repr

/-- The bits of SR and SRH that can be 1 (rule R76). -/
def srMask (c : Config) : Quad :=
  match c.variant with
  | .bjx1_64 => 0x80001000F00093F3
  | .bjx1_32 => 0x00000000700083F3

/-- The bits of FPSCR that can be 1 (rule R88). -/
def fpscrMask : Dword := 0x003FFFFF

/-- The XLEN bits of a value (rule R51): on BJX1-32 the upper half is zero (log 24). -/
def xlen (c : Config) (v : Quad) : Quad :=
  match c.variant with
  | .bjx1_64 => v
  | .bjx1_32 => (v.setWidth 32).setWidth 64

/-- The core before any reset, under the parameters `c`: every register 0, no memory listed. DESIGN CHOICE (unsafe,
log 2): the registers that rule R120 calls unspecified hold 0. -/
def State.blank (c : Config) : State where
  cfg := c
  ga := Vector.replicate 8 0
  gb := Vector.replicate 8 0
  g := Vector.replicate 8 0
  pc := 0
  sr := 0
  gbr := 0
  vbr := 0
  ssr := 0
  spc := 0
  sgr := 0
  dbr := 0
  mach := 0
  macl := 0
  pr := 0
  fpul := 0
  fpscr := 0
  fa := Vector.replicate 16 0
  fb := Vector.replicate 16 0
  ds := none
  irq := ⟨0, false⟩
  resetReq := false
  sleeping := false
  lastTrap := ⟨.reset, 0, 0⟩
  stale := []
  history := []
  mem := []
  freeCount := 0

/-- `CAUSE(Reset)` (rules R971, R972). -/
def resetCause (c : Config) : Dword :=
  match c.cause with
  | .suggested => 0
  | .opened => Config.openCause .reset false 0

/-- The reset procedure (rules R120, R972, R1030). It writes what the rule gives a value; "SPC, SSR, SGR are not
written", and a register that the rule leaves unspecified keeps its value (log 17). -/
def State.performReset (s : State) : State :=
  { s with
    pc := xlen s.cfg s.cfg.resetPc
    sr := s.cfg.resetSr &&& srMask s.cfg
    vbr := xlen s.cfg s.cfg.resetVbr
    fpscr := s.cfg.resetFpscr &&& fpscrMask
    ds := none
    sleeping := false
    lastTrap := ⟨.reset, resetCause s.cfg, 0⟩
    stale := []
    history := [] }

/-- The machine right after reset: the default parameters, no memory listed, no interrupt pending, reset no longer
asserted (rules R120, R1030, logs 1, 2, 3, 4, 5, 16, 17). -/
def State.reset : State := (State.blank Config.default).performReset

end Sys2Proof.Machine
end

