-- ==== Sys2Proof/Machine/Ops.lean ====
section
/-! DEFINITION. Machine/Ops.lean: the named operations over registers, memory and control: mode predicates, register
cells, the access primitives of spec/20_memory.md, taking an exception and returning from one
(spec/60_exceptions.md), and how an instruction ends. -/
namespace Sys2Proof.Machine

/-! ### Bits -/

/-- The low half of a quad (rule R16). -/
def lo32 (x : Quad) : Dword := x.setWidth 32

/-- The high half of a quad (rule R16). -/
def hi32 (x : Quad) : Dword := x.extractLsb' 32 32

/-- A dword zero-extended to a quad (rule R12). -/
def zx32 (x : Dword) : Quad := x.setWidth 64

/-- `zext_N` at 64 bits (rule R12). -/
def zxN (n : Nat) (v : Quad) : Quad := (v.setWidth n).setWidth 64

/-- `sext_N` at 64 bits (rule R12). -/
def sxN (n : Nat) (v : Quad) : Quad := (v.setWidth n).signExtend 64

/-- A quad with bit `i` made `b`. -/
def putBit (x : Quad) (i : Nat) (b : Bool) : Quad :=
  if b then x ||| (1#64 <<< i) else x &&& ~~~(1#64 <<< i)

/-- A dword with bit `i` made `b`. -/
def putBit32 (x : Dword) (i : Nat) (b : Bool) : Dword :=
  if b then x ||| (1#32 <<< i) else x &&& ~~~(1#32 <<< i)

/-- An address with bits 1:0 cleared (rule R20). -/
def align4 (a : Quad) : Quad := a &&& ~~~3#64

/-- What a cell holds after a write `<-{W}`: all of it, or its low half only (rule R16). -/
def merge (q : Bool) (old v : Quad) : Quad := if q then v else hi32 old ++ lo32 v

/-! ### Mode predicates (rules R8, R13) -/

/-- Whether the core is a BJX1-64. -/
def State.is64 (s : State) : Bool :=
  match s.cfg.variant with
  | .bjx1_64 => true
  | .bjx1_32 => false

/-- The effective JQ. -/
def State.jq (s : State) : Bool := s.is64 && s.sr.getLsbD 31

/-- The effective DQ. -/
def State.dq (s : State) : Bool := s.jq && s.sr.getLsbD 12

/-- `HAS_RH`. -/
def State.hasRh (s : State) : Bool := s.is64 || s.cfg.hasRh

/-- SR.MD: supervisor. -/
def State.md (s : State) : Bool := s.sr.getLsbD 30

/-- SR.RB. -/
def State.rb (s : State) : Bool := s.sr.getLsbD 29

/-- SR.BL. -/
def State.bl (s : State) : Bool := s.sr.getLsbD 28

/-- SR.FD. -/
def State.fd (s : State) : Bool := s.sr.getLsbD 15

/-- SR.M. -/
def State.m (s : State) : Bool := s.sr.getLsbD 9

/-- SR.Q. -/
def State.q (s : State) : Bool := s.sr.getLsbD 8

/-- SR.IM. -/
def State.im (s : State) : BitVec 4 := s.sr.extractLsb' 4 4

/-- SR.S. -/
def State.sat (s : State) : Bool := s.sr.getLsbD 1

/-- SR.T. -/
def State.t (s : State) : Bool := s.sr.getLsbD 0

/-- A value as an address: its low AW bits, zero-extended (rules R13, R131). -/
def State.addr (s : State) (x : Quad) : Quad := if s.jq then x else zx32 (lo32 x)

/-- `PCn`: the low AW bits of PC (rule R60). -/
def State.pcn (s : State) : Quad := s.addr s.pc

/-- SR with bit `i` made `b`. -/
def State.setSrBit (s : State) (i : Nat) (b : Bool) : State := { s with sr := putBit s.sr i b }

/-- `T <- b`. -/
def State.setT (s : State) (b : Bool) : State := s.setSrBit 0 b

/-! ### General registers (rules R51 to R58) -/

/-- Element `i` of a bank of eight. -/
def get8 {α : Type} (v : Vector α 8) (i : BitVec 3) : α := v.get i.toFin

/-- A bank of eight with element `i` replaced. -/
def set8 {α : Type} (v : Vector α 8) (i : BitVec 3) (x : α) : Vector α 8 := v.set i.toNat x i.isLt

/-- Whether R0 to R7 name bank B (rule R52). -/
def State.bankB (s : State) : Bool := s.md && s.rb

/-- `R[n]` (rule R52). -/
def State.r (s : State) (n : Reg) : Quad :=
  if n.getLsbD 3 then get8 s.g (n.extractLsb' 0 3)
  else if s.bankB then get8 s.gb (n.extractLsb' 0 3)
  else get8 s.ga (n.extractLsb' 0 3)

/-- All 64 bits of the cell `R[n]` become `v`. -/
def State.setR (s : State) (n : Reg) (v : Quad) : State :=
  if n.getLsbD 3 then { s with g := set8 s.g (n.extractLsb' 0 3) v }
  else if s.bankB then { s with gb := set8 s.gb (n.extractLsb' 0 3) v }
  else { s with ga := set8 s.ga (n.extractLsb' 0 3) v }

/-- `R[n] <-{W} v` with W = 64 or 32 (rule R16). -/
def State.wr (s : State) (q : Bool) (n : Reg) (v : Quad) : State := s.setR n (merge q (s.r n) v)

/-- `R[n] <-{AW} v`: an address register updated (rule R131). -/
def State.wrA (s : State) (n : Reg) (v : Quad) : State := s.wr s.jq n v

/-- `RL[n]`, or `RH[n]` when `x` (rules R16, R17). -/
def State.half (s : State) (x : Bool) (n : Reg) : Dword := if x then hi32 (s.r n) else lo32 (s.r n)

/-- `RL[n] <- v`, or `RH[n] <- v` when `x`; the other half is unchanged (rules R17, R58). -/
def State.setHalf (s : State) (x : Bool) (n : Reg) (v : Dword) : State :=
  s.setR n (if x then v ++ lo32 (s.r n) else hi32 (s.r n) ++ v)

/-- `OB[b]`: the cell that rule R52 does not map (rule R53). -/
def State.ob (s : State) (b : BankReg) : Quad := if s.bankB then get8 s.ga b else get8 s.gb b

/-- `OB[b] <- v`, all 64 bits (rule R53). -/
def State.setOb (s : State) (b : BankReg) (v : Quad) : State :=
  if s.bankB then { s with ga := set8 s.ga b v } else { s with gb := set8 s.gb b v }

/-- Draw a free value (log 15). -/
def State.draw (s : State) : Quad × State :=
  (Config.freeValue s.freeCount, { s with freeCount := s.freeCount + 1 })

/-! ### Exceptions -/

/-- An exception before the slot variant is chosen (rule R971). -/
inductive Exc where
  | addrRead (a : Quad)
  | addrWrite (a : Quad)
  | illegal
  | fpuDisable
  | tlbMiss (a : Quad) (write : Bool)
  | tlbProtection (a : Quad) (write : Bool)
  | trapa (imm : BitVec 8)
  | brk
  deriving DecidableEq, Repr

/-- Why an instruction does not complete. -/
inductive Stop where
  | exc (e : Exc)
  | refuse (r : Refusal)
  deriving DecidableEq, Repr

/-- The result of a part of an instruction. -/
abbrev Res := Except Stop

/-- `raise IllegalInstruction` (rule R974). -/
def illegal {α : Type} : Res α := .error (.exc .illegal)

/-- `CAUSE(kind)` (rule R971; its suggested codes are SH-4's, log 18). `w`: the access was a write; `level`: of an
interrupt. -/
def causeCode (c : Config) (kind : TrapKind) (w : Bool) (level : Quad) : Dword :=
  match c.cause with
  | .opened => Config.openCause kind w level
  | .suggested =>
    match kind with
    | .reset => 0x000
    | .addressErrorRead => 0x0E0
    | .addressErrorWrite => 0x100
    | .illegalInstruction => 0x180
    | .slotIllegalInstruction => 0x1A0
    | .fpuDisable => 0x800
    | .slotFpuDisable => 0x820
    | .tlbMiss => if w then 0x060 else 0x040
    | .tlbProtection => if w then 0x0C0 else 0x0A0
    | .trapa => 0x160
    | .breakpoint => 0x1E0
    | .interrupt => 0x200 + 0x20 * (15 - lo32 level)
    | .nmi => 0x1C0

/-- `VEC(kind)` (rules R971, R981). -/
def vectorOf (c : Config) (kind : TrapKind) : Quad :=
  match kind with
  | .tlbMiss => c.vecTlb
  | .interrupt => c.vecIntr
  | .nmi => c.vecIntr
  | _ => c.vecGeneral

/-- SR after trap entry: MD, RB and BL set; on BJX1-64 JQ and DQ copied from TR_JQ and TR_DQ (rule R980, steps 4
and 5). -/
def State.trapSr (s : State) : Quad :=
  let sr := putBit (putBit (putBit s.sr 30 true) 29 true) 28 true
  if s.is64 then putBit (putBit sr 31 (s.sr.getLsbD 63)) 12 (s.sr.getLsbD 44) else sr

/-- The handler's address under the new JQ (rule R980, step 8; rule R981). -/
def State.handlerPc (s : State) (kind : TrapKind) : Quad :=
  let a := s.vbr + vectorOf s.cfg kind
  if s.is64 && s.sr.getLsbD 63 then a else zx32 (lo32 a)

/-- Trap entry (rule R980): SPC, SSR and SGR saved, SR changed, the trap recorded, DS and SLEEPING cleared, control at
the handler. -/
def State.trapEntry (s : State) (kind : TrapKind) (w : Bool) (value spc : Quad) : State :=
  { s with
    spc := spc
    ssr := s.sr
    sgr := if s.is64 then s.r 15 else zx32 (lo32 (s.r 15))
    sr := s.trapSr
    lastTrap := ⟨kind, causeCode s.cfg kind w value, value⟩
    ds := none
    sleeping := false
    pc := s.handlerPc kind }

/-- SPC for a fault that abandons the instruction: its address, or in a delay slot the branch's (rule R982 (a), (b)). -/
def State.faultPc (s : State) : Quad :=
  match s.ds with
  | none => s.pcn
  | some d => d.branchPc

/-- Taking a synchronous exception raised by the instruction at PC whose first word is `w0`: the kind (slot variants of
rules R975, R976), the recorded value (rule R971) and SPC (rule R982), from the state before the instruction
(rules R970 (10), R983). -/
def State.takeException (s : State) (w0 : IWord) (e : Exc) : State :=
  match e with
  | .addrRead a => s.trapEntry .addressErrorRead false a s.faultPc
  | .addrWrite a => s.trapEntry .addressErrorWrite true a s.faultPc
  | .illegal =>
    s.trapEntry (if s.ds.isSome then .slotIllegalInstruction else .illegalInstruction) false (w0.setWidth 64) s.faultPc
  | .fpuDisable =>
    s.trapEntry (if s.ds.isSome then .slotFpuDisable else .fpuDisable) false (w0.setWidth 64) s.faultPc
  | .tlbMiss a w => s.trapEntry .tlbMiss w a s.faultPc
  | .tlbProtection a w => s.trapEntry .tlbProtection w a s.faultPc
  | .trapa imm => s.trapEntry .trapa false (imm.setWidth 64) (s.addr (s.pcn + 2))
  | .brk => s.trapEntry .breakpoint false 0 (s.addr (s.pcn + 2))

/-- Return from a trap, the part before the slot (rules R582, R990): SR from SSR, a delayed branch to the low AW bits of
SPC under the restored JQ. -/
def State.returnFromTrap (s : State) : State :=
  let s' := { s with sr := s.ssr &&& srMask s.cfg }
  { s' with ds := some ⟨s'.addr s.spc, s.pcn, true⟩, pc := s'.addr (s.pcn + 2) }

/-! ### Memory -/

/-- The byte at a physical address. An unlisted byte reads 0: DESIGN CHOICE (unsafe, log 5). -/
def Memory.read : Memory → Nat → Byte
  | [], _ => 0
  | (x, c) :: rest, a => if x = a then c else Memory.read rest a

/-- One byte written, the canonical form kept (log 5). -/
def Memory.write : Memory → Nat → Byte → Memory
  | [], a, b => if b = 0 then [] else [(a, b)]
  | (x, c) :: rest, a, b =>
    if a < x then (if b = 0 then (x, c) :: rest else (a, b) :: (x, c) :: rest)
    else if a = x then (if b = 0 then rest else (a, b) :: rest)
    else (x, c) :: Memory.write rest a b

/-- The canonical form: addresses strictly rising, no byte equal to what an unlisted address reads as. -/
abbrev Memory.wf (m : Memory) : Prop := m.Pairwise (fun x y => x.1 < y.1) ∧ ∀ c ∈ m, c.2 ≠ 0

/-- An address added to STALE (rule R113). -/
def staleAdd : List Nat → Nat → List Nat
  | [], a => [a]
  | x :: rest, a =>
    if a < x then a :: x :: rest
    else if a = x then x :: rest
    else x :: staleAdd rest a

/-- The form STALE is kept in: addresses strictly rising. -/
abbrev staleWf (l : List Nat) : Prop := l.Pairwise (fun x y => x < y)

/-- Whether an ICBI of `a` takes the byte address `c` out of STALE: the four bytes at `a and not 3`, and any others that
the free choice `draw` says (rule R594, log 12). -/
def icbiCovers (draw : Nat) (a : Quad) (c : Nat) : Bool :=
  decide ((align4 a).toNat ≤ c ∧ c < (align4 a).toNat + 4) || Config.icbiReach draw a c

/-- The byte that was at the physical address `p` at the last ICBI of the logical address `c`, or at reset, from the byte
that is there now: the stores since then taken back (rule R136, log 11). -/
def oldByte : List CacheEvent → Nat → Nat → Byte → Byte
  | [], _, _, now => now
  | .stored q old :: rest, c, p, now => oldByte rest c p (if q = p then old else now)
  | .icbi draw a :: rest, c, p, now => if icbiCovers draw a c then now else oldByte rest c p now

/-- The kinds of range of the address maps. -/
inductive RangeKind where
  /-- `Translate` gives the physical address. -/
  | mmu
  /-- The physical address is the address reduced as the map says. -/
  | direct
  /-- The platform's (rule R139). -/
  | device
  /-- The "32-bit Space" of bjx48: a window onto bjx32 (rule R143). -/
  | window
  deriving DecidableEq, Repr

/-- One row of an address map: first and last address, kind, user access. -/
structure Range where
  first : Nat
  last : Nat
  kind : RangeKind
  user : Bool
  deriving DecidableEq, Repr

/-- The three maps (rule R140). -/
inductive MapKind where
  | legacy29 | bjx32 | bjx48
  deriving DecidableEq, Repr

/-- The rows of a map (rules R141, R142, R143). -/
def mapRows : MapKind → List Range
  | .legacy29 =>
    [⟨0x00000000, 0x7FFFFFFF, .mmu, true⟩, ⟨0x80000000, 0xBFFFFFFF, .direct, false⟩,
      ⟨0xC0000000, 0xDFFFFFFF, .mmu, false⟩, ⟨0xE0000000, 0xFFFFFFFF, .device, false⟩]
  | .bjx32 =>
    [⟨0x00000000, 0xBFFFFFFF, .mmu, true⟩, ⟨0xC0000000, 0xDFFFFFFF, .mmu, false⟩,
      ⟨0xE0000000, 0xFFFFFFFF, .device, false⟩]
  | .bjx48 =>
    [⟨0x000000000000, 0x7FFFFFFFFFFF, .mmu, true⟩, ⟨0x800000000000, 0x8000FFFFFFFF, .window, false⟩,
      ⟨0x800100000000, 0x807FFFFFFFFF, .direct, false⟩, ⟨0x80A000000000, 0x80DFFFFFFFFF, .device, false⟩,
      ⟨0x900000000000, 0xFFFFFFFFFFFF, .mmu, false⟩]

/-- The bits of a logical address that a map looks at: 32, or the low 48 (rule R143). -/
def mapIndex (k : MapKind) (a : Quad) : Nat :=
  match k with
  | .bjx48 => a.toNat % 2 ^ 48
  | _ => a.toNat % 2 ^ 32

/-- The row of a map that an address falls in, if any. -/
def findRange (x : Nat) : List Range → Option Range
  | [] => none
  | row :: rest => if row.first ≤ x ∧ x ≤ row.last then some row else findRange x rest

/-- How many physical bytes a map has (rules R141, R142, R143). -/
def physicalSize : MapKind → Nat
  | .legacy29 => 2 ^ 29
  | .bjx32 => 2 ^ 32
  | .bjx48 => 2 ^ 40

/-- The map in force (rule R140). -/
def State.mapKind (s : State) : MapKind :=
  if s.is64 then (if s.jq then .bjx48 else .bjx32)
  else match s.cfg.addrMode32 with
    | .legacy29 => .legacy29
    | .bjx32 => .bjx32

/-- Whether bits 63:48 of an address are copies of bit 47 (rule R131). -/
def canonical (a : Quad) : Bool := (a.setWidth 48).signExtend 64 == a

/-- The address error of an access (rule R973). -/
def addrError (k : Access) (a : Quad) : Stop :=
  match k with
  | .write => .exc (.addrWrite a)
  | _ => .exc (.addrRead a)

/-- Whether an access kind counts as a write (rule R971). -/
def accessIsWrite : Access → Bool
  | .write => true
  | _ => false

/-- The device regions of a map as physical addresses, first and last: those of the ranges that rule R139 names. The last
two ranges of bjx32 are their own physical addresses (rule R142), in bjx48 too, whose "32-bit Space" is a window onto
them (rule R143); area 7 of legacy29 is not reduced (rule R141); the "MMIO" of bjx48 keeps its low 40 bits (log 8). -/
def deviceRegions : MapKind → List (Nat × Nat)
  | .legacy29 => [(0xE0000000, 0xFFFFFFFF)]
  | .bjx32 => [(0xE0000000, 0xFFFFFFFF)]
  | .bjx48 => [(0xE0000000, 0xFFFFFFFF), (0xA000000000, 0xDFFFFFFFFF)]

/-- Whether a physical address lies in a device region (rules R134 (5), R139). -/
def isDevice (k : MapKind) (p : Nat) : Bool := (deviceRegions k).any fun d => decide (d.1 ≤ p ∧ p ≤ d.2)

/-- The physical address that an answer of an open `Translate` stands for: the bits the map keeps, or an address of the
unreduced area 7 of legacy29 (rules R141 to R143, log 22). -/
def physicalOf (k : MapKind) (q : Quad) : Nat :=
  match k with
  | .legacy29 => if 0xE0000000 ≤ q.toNat % 2 ^ 32 then q.toNat % 2 ^ 32 else q.toNat % physicalSize .legacy29
  | k => q.toNat % physicalSize k

/-- Step 5 of rule R134: what is at the physical address `p` of the logical address `a` is the platform's, and refused,
if `p` lies in a device region (rule R139, log 8). -/
def notDevice (k : MapKind) (a : Quad) (p : Nat) : Res Nat :=
  if isDevice k p then .error (.refuse (.deviceAccess a)) else .ok p

/-- `Translate(a, kind, md)` (rule R151) and the device check of what it answers: by default the address bits the map
keeps; left open, any physical address of the map, or an MMU trap. `full` is the logical address that a trap or the
refusal names (log 22). -/
def State.translate (s : State) (k : MapKind) (kind : Access) (md : Bool) (full a : Quad) : Res Nat :=
  match s.cfg.translate with
  | .suggested => notDevice k full (a.toNat % physicalSize k)
  | .opened =>
    match Config.openTranslate a kind md with
    | .physical q => notDevice k full (physicalOf k q)
    | .miss => .error (.exc (.tlbMiss full (accessIsWrite kind)))
    | .protection => .error (.exc (.tlbProtection full (accessIsWrite kind)))

/-- The last two steps of rule R134 for an address whose range is known: the physical address, or the refusal of a device
range and of a physical address in a device region (rule R139, log 8). The window of bjx48 is read by the map bjx32 with supervisor rights
(rule R143, log 10). -/
def State.locate (s : State) (kind : Access) (md : Bool) (row : Range) (a : Quad) : Res Nat :=
  match row.kind with
  | .mmu => s.translate s.mapKind kind md a a
  | .direct => notDevice s.mapKind a (a.toNat % physicalSize s.mapKind)
  | .device => .error (.refuse (.deviceAccess a))
  | .window =>
    match findRange (mapIndex .bjx32 a) (mapRows .bjx32) with
    | some r =>
      match r.kind with
      | .device => .error (.refuse (.deviceAccess a))
      | _ => s.translate .bjx32 kind true a (zx32 (lo32 a))
    | none => .error (addrError kind a)

/-- Steps 1 to 4 of rules R134 and R135 for an access at a multiple of `align`, with the rights `md`: the physical
address of its first byte; the others follow it (log 9). -/
def State.resolve (s : State) (kind : Access) (md : Bool) (align : Nat) (addr : Quad) : Res Nat :=
  let a := s.addr addr
  if s.jq && !canonical a then .error (addrError kind a)
  else if a.toNat % align ≠ 0 then .error (addrError kind a)
  else
    match findRange (mapIndex s.mapKind a) (mapRows s.mapKind) with
    | none => .error (addrError kind a)
    | some row => if !md && !row.user then .error (addrError kind a) else s.locate kind md row a

/-- The alignment of an aligned access of `n` bytes (rule R137). -/
def alignOf (n : Nat) : Nat :=
  match n with
  | 1 => 1
  | 2 => 2
  | _ => 4

/-- The `n` bytes from a physical address on. -/
def bytesAt (m : Memory) (p : Nat) : Nat → List Byte
  | 0 => []
  | n + 1 => Memory.read m p :: bytesAt m (p + 1) n

/-- The value of bytes whose first is the least significant. -/
def ofBytesLe : List Byte → Quad
  | [] => 0
  | b :: rest => (ofBytesLe rest <<< 8) ||| b.setWidth 64

/-- The value of bytes in memory order (rule R132). -/
def ofBytes (e : Endian) (bs : List Byte) : Quad :=
  match e with
  | .little => ofBytesLe bs
  | .big => ofBytesLe bs.reverse

/-- The low `n` bytes of a value, least significant first. -/
def toBytesLe : Nat → Quad → List Byte
  | 0, _ => []
  | n + 1, v => v.setWidth 8 :: toBytesLe n (v >>> 8)

/-- The low `n` bytes of a value in memory order (rule R132). -/
def toBytes (e : Endian) (n : Nat) (v : Quad) : List Byte :=
  match e with
  | .little => toBytesLe n v
  | .big => (toBytesLe n v).reverse

/-- Bytes stored from physical address `p` on, the logical addresses from `a` on added to STALE (rule R135). -/
def State.putBytes (s : State) (a : Quad) (p : Nat) : List Byte → State
  | [] => s
  | b :: rest =>
    State.putBytes
      { s with
        stale := staleAdd s.stale (s.addr a).toNat
        history := .stored p (Memory.read s.mem p) :: s.history
        mem := Memory.write s.mem p b }
      (a + 1) (p + 1) rest

/-- `MemRead(addr, n)` (rule R134), zero-extended to 64 bits. -/
def State.load (s : State) (addr : Quad) (n : Nat) : Res Quad :=
  (s.resolve .read s.md (alignOf n) addr).map fun p => ofBytes s.cfg.endian (bytesAt s.mem p n)

/-- `MemReadU(addr, n)` (rule R134). -/
def State.loadU (s : State) (addr : Quad) (n : Nat) : Res Quad :=
  (s.resolve .read s.md 1 addr).map fun p => ofBytes s.cfg.endian (bytesAt s.mem p n)

/-- `MemWrite(addr, n, v)` (rule R135). -/
def State.store (s : State) (addr : Quad) (n : Nat) (v : Quad) : Res State :=
  (s.resolve .write s.md (alignOf n) addr).map fun p => s.putBytes addr p (toBytes s.cfg.endian n v)

/-- `MemWriteU(addr, n, v)` (rule R135). -/
def State.storeU (s : State) (addr : Quad) (n : Nat) (v : Quad) : Res State :=
  (s.resolve .write s.md 1 addr).map fun p => s.putBytes addr p (toBytes s.cfg.endian n v)

/-- A fetched byte: of an address in STALE the old one if the choice says so, of any other the one in memory (rules R136,
R160). -/
def State.fetchByte (s : State) (old : Bool) (a : Quad) (p : Nat) : Byte :=
  if old && decide ((s.addr a).toNat ∈ s.stale) then oldByte s.history (s.addr a).toNat p (Memory.read s.mem p)
  else Memory.read s.mem p

/-- Whether one of the two bytes of a word is in STALE and that matters (rule R136). -/
def State.staleWord (s : State) (a : Quad) : Bool :=
  !s.cfg.icacheCoherent &&
    (decide ((s.addr a).toNat ∈ s.stale) || decide ((s.addr (a + 1)).toNat ∈ s.stale))

/-- The rights of an instruction fetch: SR.MD, and supervisor in the slot of RTE (rule R582, log 23). -/
def State.fetchMd (s : State) : Bool :=
  match s.ds with
  | none => s.md
  | some d => s.md || d.fromRte

/-- `Fetch16(addr)` (rule R136): the word, and the state with one free choice drawn if the word is stale. -/
def State.fetch16 (s : State) (addr : Quad) : Res (IWord × State) :=
  (s.resolve .fetch s.fetchMd 2 addr).map fun p =>
    if s.staleWord addr then
      let old := Config.staleOld s.freeCount
      (wordOfBytes s.cfg.endian (s.fetchByte old addr p) (s.fetchByte old (addr + 1) (p + 1)),
        { s with freeCount := s.freeCount + 1 })
    else (wordOfBytes s.cfg.endian (Memory.read s.mem p) (Memory.read s.mem (p + 1)), s)

/-! ### Checks -/

/-- `PrivCheck()` before the rest (rule R1010). -/
def State.priv {α : Type} (s : State) (r : Res α) : Res α := if s.md then r else illegal

/-- `FpuCheck()` before the rest (rule R641). -/
def State.fpu {α : Type} (s : State) (r : Res α) : Res α :=
  match s.cfg.fpu with
  | .absent => illegal
  | .basic => if s.fd then .error (.exc .fpuDisable) else r

/-- The high halves must exist (rule R58). -/
def State.needRh {α : Type} (s : State) (r : Res α) : Res α := if s.hasRh then r else illegal

/-- A 64-bit access or operation needs JQ = 1 (rule R15). -/
def State.needJq {α : Type} (s : State) (r : Res α) : Res α := if s.jq then r else illegal

/-- The row is legal only with JQ = 0 (rule R187). -/
def State.needNotJq {α : Type} (s : State) (r : Res α) : Res α := if s.jq then illegal else r

/-- The rest if `b`, else an illegal instruction. -/
def require {α : Type} (b : Bool) (r : Res α) : Res α := if b then r else illegal

/-! ### How an instruction ends -/

/-- The end of an instruction of `len` bytes that does not branch: `pc <- PCn + LEN`, or in a delay slot the pending
branch's target with DS cleared (rules R61, R500), both at the address width in force after the instruction
(rule R60). `pcn` is PCn. -/
def State.advance (s : State) (pcn : Quad) (len : Quad) : State :=
  match s.ds with
  | none => { s with pc := s.addr (pcn + len) }
  | some d => { s with pc := s.addr d.target, ds := none }

/-- `pc <- t` (rule R61). -/
def State.jump (s : State) (t : Quad) : State := { s with pc := s.addr t }

/-- `DelayedBranch(t)` by an instruction of `len` bytes (rule R500). -/
def State.delayedBranch (s : State) (len : Quad) (t : Quad) : State :=
  { s with ds := some ⟨s.addr t, s.pcn, false⟩, pc := s.addr (s.pcn + len) }

/-- The outcome of an instruction whose first word is `w0`, from what its rule computed: the next state, the trap
entry of the exception it raised (from the state before it, rule R970 (10)), or a refusal. -/
def settle (w0 : IWord) (s : State) (r : Res State) : Host.Outcome State Fault Refusal :=
  match r with
  | .ok s' => .next s'
  | .error (.exc e) => .next (s.takeException w0 e)
  | .error (.refuse x) => .refused x

/-- A 16-bit instruction that may stand in a delay slot and does not branch. -/
def short (w0 : IWord) (s : State) (r : Res State) : Host.Outcome State Fault Refusal :=
  settle w0 s (r.map fun s' => s'.advance s.pcn 2)

/-- An instruction that may not stand in a delay slot (rule R501). -/
def noSlot (w0 : IWord) (s : State) (r : Res State) : Host.Outcome State Fault Refusal :=
  settle w0 s (if s.ds.isSome then illegal else r)

/-- A 16-bit instruction that may not stand in a delay slot and does not branch (rules R216, R501). -/
def shortNoSlot (w0 : IWord) (s : State) (r : Res State) : Host.Outcome State Fault Refusal :=
  noSlot w0 s (r.map fun s' => s'.advance s.pcn 2)

/-- A 32-bit instruction that does not branch (rule R720). -/
def wide (w0 : IWord) (s : State) (r : Res State) : Host.Outcome State Fault Refusal :=
  noSlot w0 s (r.map fun s' => s'.advance s.pcn 4)

/-- A 64-bit instruction that does not branch (rule R960). -/
def veryWide (w0 : IWord) (s : State) (r : Res State) : Host.Outcome State Fault Refusal :=
  noSlot w0 s (r.map fun s' => s'.advance s.pcn 8)

/-- A reserved row: its effect is the illegal-instruction trap (rules R210, R214). -/
def reserved (w0 : IWord) (s : State) : Host.Outcome State Fault Refusal := settle w0 s illegal

end Sys2Proof.Machine
end

