-- ==== Sys2Proof/Machine/Operands.lean ====
section
/-! DEFINITION. Machine/Operands.lean: the operand forms: widths, immediates, effective addresses, loads and stores,
half registers, system registers, FPU registers and transfers. -/
namespace Sys2Proof.Machine

/-! ### Widths (rules R14, R16, R56, R57) -/

/-- A binary operation at W = 64 when `q`, else at W = 32 on the low halves. -/
def binQ (q : Bool) (f : (w : Nat) → BitVec w → BitVec w → BitVec w) (a b : Quad) : Quad :=
  if q then f 64 a b else zx32 (f 32 (lo32 a) (lo32 b))

/-- A comparison at W = 64 when `q`, else at W = 32. -/
def cmpQ (q : Bool) (f : (w : Nat) → BitVec w → BitVec w → Bool) (a b : Quad) : Bool :=
  if q then f 64 a b else f 32 (lo32 a) (lo32 b)

/-- A binary operation with a flag in and out at W = 64 when `q`, else at W = 32. -/
def binTQ (q : Bool) (f : (w : Nat) → BitVec w → BitVec w → Bool → BitVec w × Bool) (a b : Quad) (t : Bool) :
    Quad × Bool :=
  if q then f 64 a b t else let x := f 32 (lo32 a) (lo32 b) t; (zx32 x.1, x.2)

/-- A unary operation at W = 64 when `q`, else at W = 32. -/
def unQ (q : Bool) (f : (w : Nat) → BitVec w → BitVec w) (a : Quad) : Quad :=
  if q then f 64 a else zx32 (f 32 (lo32 a))

/-- A unary operation with a flag in and out at W = 64 when `q`, else at W = 32. -/
def unTQ (q : Bool) (f : (w : Nat) → BitVec w → Bool → BitVec w × Bool) (a : Quad) (t : Bool) : Quad × Bool :=
  if q then f 64 a t else let x := f 32 (lo32 a) t; (zx32 x.1, x.2)

/-- `R[n] <-{W} f(R[n]{W}, b{W})` at W = OPW (rule R350 (b)). -/
def State.binOp (s : State) (f : (w : Nat) → BitVec w → BitVec w → BitVec w) (n : Reg) (a b : Quad) : State :=
  s.wr s.dq n (binQ s.dq f a b)

/-- The same with T read and written (rule R350 (b)). -/
def State.binTOp (s : State) (f : (w : Nat) → BitVec w → BitVec w → Bool → BitVec w × Bool) (n : Reg)
    (a b : Quad) : State :=
  (s.wr s.dq n (binTQ s.dq f a b s.t).1).setT (binTQ s.dq f a b s.t).2

/-- `T <- f(a{W}, b{W})` at W = OPW. -/
def State.cmpOp (s : State) (f : (w : Nat) → BitVec w → BitVec w → Bool) (a b : Quad) : State :=
  s.setT (cmpQ s.dq f a b)

/-- `R[n] <-{W} f(R[n]{W})` at W = OPW. -/
def State.unOp (s : State) (f : (w : Nat) → BitVec w → BitVec w) (n : Reg) : State :=
  s.wr s.dq n (unQ s.dq f (s.r n))

/-- The same with T read and written. -/
def State.unTOp (s : State) (f : (w : Nat) → BitVec w → Bool → BitVec w × Bool) (n : Reg) : State :=
  (s.wr s.dq n (unTQ s.dq f (s.r n) s.t).1).setT (unTQ s.dq f (s.r n) s.t).2

/-- The extension of a load (rule R56). -/
inductive Ext where
  | sign | zero
  deriving DecidableEq, Repr

/-- `ext_L(v)` at 64 bits. -/
def extend (e : Ext) (bits : Nat) (v : Quad) : Quad :=
  match e with
  | .sign => sxN bits v
  | .zero => zxN bits v

/-- `R[n] <-load{L,ext} v` (rule R56). -/
def State.wrLoad (s : State) (n : Reg) (bits : Nat) (e : Ext) (v : Quad) : State :=
  s.wr (s.dq || bits == 64) n (extend e bits v)

/-- The natural extension of a no-suffix result, where the spec states one (rule R57, log 13). -/
inductive NatExt where
  | sign | zero | unstated
  deriving DecidableEq, Repr

/-- `R[n] <-{32,hi=?} v` (rule R57): at DQ = 1 the upper half is a free value, unchanged, or the natural extension, as
`NOSUFFIX_HI` says; where no natural extension is stated it is a free value too (log 13). -/
def State.wrNoSuffix (s : State) (n : Reg) (e : NatExt) (v : Dword) : State :=
  if s.dq then
    match s.cfg.noSuffixHi, e with
    | .preserve, _ => s.setHalf false n v
    | .extend, .sign => s.setR n (v.signExtend 64)
    | .extend, .zero => s.setR n (zx32 v)
    | .extend, .unstated => s.draw.2.setR n (hi32 s.draw.1 ++ v)
    | .any, _ => s.draw.2.setR n (hi32 s.draw.1 ++ v)
  else s.setHalf false n v

/-- The bytes of a `.W/Q` access: 2, or 8 when DQ = 1 (rule R14). -/
def State.wq (s : State) : Nat := if s.dq then 8 else 2

/-- The bytes of a `.Q/W` access: 8, or 2 when DQ = 1 (rule R14). -/
def State.qw (s : State) : Nat := if s.dq then 2 else 8

/-- The bytes of a `.L/Q` access: 4, or 8 when JQ = 1 (rule R14). -/
def State.lq (s : State) : Nat := if s.jq then 8 else 4

/-- The bytes of a `.W/Q` access that is a word whenever the displacement is 0 (rules R278, R280). -/
def State.wqDisp (s : State) (disp : BitVec 4) : Nat := if s.dq && disp != 0 then 8 else 2

/-- A byte count as an address increment. -/
def quadOf (n : Nat) : Quad := BitVec.ofNat 64 n

/-! ### Effective addresses (rules R20, R131, R190, R721) -/

/-- `PCB` of a 16-bit form (rule R20). -/
def State.pcb16 (s : State) : Quad := s.addr (s.pcn + 4)

/-- `PCB` of a 32-bit form (rule R20). -/
def State.pcb32 (s : State) : Quad := s.addr (s.pcn + 6)

/-- `EA3(base, o, disp, size)` before its reduction modulo `2^AW` (rule R721). -/
def State.ea3 (s : State) (base : Quad) (o : Reg) (disp : Quad) (size : Nat) : Quad :=
  let idx : Quad := if o = 15 then 0 else s.r o
  let scale : Nat := if o = 0 then 1 else size
  base + (idx + disp) * quadOf scale

/-- A displacement sign-extended and scaled (rule R190). -/
def sdisp {w : Nat} (d : BitVec w) (scale : Nat) : Quad := d.signExtend 64 * quadOf scale

/-- A displacement zero-extended and scaled (rule R190). -/
def zdisp {w : Nat} (d : BitVec w) (scale : Nat) : Quad := d.setWidth 64 * quadOf scale

/-! ### Loads and stores -/

/-- A load into a general register: `n` bytes at `ea`, load write into `R[d]` (rules R56, R250). -/
def State.loadReg (s : State) (d : Reg) (n : Nat) (e : Ext) (ea : Quad) : Res State :=
  (s.load ea n).map fun v => s.wrLoad d (8 * n) e v

/-- A load with post-increment of `R[m]`, the load write last (rule R251). -/
def State.loadRegInc (s : State) (d m : Reg) (n : Nat) (e : Ext) : Res State :=
  (s.load (s.r m) n).map fun v => (s.wrA m (s.r m + quadOf n)).wrLoad d (8 * n) e v

/-- A load with pre-decrement of `R[m]`, the load write last (rules R293 to R295). -/
def State.loadRegDec (s : State) (d m : Reg) (n : Nat) (e : Ext) : Res State :=
  (s.load (s.r m - quadOf n) n).map fun v => (s.wrA m (s.r m - quadOf n)).wrLoad d (8 * n) e v

/-- A store with pre-decrement of `R[n]` (rule R251). -/
def State.storeDec (s : State) (a : Reg) (n : Nat) (v : Quad) : Res State :=
  (s.store (s.r a - quadOf n) n v).map fun s' => s'.wrA a (s.r a - quadOf n)

/-- A store with post-increment of `R[n]` (rules R290 to R292). -/
def State.storeInc (s : State) (a : Reg) (n : Nat) (v : Quad) : Res State :=
  (s.store (s.r a) n v).map fun s' => s'.wrA a (s.r a + quadOf n)

/-- The rest of an indivisible read and write of `n` bytes at `ea`, both of whose checks come before either access: an
exception of the read or else of the write is raised first, before the platform is asked for anything (rules R452,
R596). -/
def State.bothChecked (s : State) (ea : Quad) (n : Nat) (r : Res State) : Res State :=
  match s.resolve .read s.md (alignOf n) ea, s.resolve .write s.md (alignOf n) ea with
  | .error (.exc e), _ => .error (.exc e)
  | _, .error (.exc e) => .error (.exc e)
  | _, _ => r

/-- A read of one byte and a write of `f` of it at the same place (rules R423, R426, R429). -/
def State.modifyByte (s : State) (ea : Quad) (f : Byte → Byte) : Res State :=
  match s.load ea 1 with
  | .ok b => s.store ea 1 ((f (b.setWidth 8)).setWidth 64)
  | .error e => .error e

/-! ### OPREX and TACB operands (rules R861, R910) -/

/-- `X(k5, W)` (rule R861), zero-extended. -/
def State.opx (s : State) (q x : Bool) (n : Reg) : Quad := if q then s.r n else zx32 (s.half x n)

/-- `X(k5, W) <- v` (rule R861). -/
def State.setOpx (s : State) (q x : Bool) (n : Reg) (v : Quad) : State :=
  if q then s.setR n v else s.setHalf x n (lo32 v)

/-- Checks (a), (b), (c) and (e) of rule R861 for data registers with the extension bits `nx` and `mx`. -/
def State.oprexCheck (s : State) (q nx mx bx : Bool) (r : Res State) : Res State :=
  require ((!q || s.jq) && !(q && (nx || mx)) && (!(nx || mx) || s.hasRh) && !bx) r

/-- Checks (a) to (d) of rule R861 for a row with the address register's extension bit `ax` and the data register's
`dx`. -/
def State.oprexMemCheck (s : State) (q ax dx : Bool) (r : Res State) : Res State :=
  require ((!q || s.jq) && !(q && dx) && (!(ax || dx) || s.hasRh) && !ax) r

/-- A store row of OPREX: address bit clear, Q and B clear (rule R861 (d), (e), (f)). -/
def State.oprexStoreCheck (s : State) (q ax dx bx : Bool) (r : Res State) : Res State :=
  s.oprexMemCheck q ax dx (require (!bx && !q) r)

/-- A load row of OPREX without displacement: address bit clear, B clear. -/
def State.oprexLoadCheck (s : State) (q ax dx bx : Bool) (r : Res State) : Res State :=
  s.oprexMemCheck q ax dx (require (!bx) r)

/-- The register write of an OPREX load: sign-extended into the quad, or the 32-bit cell alone (rules R886 to R888). -/
def State.oprexLoaded (s : State) (q x : Bool) (n : Reg) (bits : Nat) (v : Quad) : State :=
  s.setOpx q x n (sxN bits v)

/-- The extension bits of a TACB register form need the high halves (rule R910 (1)). -/
def State.tacbCheck (s : State) (nx sx tx : Bool) (r : Res State) : Res State :=
  require (!(nx || sx || tx) || s.hasRh) r

/-- A TACB shift by a register: a negative count writes a free value of the operation width (rules R924, R927,
log 14). -/
def State.tacbShift (s : State) (q nx sx tx : Bool) (n rs rt : Reg)
    (f : (w : Nat) → BitVec w → BitVec w → BitVec w) : State :=
  let b := s.opx q tx rt
  if cmpQ q (fun _ x _ => x.msb) b 0 then s.draw.2.setOpx q nx n s.draw.1
  else s.setOpx q nx n (binQ q f (s.opx q sx rs) b)

/-- `imm5` of the `.L` immediate forms: `T : t`, zero-extended (rule R191). -/
def imm5 (tx : Bool) (t : BitVec 4) : BitVec 5 := BitVec.ofBool tx ++ t

/-- `imm6` of the `.Q` immediate forms: `S : T : t` (rule R191). -/
def imm6 (sx tx : Bool) (t : BitVec 4) : BitVec 6 := BitVec.ofBool sx ++ BitVec.ofBool tx ++ t

/-- The immediate of ADD and SUB: zero-extended, or sign-extended under `TACB_IMM_SIGNED` (rule R910, D34, log 27). -/
def State.tacbImm {w : Nat} (s : State) (i : BitVec w) : Quad :=
  if s.cfg.tacbImmSigned then i.signExtend 64 else i.setWidth 64

/-! ### System registers (rules R78 to R88, R540) -/

/-- The registers of STC, STS, LDC and LDS. -/
inductive SysReg where
  | sr | gbr | vbr | ssr | spc | sgr | dbr | mach | macl | pr | fpul | fpscr | bank (b : BankReg)
  deriving DecidableEq, Repr

/-- A system register, the 32-bit ones zero-extended (rule R540 (c)). -/
def State.sys (s : State) : SysReg → Quad
  | .sr => s.sr
  | .gbr => s.gbr
  | .vbr => s.vbr
  | .ssr => s.ssr
  | .spc => s.spc
  | .sgr => s.sgr
  | .dbr => s.dbr
  | .mach => s.mach
  | .macl => s.macl
  | .pr => s.pr
  | .fpul => zx32 s.fpul
  | .fpscr => zx32 s.fpscr
  | .bank b => s.ob b

/-- `X <-{W} v` with W = 64 when `q`, else 32; SR and FPSCR masked (rules R76, R88, R540 (c)). -/
def State.setSys (s : State) (q : Bool) (x : SysReg) (v : Quad) : State :=
  match x with
  | .sr => { s with sr := merge q s.sr (v &&& srMask s.cfg) }
  | .gbr => { s with gbr := merge q s.gbr v }
  | .vbr => { s with vbr := merge q s.vbr v }
  | .ssr => { s with ssr := merge q s.ssr v }
  | .spc => { s with spc := merge q s.spc v }
  | .sgr => { s with sgr := merge q s.sgr v }
  | .dbr => { s with dbr := merge q s.dbr v }
  | .mach => { s with mach := merge q s.mach v }
  | .macl => { s with macl := merge q s.macl v }
  | .pr => { s with pr := merge q s.pr v }
  | .fpul => { s with fpul := lo32 v }
  | .fpscr => { s with fpscr := lo32 v &&& fpscrMask }
  | .bank b => s.setOb b (merge q (s.ob b) v)

/-- The checks of a transfer: privilege (rule R541) or the FPU (rule R540 (e)). -/
def State.sysCheck {α : Type} (s : State) (x : SysReg) (r : Res α) : Res α :=
  match x with
  | .gbr => r
  | .mach => r
  | .macl => r
  | .pr => r
  | .fpul => s.fpu r
  | .fpscr => s.fpu r
  | _ => s.priv r

/-- `R[n] <-{W} X{W}` at W = OPW (rule R540 (b)). -/
def State.sysToReg (s : State) (x : SysReg) (n : Reg) : Res State :=
  s.sysCheck x (.ok (s.wr s.dq n (s.sys x)))

/-- `X <-{W} R[m]{W}` at W = OPW (rule R540 (b)). -/
def State.regToSys (s : State) (x : SysReg) (m : Reg) : Res State :=
  s.sysCheck x (.ok (s.setSys s.dq x (s.r m)))

/-- A system register stored at `@-Rn`, 4 or 8 bytes by JQ (rules R540 (b), R600). -/
def State.sysToMem (s : State) (x : SysReg) (n : Reg) : Res State :=
  s.sysCheck x (s.storeDec n s.lq (s.sys x))

/-- A system register loaded from `@Rm+`, 4 or 8 bytes by JQ (rules R540 (b), R613). -/
def State.memToSys (s : State) (x : SysReg) (m : Reg) : Res State :=
  s.sysCheck x ((s.load (s.r m) s.lq).map fun v => (s.wrA m (s.r m + quadOf s.lq)).setSys s.jq x v)

/-! ### FPU registers (rules R88, R89, R100, R101, R642) -/

/-- FPSCR.RM. -/
def State.fpRm (s : State) : BitVec 2 := s.fpscr.extractLsb' 0 2

/-- FPSCR.DN. -/
def State.fpDn (s : State) : Bool := s.fpscr.getLsbD 18

/-- FPSCR.PR. -/
def State.fpPr (s : State) : Bool := s.fpscr.getLsbD 19

/-- FPSCR.SZ. -/
def State.fpSz (s : State) : Bool := s.fpscr.getLsbD 20

/-- FPSCR.FR. -/
def State.fpFr (s : State) : Bool := s.fpscr.getLsbD 21

/-- Element `i` of an FPU bank. -/
def get16 (v : Vector Dword 16) (i : Reg) : Dword := v.get i.toFin

/-- An FPU bank with element `i` replaced. -/
def set16 (v : Vector Dword 16) (i : Reg) (x : Dword) : Vector Dword 16 := v.set i.toNat x i.isLt

/-- `FR[i]`, or `XF[i]` when `x`, as FPSCR.FR maps them (rules R17, R100). -/
def State.fx (s : State) (x : Bool) (i : Reg) : Dword := if x ^^ s.fpFr then get16 s.fb i else get16 s.fa i

/-- `FR[i] <- v`, or `XF[i] <- v` when `x`. -/
def State.setFx (s : State) (x : Bool) (i : Reg) (v : Dword) : State :=
  if x ^^ s.fpFr then { s with fb := set16 s.fb i v } else { s with fa := set16 s.fa i v }

/-- The bank of `Pair(b, n)`: `b xor n[0]` (rule R642). -/
def pairBank (b : Bool) (n : Reg) : Bool := b ^^ n.getLsbD 0

/-- The even cell number of a pair: the high half (rules R101, R642). -/
def pairHi (n : Reg) : Reg := n &&& 0xE

/-- The odd cell number of a pair: the low half. -/
def pairLo (n : Reg) : Reg := n ||| 1

/-- `Pair(b, n)` read as `hi : lo` (rule R642). -/
def State.pair (s : State) (b : Bool) (n : Reg) : Quad :=
  s.fx (pairBank b n) (pairHi n) ++ s.fx (pairBank b n) (pairLo n)

/-- `Pair(b, n) <- v` (rule R642). -/
def State.setPair (s : State) (b : Bool) (n : Reg) (v : Quad) : State :=
  (s.setFx (pairBank b n) (pairHi n) (hi32 v)).setFx (pairBank b n) (pairLo n) (lo32 v)

/-- A single cell (zero-extended) or a double, by `d` (rules R642, R644, R930). -/
def State.fpReg (s : State) (d b : Bool) (n : Reg) : Quad := if d then s.pair b n else zx32 (s.fx b n)

/-- A single cell or a double written, by `d`. -/
def State.setFpReg (s : State) (d b : Bool) (n : Reg) (v : Quad) : State :=
  if d then s.setPair b n v else s.setFx b n (lo32 v)

/-- `Opd(n)` (rule R644). -/
def State.opd (s : State) (n : Reg) : Quad := s.fpReg s.fpPr false n

/-- `Opd(n) <- v` (rule R644). -/
def State.setOpd (s : State) (n : Reg) (v : Quad) : State := s.setFpReg s.fpPr false n v

/-- The kinds of FPU transfer (rule R660). -/
inductive Xfer where
  | single | pair | double
  deriving DecidableEq, Repr

/-- The bytes of a transfer (rule R660). -/
def xferSize : Xfer → Nat
  | .single => 4
  | _ => 8

/-- The kind that FPSCR selects for the 16-bit `FMOV.S` rows (rule R660). -/
def State.xferKind (s : State) : Xfer := if s.fpSz then (if s.fpPr then .double else .pair) else .single

/-- A pair as memory holds it: the halves swapped on a little-endian core (rule R660). -/
def pairOrder (e : Endian) (v : Quad) : Quad :=
  match e with
  | .little => lo32 v ++ hi32 v
  | .big => v

/-- `LdSingle`, `LdPair`, `LdDouble` (rule R660). -/
def State.fpLoad (s : State) (k : Xfer) (b : Bool) (n : Reg) (ea : Quad) : Res State :=
  (s.load ea (xferSize k)).map fun v =>
    match k with
    | .single => s.setFx b n (lo32 v)
    | .pair => s.setPair b n (pairOrder s.cfg.endian v)
    | .double => s.setPair b n v

/-- `StSingle`, `StPair`, `StDouble` (rule R660). -/
def State.fpStore (s : State) (k : Xfer) (b : Bool) (n : Reg) (ea : Quad) : Res State :=
  match k with
  | .single => s.store ea 4 (zx32 (s.fx b n))
  | .pair => s.store ea 8 (pairOrder s.cfg.endian (s.pair b n))
  | .double => s.store ea 8 (s.pair b n)

/-- An FPU load with post-increment of the address register (rule R664). -/
def State.fpLoadInc (s : State) (k : Xfer) (b : Bool) (n m : Reg) : Res State :=
  (s.fpLoad k b n (s.r m)).map fun s' => s'.wrA m (s.r m + quadOf (xferSize k))

/-- An FPU store with pre-decrement of the address register (rule R666). -/
def State.fpStoreDec (s : State) (k : Xfer) (b : Bool) (m n : Reg) : Res State :=
  (s.fpStore k b m (s.r n - quadOf (xferSize k))).map fun s' => s'.wrA n (s.r n - quadOf (xferSize k))

/-- The kind that `ww` of a VV nibble selects; 3 selects none (rule R690). -/
def vvKind (v : BitVec 4) : Option Xfer :=
  match (v.extractLsb' 2 2).toNat with
  | 0 => some .single
  | 1 => some .pair
  | 2 => some .double
  | _ => none

/-- `x` of a VV nibble: bit 4 of the `n` register (rule R690). -/
def vvX (v : BitVec 4) : Bool := v.getLsbD 1

/-- `y` of a VV nibble: bit 4 of the `m` register (rule R690). -/
def vvY (v : BitVec 4) : Bool := v.getLsbD 0

/-- A VV form: its kind must exist and its address register's bit be 0, then the FPU check (rules R690, R1000). -/
def State.vvForm (s : State) (v : BitVec 4) (addressBit : Bool) (f : Xfer → Res State) : Res State :=
  match vvKind v with
  | some k => require (!addressBit) (s.fpu (f k))
  | none => illegal

end Sys2Proof.Machine
end

