-- ==== Sys2Proof/Machine/Arithmetic.lean ====
section
/-! DEFINITION. Machine/Arithmetic.lean: the 16-bit arithmetic, compare, extend, multiply and divide instructions (spec/41_arithmetic.md). -/
namespace Sys2Proof.Machine

/-- `MACH <-{32} p[63:32]; MACL <-{32} p[31:0]` (rules R383, R384, R398). -/
def State.setMac32 (s : State) (p : Quad) : State :=
  { s with mach := hi32 s.mach ++ hi32 p, macl := hi32 s.macl ++ lo32 p }

/-- `MACH <-{64} p[127:64]; MACL <-{64} p[63:0]` (rules R381, R382). -/
def State.setMac128 (s : State) (p : BitVec 128) : State :=
  { s with mach := p.extractLsb' 64 64, macl := p.setWidth 64 }

/-- MULU.W/Q (rule R381). -/
def State.mulu (s : State) (a b : Quad) : State :=
  if s.dq then s.setMac128 (a.setWidth 128 * b.setWidth 128)
  else s.setSys false .macl (zxN 16 a * zxN 16 b)

/-- MULS.W/Q (rule R382). -/
def State.muls (s : State) (a b : Quad) : State :=
  if s.dq then s.setMac128 (a.signExtend 128 * b.signExtend 128)
  else s.setSys false .macl (sxN 16 a * sxN 16 b)

/-- `Q <- q; M <- m; T <- q xor m` (rules R386, R387). -/
def State.div0 (s : State) (q m : Bool) : State := ((s.setSrBit 8 q).setSrBit 9 m).setT (q ^^ m)

/-- DIV1 (rule R388). -/
def State.div1 (s : State) (n m : Reg) : State :=
  let x := div1Step (lo32 (s.r n)) (lo32 (s.r m)) s.q s.m s.t
  ((s.wrNoSuffix n .unstated x.1).setSrBit 8 x.2.1).setT x.2.2

/-- MAC.L (rule R398): both reads before any write is kept. -/
def State.macL (s : State) (n m : Reg) : Res State :=
  match s.load (s.r n) 4 with
  | .error e => .error e
  | .ok a =>
    let s' := s.wrA n (s.r n + 4)
    match s'.load (s'.r m) 4 with
    | .error e => .error e
    | .ok b =>
      .ok ((s'.wrA m (s'.r m + 4)).setMac32
        (macLong s.sat (lo32 s.mach ++ lo32 s.macl : Quad).toInt ((lo32 a).toInt * (lo32 b).toInt)))

/-- MAC.W (rule R399), illegal at DQ = 1. -/
def State.macW (s : State) (n m : Reg) : Res State :=
  if s.dq then illegal
  else
    match s.load (s.r n) 2 with
    | .error e => .error e
    | .ok a =>
      let s' := s.wrA n (s.r n + 2)
      match s'.load (s'.r m) 2 with
      | .error e => .error e
      | .ok b =>
        let x := macWord s.sat (lo32 s.mach) (lo32 s.macl) ((a.setWidth 16).toInt * (b.setWidth 16).toInt)
        .ok ((s'.wrA m (s'.r m + 2)).setMac32 (x.1 ++ x.2))

/-- `ADD./Q Rm,Rn`, encoding `3nmC` (rule R351). -/
def execAddRmRn (n : BitVec 4) (m : BitVec 4) (s : State) : Host.Outcome State Fault Refusal :=
  short (mk4 0x3#4 n m 0xC#4) s (.ok (s.binOp aluAdd n (s.r n) (s.r m)))

/-- `ADD./Q #imm,Rn`, encoding `7nii` (rule R352). -/
def execAddImmRn (n : BitVec 4) (imm : BitVec 8) (s : State) : Host.Outcome State Fault Refusal :=
  short (mk4 0x7#4 n (imm.extractLsb' 4 4) (imm.extractLsb' 0 4)) s
    (.ok (s.binOp aluAdd n (s.r n) (imm.signExtend 64)))

/-- `ADDC./Q Rm,Rn`, encoding `3nmE` (rule R353). -/
def execAddcRmRn (n : BitVec 4) (m : BitVec 4) (s : State) : Host.Outcome State Fault Refusal :=
  short (mk4 0x3#4 n m 0xE#4) s (.ok (s.binTOp aluAddc n (s.r n) (s.r m)))

/-- `ADDV./Q Rm,Rn`, encoding `3nmF` (rule R354). -/
def execAddvRmRn (n : BitVec 4) (m : BitVec 4) (s : State) : Host.Outcome State Fault Refusal :=
  short (mk4 0x3#4 n m 0xF#4) s (.ok (s.binTOp aluAddv n (s.r n) (s.r m)))

/-- `SUB./Q Rm,Rn`, encoding `3nm8` (rule R355). -/
def execSubRmRn (n : BitVec 4) (m : BitVec 4) (s : State) : Host.Outcome State Fault Refusal :=
  short (mk4 0x3#4 n m 0x8#4) s (.ok (s.binOp aluSub n (s.r n) (s.r m)))

/-- `SUBC./Q Rm,Rn`, encoding `3nmA` (rule R356). -/
def execSubcRmRn (n : BitVec 4) (m : BitVec 4) (s : State) : Host.Outcome State Fault Refusal :=
  short (mk4 0x3#4 n m 0xA#4) s (.ok (s.binTOp aluSubc n (s.r n) (s.r m)))

/-- `SUBV./Q Rm,Rn`, encoding `3nmB` (rule R357). -/
def execSubvRmRn (n : BitVec 4) (m : BitVec 4) (s : State) : Host.Outcome State Fault Refusal :=
  short (mk4 0x3#4 n m 0xB#4) s (.ok (s.binTOp aluSubv n (s.r n) (s.r m)))

/-- `NEG./Q Rm,Rn`, encoding `6nmB` (rule R358). -/
def execNegRmRn (n : BitVec 4) (m : BitVec 4) (s : State) : Host.Outcome State Fault Refusal :=
  short (mk4 0x6#4 n m 0xB#4) s (.ok (s.binOp aluNeg n (s.r n) (s.r m)))

/-- `NEGC./Q Rm,Rn`, encoding `6nmA` (rule R359). -/
def execNegcRmRn (n : BitVec 4) (m : BitVec 4) (s : State) : Host.Outcome State Fault Refusal :=
  short (mk4 0x6#4 n m 0xA#4) s (.ok (s.binTOp aluSubc n 0 (s.r m)))

/-- `CMPEQ./Q Rm,Rn`, encoding `3nm0` (rule R360). -/
def execCmpeqRmRn (n : BitVec 4) (m : BitVec 4) (s : State) : Host.Outcome State Fault Refusal :=
  short (mk4 0x3#4 n m 0x0#4) s (.ok (s.cmpOp cmpEq (s.r n) (s.r m)))

/-- `CMPHS./Q Rm,Rn`, encoding `3nm2` (rule R361). -/
def execCmphsRmRn (n : BitVec 4) (m : BitVec 4) (s : State) : Host.Outcome State Fault Refusal :=
  short (mk4 0x3#4 n m 0x2#4) s (.ok (s.cmpOp cmpHs (s.r n) (s.r m)))

/-- `CMPGE./Q Rm,Rn`, encoding `3nm3` (rule R362). -/
def execCmpgeRmRn (n : BitVec 4) (m : BitVec 4) (s : State) : Host.Outcome State Fault Refusal :=
  short (mk4 0x3#4 n m 0x3#4) s (.ok (s.cmpOp cmpGe (s.r n) (s.r m)))

/-- `CMPHI./Q Rm,Rn`, encoding `3nm6` (rule R363). -/
def execCmphiRmRn (n : BitVec 4) (m : BitVec 4) (s : State) : Host.Outcome State Fault Refusal :=
  short (mk4 0x3#4 n m 0x6#4) s (.ok (s.cmpOp cmpHi (s.r n) (s.r m)))

/-- `CMPGT./Q Rm,Rn`, encoding `3nm7` (rule R364). -/
def execCmpgtRmRn (n : BitVec 4) (m : BitVec 4) (s : State) : Host.Outcome State Fault Refusal :=
  short (mk4 0x3#4 n m 0x7#4) s (.ok (s.cmpOp cmpGt (s.r n) (s.r m)))

/-- `CMPPZ./Q Rn`, encoding `4n11` (rule R365). -/
def execCmppzRn (n : BitVec 4) (s : State) : Host.Outcome State Fault Refusal :=
  short (mk4 0x4#4 n 0x1#4 0x1#4) s (.ok (s.cmpOp cmpGe (s.r n) 0))

/-- `CMPPL./Q Rn`, encoding `4n15` (rule R366). -/
def execCmpplRn (n : BitVec 4) (s : State) : Host.Outcome State Fault Refusal :=
  short (mk4 0x4#4 n 0x1#4 0x5#4) s (.ok (s.cmpOp cmpGt (s.r n) 0))

/-- `CMPSTR Rm,Rn`, encoding `2nmC` (rule R367). -/
def execCmpstrRmRn (n : BitVec 4) (m : BitVec 4) (s : State) : Host.Outcome State Fault Refusal :=
  short (mk4 0x2#4 n m 0xC#4) s (.ok (s.setT (cmpStr (lo32 (s.r n)) (lo32 (s.r m)))))

/-- `CMPEQ./Q #imm,R0`, encoding `88ii` (rule R368). -/
def execCmpeqImmR0 (imm : BitVec 8) (s : State) : Host.Outcome State Fault Refusal :=
  short (mk4 0x8#4 0x8#4 (imm.extractLsb' 4 4) (imm.extractLsb' 0 4)) s
    (.ok (s.cmpOp cmpEq (s.r 0) (imm.signExtend 64)))

/-- `DT./Q Rn`, encoding `4n10` (rule R369). -/
def execDtRn (n : BitVec 4) (s : State) : Host.Outcome State Fault Refusal :=
  short (mk4 0x4#4 n 0x1#4 0x0#4) s (.ok (s.unTOp aluDt n))

/-- `EXTS.B Rm,Rn`, encoding `6nmE` (rule R370). -/
def execExtsBRmRn (n : BitVec 4) (m : BitVec 4) (s : State) : Host.Outcome State Fault Refusal :=
  short (mk4 0x6#4 n m 0xE#4) s (.ok (s.wrNoSuffix n .sign (lo32 (sxN 8 (s.r m)))))

/-- `EXTS.W Rm,Rn`, encoding `6nmF` (rule R371). -/
def execExtsWRmRn (n : BitVec 4) (m : BitVec 4) (s : State) : Host.Outcome State Fault Refusal :=
  short (mk4 0x6#4 n m 0xF#4) s (.ok (s.wrNoSuffix n .sign (lo32 (sxN 16 (s.r m)))))

/-- `EXTU.B Rm,Rn`, encoding `6nmC` (rule R372). -/
def execExtuBRmRn (n : BitVec 4) (m : BitVec 4) (s : State) : Host.Outcome State Fault Refusal :=
  short (mk4 0x6#4 n m 0xC#4) s (.ok (s.wrNoSuffix n .zero (lo32 (zxN 8 (s.r m)))))

/-- `EXTU.W Rm,Rn`, encoding `6nmD` (rule R373). -/
def execExtuWRmRn (n : BitVec 4) (m : BitVec 4) (s : State) : Host.Outcome State Fault Refusal :=
  short (mk4 0x6#4 n m 0xD#4) s (.ok (s.wrNoSuffix n .zero (lo32 (zxN 16 (s.r m)))))

/-- `MUL.L Rm,Rn`, encoding `0nm7` (rule R380). -/
def execMulLRmRn (n : BitVec 4) (m : BitVec 4) (s : State) : Host.Outcome State Fault Refusal :=
  short (mk4 0x0#4 n m 0x7#4) s (.ok (s.setSys false .macl (zx32 (lo32 (s.r n) * lo32 (s.r m)))))

/-- `MULU.W/Q Rm,Rn`, encoding `2nmE` (rule R381). -/
def execMuluWQRmRn (n : BitVec 4) (m : BitVec 4) (s : State) : Host.Outcome State Fault Refusal :=
  short (mk4 0x2#4 n m 0xE#4) s (.ok (s.mulu (s.r n) (s.r m)))

/-- `MULS.W/Q Rm,Rn`, encoding `2nmF` (rule R382). -/
def execMulsWQRmRn (n : BitVec 4) (m : BitVec 4) (s : State) : Host.Outcome State Fault Refusal :=
  short (mk4 0x2#4 n m 0xF#4) s (.ok (s.muls (s.r n) (s.r m)))

/-- `DMULU.L Rm,Rn`, encoding `3nm5` (rule R383). -/
def execDmuluLRmRn (n : BitVec 4) (m : BitVec 4) (s : State) : Host.Outcome State Fault Refusal :=
  short (mk4 0x3#4 n m 0x5#4) s (.ok (s.setMac32 (zx32 (lo32 (s.r n)) * zx32 (lo32 (s.r m)))))

/-- `DMULS.L Rm,Rn`, encoding `3nmD` (rule R384). -/
def execDmulsLRmRn (n : BitVec 4) (m : BitVec 4) (s : State) : Host.Outcome State Fault Refusal :=
  short (mk4 0x3#4 n m 0xD#4) s (.ok (s.setMac32 ((lo32 (s.r n)).signExtend 64 * (lo32 (s.r m)).signExtend 64)))

/-- `DIV0S Rm,Rn`, encoding `2nm7` (rule R386). -/
def execDiv0sRmRn (n : BitVec 4) (m : BitVec 4) (s : State) : Host.Outcome State Fault Refusal :=
  short (mk4 0x2#4 n m 0x7#4) s (.ok (s.div0 ((s.r n).getLsbD 31) ((s.r m).getLsbD 31)))

/-- `DIV0U`, encoding `0019` (rule R387). -/
def execDiv0u (s : State) : Host.Outcome State Fault Refusal :=
  short (mk4 0x0#4 0x0#4 0x1#4 0x9#4) s (.ok (s.div0 false false))

/-- `DIV1 Rm,Rn`, encoding `3nm4` (rule R388). -/
def execDiv1RmRn (n : BitVec 4) (m : BitVec 4) (s : State) : Host.Outcome State Fault Refusal :=
  short (mk4 0x3#4 n m 0x4#4) s (.ok (s.div1 n m))

/-- `DIVU R0,Rn`, encoding `4n84` (rule R389). Reserved. -/
def execDivuR0Rn (n : BitVec 4) (s : State) : Host.Outcome State Fault Refusal :=
  reserved (mk4 0x4#4 n 0x8#4 0x4#4) s

/-- `DIVS R0,Rn`, encoding `4n94` (rule R390). Reserved. -/
def execDivsR0Rn (n : BitVec 4) (s : State) : Host.Outcome State Fault Refusal :=
  reserved (mk4 0x4#4 n 0x9#4 0x4#4) s

/-- `MAC.L @Rm+,@Rn+`, encoding `0nmF` (rule R398). -/
def execMacLAtRmIncAtRnInc (n : BitVec 4) (m : BitVec 4) (s : State) : Host.Outcome State Fault Refusal :=
  short (mk4 0x0#4 n m 0xF#4) s (s.macL n m)

/-- `MAC.W/Q @Rm+,@Rn+`, encoding `4nmF` (rule R399). -/
def execMacWQAtRmIncAtRnInc (n : BitVec 4) (m : BitVec 4) (s : State) : Host.Outcome State Fault Refusal :=
  short (mk4 0x4#4 n m 0xF#4) s (s.macW n m)

end Sys2Proof.Machine
end

