-- ==== Sys2Proof/Machine/Branch.lean ====
section
/-! DEFINITION. Machine/Branch.lean: the 16-bit branches (spec/43_branch.md). -/
namespace Sys2Proof.Machine

/-- A branch without a slot, taken if `c`, by an instruction of `len` bytes (rules R510, R511). -/
def State.branchIf (s : State) (c : Bool) (len t : Quad) : State := if c then s.jump t else s.advance s.pcn len

/-- A delayed branch, taken if `c` (rules R512, R513). -/
def State.delayedIf (s : State) (c : Bool) (len t : Quad) : State :=
  if c then s.delayedBranch len t else s.advance s.pcn len

/-- `PR <-{AW} v` (rule R503). -/
def State.link (s : State) (v : Quad) : State := s.setSys s.jq .pr v

/-- `BT label`, encoding `89dd` (rule R510). -/
def execBt (disp : BitVec 8) (s : State) : Host.Outcome State Fault Refusal :=
  noSlot (mk4 0x8#4 0x9#4 (disp.extractLsb' 4 4) (disp.extractLsb' 0 4)) s
    (.ok (s.branchIf s.t 2 (s.pcb16 + sdisp disp 2)))

/-- `BF label`, encoding `8Bdd` (rule R511). -/
def execBf (disp : BitVec 8) (s : State) : Host.Outcome State Fault Refusal :=
  noSlot (mk4 0x8#4 0xB#4 (disp.extractLsb' 4 4) (disp.extractLsb' 0 4)) s
    (.ok (s.branchIf (!s.t) 2 (s.pcb16 + sdisp disp 2)))

/-- `BTS label`, encoding `8Ddd` (rule R512). -/
def execBts (disp : BitVec 8) (s : State) : Host.Outcome State Fault Refusal :=
  noSlot (mk4 0x8#4 0xD#4 (disp.extractLsb' 4 4) (disp.extractLsb' 0 4)) s
    (.ok (s.delayedIf s.t 2 (s.pcb16 + sdisp disp 2)))

/-- `BFS label`, encoding `8Fdd` (rule R513). -/
def execBfs (disp : BitVec 8) (s : State) : Host.Outcome State Fault Refusal :=
  noSlot (mk4 0x8#4 0xF#4 (disp.extractLsb' 4 4) (disp.extractLsb' 0 4)) s
    (.ok (s.delayedIf (!s.t) 2 (s.pcb16 + sdisp disp 2)))

/-- `BRA label`, encoding `Addd` (rule R514). -/
def execBra (disp : BitVec 12) (s : State) : Host.Outcome State Fault Refusal :=
  noSlot (mk4 0xA#4 (disp.extractLsb' 8 4) (disp.extractLsb' 4 4) (disp.extractLsb' 0 4)) s
    (.ok (s.delayedBranch 2 (s.pcb16 + sdisp disp 2)))

/-- `BSR label`, encoding `Bddd` (rule R515). -/
def execBsr (disp : BitVec 12) (s : State) : Host.Outcome State Fault Refusal :=
  noSlot (mk4 0xB#4 (disp.extractLsb' 8 4) (disp.extractLsb' 4 4) (disp.extractLsb' 0 4)) s
    (.ok ((s.link (s.pcn + 4)).delayedBranch 2 (s.pcb16 + sdisp disp 2)))

/-- `BRAF Rm`, encoding `0m23` (rule R516). -/
def execBrafRm (m : BitVec 4) (s : State) : Host.Outcome State Fault Refusal :=
  noSlot (mk4 0x0#4 m 0x2#4 0x3#4) s (.ok (s.delayedBranch 2 (s.pcb16 + s.r m)))

/-- `BSRF Rm`, encoding `0m03` (rule R517). -/
def execBsrfRm (m : BitVec 4) (s : State) : Host.Outcome State Fault Refusal :=
  noSlot (mk4 0x0#4 m 0x0#4 0x3#4) s (.ok ((s.link (s.pcn + 4)).delayedBranch 2 (s.pcb16 + s.r m)))

/-- `JMP @Rm`, encoding `4m2B` (rule R518). -/
def execJmpAtRm (m : BitVec 4) (s : State) : Host.Outcome State Fault Refusal :=
  noSlot (mk4 0x4#4 m 0x2#4 0xB#4) s (.ok (s.delayedBranch 2 (s.r m)))

/-- `JSR @Rm`, encoding `4m0B` (rule R519). -/
def execJsrAtRm (m : BitVec 4) (s : State) : Host.Outcome State Fault Refusal :=
  noSlot (mk4 0x4#4 m 0x0#4 0xB#4) s (.ok ((s.link (s.pcn + 4)).delayedBranch 2 (s.r m)))

/-- `RTS`, encoding `000B` (rule R520). -/
def execRts (s : State) : Host.Outcome State Fault Refusal :=
  noSlot (mk4 0x0#4 0x0#4 0x0#4 0xB#4) s (.ok (s.delayedBranch 2 s.pr))

/-- `RTS/N`, encoding `006B` (rule R521). Reserved. -/
def execRtsn (s : State) : Host.Outcome State Fault Refusal :=
  reserved (mk4 0x0#4 0x0#4 0x6#4 0xB#4) s

/-- `RTV/N Rm`, encoding `0m7B` (rule R522). Reserved. -/
def execRtvnRm (m : BitVec 4) (s : State) : Host.Outcome State Fault Refusal :=
  reserved (mk4 0x0#4 m 0x7#4 0xB#4) s

/-- `JSR/N Rm`, encoding `4m4B` (rule R523). Reserved. -/
def execJsrnRm (m : BitVec 4) (s : State) : Host.Outcome State Fault Refusal :=
  reserved (mk4 0x4#4 m 0x4#4 0xB#4) s

end Sys2Proof.Machine
end

