-- ==== Sys2Proof/Machine/DataTransfer.lean ====
section
/-! DEFINITION. Machine/DataTransfer.lean: the 16-bit moves, loads and stores (spec/40_data_transfer.md). -/
namespace Sys2Proof.Machine

/-- A flag as a dword. -/
def bit32 (b : Bool) : Dword := (BitVec.ofBool b).setWidth 32

/-- The two low bytes exchanged (rule R306). -/
def swapBytes (v : Dword) : Dword := v.extractLsb' 16 16 ++ v.extractLsb' 0 8 ++ v.extractLsb' 8 8

/-- The two words exchanged (rule R307). -/
def swapWords (v : Dword) : Dword := v.extractLsb' 0 16 ++ v.extractLsb' 16 16

/-- The middle 32 bits of `m : n` (rule R308). -/
def middle (m n : Dword) : Dword := m.extractLsb' 0 16 ++ n.extractLsb' 16 16

/-- POP: a load from `@R15+` into `R[n]` at the width that JQ gives (rule R297). -/
def State.pop (s : State) (n : Reg) : Res State :=
  (s.load (s.r 15) s.lq).map fun v => (s.wrA 15 (s.r 15 + quadOf s.lq)).wr s.jq n v

/-- `MOV./Q Rm,Rn`, encoding `6nm3` (rule R255). -/
def execMovRmRn (n : BitVec 4) (m : BitVec 4) (s : State) : Host.Outcome State Fault Refusal :=
  short (mk4 0x6#4 n m 0x3#4) s (.ok (s.wr s.dq n (s.r m)))

/-- `MOV./Q #imm,Rn`, encoding `Enii` (rule R256). -/
def execMovImmRn (n : BitVec 4) (imm : BitVec 8) (s : State) : Host.Outcome State Fault Refusal :=
  short (mk4 0xE#4 n (imm.extractLsb' 4 4) (imm.extractLsb' 0 4)) s (.ok (s.wr s.dq n (imm.signExtend 64)))

/-- `MOV.B Rm,@Rn`, encoding `2nm0` (rule R257). -/
def execMovBRmAtRn (n : BitVec 4) (m : BitVec 4) (s : State) : Host.Outcome State Fault Refusal :=
  short (mk4 0x2#4 n m 0x0#4) s (s.store (s.r n) 1 (s.r m))

/-- `MOV.W/Q Rm,@Rn`, encoding `2nm1` (rule R258). -/
def execMovWQRmAtRn (n : BitVec 4) (m : BitVec 4) (s : State) : Host.Outcome State Fault Refusal :=
  short (mk4 0x2#4 n m 0x1#4) s (s.store (s.r n) s.wq (s.r m))

/-- `MOV.L Rm,@Rn`, encoding `2nm2` (rule R259). -/
def execMovLRmAtRn (n : BitVec 4) (m : BitVec 4) (s : State) : Host.Outcome State Fault Refusal :=
  short (mk4 0x2#4 n m 0x2#4) s (s.store (s.r n) 4 (s.r m))

/-- `MOV.B @Rm,Rn`, encoding `6nm0` (rule R260). -/
def execMovBAtRmRn (n : BitVec 4) (m : BitVec 4) (s : State) : Host.Outcome State Fault Refusal :=
  short (mk4 0x6#4 n m 0x0#4) s (s.loadReg n 1 .sign (s.r m))

/-- `MOV.W/Q @Rm,Rn`, encoding `6nm1` (rule R261). -/
def execMovWQAtRmRn (n : BitVec 4) (m : BitVec 4) (s : State) : Host.Outcome State Fault Refusal :=
  short (mk4 0x6#4 n m 0x1#4) s (s.loadReg n s.wq .sign (s.r m))

/-- `MOV.L @Rm,Rn`, encoding `6nm2` (rule R262). -/
def execMovLAtRmRn (n : BitVec 4) (m : BitVec 4) (s : State) : Host.Outcome State Fault Refusal :=
  short (mk4 0x6#4 n m 0x2#4) s (s.loadReg n 4 .sign (s.r m))

/-- `MOV.B Rm,@-Rn`, encoding `2nm4` (rule R263). -/
def execMovBRmAtDecRn (n : BitVec 4) (m : BitVec 4) (s : State) : Host.Outcome State Fault Refusal :=
  short (mk4 0x2#4 n m 0x4#4) s (s.storeDec n 1 (s.r m))

/-- `MOV.W/Q Rm,@-Rn`, encoding `2nm5` (rule R264). -/
def execMovWQRmAtDecRn (n : BitVec 4) (m : BitVec 4) (s : State) : Host.Outcome State Fault Refusal :=
  short (mk4 0x2#4 n m 0x5#4) s (s.storeDec n s.wq (s.r m))

/-- `MOV.L Rm,@-Rn`, encoding `2nm6` (rule R265). -/
def execMovLRmAtDecRn (n : BitVec 4) (m : BitVec 4) (s : State) : Host.Outcome State Fault Refusal :=
  short (mk4 0x2#4 n m 0x6#4) s (s.storeDec n 4 (s.r m))

/-- `MOV.B @Rm+,Rn`, encoding `6nm4` (rule R266). -/
def execMovBAtRmIncRn (n : BitVec 4) (m : BitVec 4) (s : State) : Host.Outcome State Fault Refusal :=
  short (mk4 0x6#4 n m 0x4#4) s (s.loadRegInc n m 1 .sign)

/-- `MOV.W/Q @Rm+,Rn`, encoding `6nm5` (rule R267). -/
def execMovWQAtRmIncRn (n : BitVec 4) (m : BitVec 4) (s : State) : Host.Outcome State Fault Refusal :=
  short (mk4 0x6#4 n m 0x5#4) s (s.loadRegInc n m s.wq .sign)

/-- `MOV.L @Rm+,Rn`, encoding `6nm6` (rule R268). -/
def execMovLAtRmIncRn (n : BitVec 4) (m : BitVec 4) (s : State) : Host.Outcome State Fault Refusal :=
  short (mk4 0x6#4 n m 0x6#4) s (s.loadRegInc n m 4 .sign)

/-- `MOV.B Rm,@(R0,Rn)`, encoding `0nm4` (rule R269). -/
def execMovBRmAtR0Rn (n : BitVec 4) (m : BitVec 4) (s : State) : Host.Outcome State Fault Refusal :=
  short (mk4 0x0#4 n m 0x4#4) s (s.store (s.r 0 + s.r n) 1 (s.r m))

/-- `MOV.W/Q Rm,@(R0,Rn)`, encoding `0nm5` (rule R270). -/
def execMovWQRmAtR0Rn (n : BitVec 4) (m : BitVec 4) (s : State) : Host.Outcome State Fault Refusal :=
  short (mk4 0x0#4 n m 0x5#4) s (s.store (s.r 0 + s.r n) s.wq (s.r m))

/-- `MOV.L Rm,@(R0,Rn)`, encoding `0nm6` (rule R271). -/
def execMovLRmAtR0Rn (n : BitVec 4) (m : BitVec 4) (s : State) : Host.Outcome State Fault Refusal :=
  short (mk4 0x0#4 n m 0x6#4) s (s.store (s.r 0 + s.r n) 4 (s.r m))

/-- `MOV.B @(R0,Rm),Rn`, encoding `0nmC` (rule R272). -/
def execMovBAtR0RmRn (n : BitVec 4) (m : BitVec 4) (s : State) : Host.Outcome State Fault Refusal :=
  short (mk4 0x0#4 n m 0xC#4) s (s.loadReg n 1 .sign (s.r 0 + s.r m))

/-- `MOV.W/Q @(R0,Rm),Rn`, encoding `0nmD` (rule R273). -/
def execMovWQAtR0RmRn (n : BitVec 4) (m : BitVec 4) (s : State) : Host.Outcome State Fault Refusal :=
  short (mk4 0x0#4 n m 0xD#4) s (s.loadReg n s.wq .sign (s.r 0 + s.r m))

/-- `MOV.L @(R0,Rm),Rn`, encoding `0nmE` (rule R274). -/
def execMovLAtR0RmRn (n : BitVec 4) (m : BitVec 4) (s : State) : Host.Outcome State Fault Refusal :=
  short (mk4 0x0#4 n m 0xE#4) s (s.loadReg n 4 .sign (s.r 0 + s.r m))

/-- `MOV.L Rm,@(Rn,disp)`, encoding `1nmd` (rule R275). -/
def execMovLRmAtRnDisp (n : BitVec 4) (m : BitVec 4) (disp : BitVec 4) (s : State) :
    Host.Outcome State Fault Refusal :=
  short (mk4 0x1#4 n m disp) s (s.store (s.r n + zdisp disp 4) 4 (s.r m))

/-- `MOV.L @(Rm,disp),Rn`, encoding `5nmd` (rule R276). -/
def execMovLAtRmDispRn (n : BitVec 4) (m : BitVec 4) (disp : BitVec 4) (s : State) :
    Host.Outcome State Fault Refusal :=
  short (mk4 0x5#4 n m disp) s (s.loadReg n 4 .sign (s.r m + zdisp disp 4))

/-- `MOV.B R0,@(Rn,disp)`, encoding `80nd` (rule R277). -/
def execMovBR0AtRnDisp (n : BitVec 4) (disp : BitVec 4) (s : State) : Host.Outcome State Fault Refusal :=
  short (mk4 0x8#4 0x0#4 n disp) s (s.store (s.r n + zdisp disp 1) 1 (s.r 0))

/-- `MOV.W/Q R0,@(Rn,disp)`, encoding `81nd` (rule R278). -/
def execMovWQR0AtRnDisp (n : BitVec 4) (disp : BitVec 4) (s : State) : Host.Outcome State Fault Refusal :=
  short (mk4 0x8#4 0x1#4 n disp) s (s.store (s.r n + zdisp disp (s.wqDisp disp)) (s.wqDisp disp) (s.r 0))

/-- `MOV.B @(Rm,disp),R0`, encoding `84md` (rule R279). -/
def execMovBAtRmDispR0 (m : BitVec 4) (disp : BitVec 4) (s : State) : Host.Outcome State Fault Refusal :=
  short (mk4 0x8#4 0x4#4 m disp) s (s.loadReg 0 1 .sign (s.r m + zdisp disp 1))

/-- `MOV.W/Q @(Rm,disp),R0`, encoding `85md` (rule R280). -/
def execMovWQAtRmDispR0 (m : BitVec 4) (disp : BitVec 4) (s : State) : Host.Outcome State Fault Refusal :=
  short (mk4 0x8#4 0x5#4 m disp) s (s.loadReg 0 (s.wqDisp disp) .sign (s.r m + zdisp disp (s.wqDisp disp)))

/-- `MOV.W/Q @(PC,disp),Rn`, encoding `9ndd` (rule R281). -/
def execMovWQAtPcDispRn (n : BitVec 4) (disp : BitVec 8) (s : State) : Host.Outcome State Fault Refusal :=
  shortNoSlot (mk4 0x9#4 n (disp.extractLsb' 4 4) (disp.extractLsb' 0 4)) s
    (if s.dq then s.loadReg n 8 .sign (align4 s.pcb16 + zdisp disp 8)
    else s.loadReg n 2 .sign (s.pcb16 + zdisp disp 2))

/-- `MOV.L @(PC,disp),Rn`, encoding `Dndd` (rule R282). -/
def execMovLAtPcDispRn (n : BitVec 4) (disp : BitVec 8) (s : State) : Host.Outcome State Fault Refusal :=
  shortNoSlot (mk4 0xD#4 n (disp.extractLsb' 4 4) (disp.extractLsb' 0 4)) s
    (s.loadReg n 4 .sign (align4 s.pcb16 + zdisp disp 4))

/-- `MOVA @(PC,disp),R0`, encoding `C7dd` (rule R283). -/
def execMovaAtPcDispR0 (disp : BitVec 8) (s : State) : Host.Outcome State Fault Refusal :=
  shortNoSlot (mk4 0xC#4 0x7#4 (disp.extractLsb' 4 4) (disp.extractLsb' 0 4)) s
    (.ok (s.wrA 0 (align4 s.pcb16 + zdisp disp 4)))

/-- `MOV.B R0,@(GBR,disp)`, encoding `C0dd` (rule R284). -/
def execMovBR0AtGbrDisp (disp : BitVec 8) (s : State) : Host.Outcome State Fault Refusal :=
  short (mk4 0xC#4 0x0#4 (disp.extractLsb' 4 4) (disp.extractLsb' 0 4)) s
    (s.needNotJq (s.store (s.gbr + zdisp disp 1) 1 (s.r 0)))

/-- `MOV.W/Q R0,@(GBR,disp)`, encoding `C1dd` (rule R285). -/
def execMovWQR0AtGbrDisp (disp : BitVec 8) (s : State) : Host.Outcome State Fault Refusal :=
  short (mk4 0xC#4 0x1#4 (disp.extractLsb' 4 4) (disp.extractLsb' 0 4)) s
    (s.needNotJq (s.store (s.gbr + zdisp disp 2) 2 (s.r 0)))

/-- `MOV.L R0,@(GBR,disp)`, encoding `C2dd` (rule R286). -/
def execMovLR0AtGbrDisp (disp : BitVec 8) (s : State) : Host.Outcome State Fault Refusal :=
  short (mk4 0xC#4 0x2#4 (disp.extractLsb' 4 4) (disp.extractLsb' 0 4)) s
    (s.needNotJq (s.store (s.gbr + zdisp disp 4) 4 (s.r 0)))

/-- `MOV.B @(GBR,disp),R0`, encoding `C4dd` (rule R287). -/
def execMovBAtGbrDispR0 (disp : BitVec 8) (s : State) : Host.Outcome State Fault Refusal :=
  short (mk4 0xC#4 0x4#4 (disp.extractLsb' 4 4) (disp.extractLsb' 0 4)) s
    (s.needNotJq (s.loadReg 0 1 .sign (s.gbr + zdisp disp 1)))

/-- `MOV.W/Q @(GBR,disp),R0`, encoding `C5dd` (rule R288). -/
def execMovWQAtGbrDispR0 (disp : BitVec 8) (s : State) : Host.Outcome State Fault Refusal :=
  short (mk4 0xC#4 0x5#4 (disp.extractLsb' 4 4) (disp.extractLsb' 0 4)) s
    (s.needNotJq (s.loadReg 0 2 .sign (s.gbr + zdisp disp 2)))

/-- `MOV.L @(GBR,disp),R0`, encoding `C6dd` (rule R289). -/
def execMovLAtGbrDispR0 (disp : BitVec 8) (s : State) : Host.Outcome State Fault Refusal :=
  short (mk4 0xC#4 0x6#4 (disp.extractLsb' 4 4) (disp.extractLsb' 0 4)) s
    (s.needNotJq (s.loadReg 0 4 .sign (s.gbr + zdisp disp 4)))

/-- `MOV.B R0,@Rn+`, encoding `4n8B` (rule R290). -/
def execMovBR0AtRnInc (n : BitVec 4) (s : State) : Host.Outcome State Fault Refusal :=
  short (mk4 0x4#4 n 0x8#4 0xB#4) s (s.storeInc n 1 (s.r 0))

/-- `MOV.W/Q R0,@Rn+`, encoding `4n9B` (rule R291). -/
def execMovWQR0AtRnInc (n : BitVec 4) (s : State) : Host.Outcome State Fault Refusal :=
  short (mk4 0x4#4 n 0x9#4 0xB#4) s (s.storeInc n s.wq (s.r 0))

/-- `MOV.L R0,@Rn+`, encoding `4nAB` (rule R292). -/
def execMovLR0AtRnInc (n : BitVec 4) (s : State) : Host.Outcome State Fault Refusal :=
  short (mk4 0x4#4 n 0xA#4 0xB#4) s (s.storeInc n 4 (s.r 0))

/-- `MOV.B @-Rm,R0`, encoding `4mCB` (rule R293). -/
def execMovBAtDecRmR0 (m : BitVec 4) (s : State) : Host.Outcome State Fault Refusal :=
  short (mk4 0x4#4 m 0xC#4 0xB#4) s (s.loadRegDec 0 m 1 .sign)

/-- `MOV.W/Q @-Rm,R0`, encoding `4mDB` (rule R294). -/
def execMovWQAtDecRmR0 (m : BitVec 4) (s : State) : Host.Outcome State Fault Refusal :=
  short (mk4 0x4#4 m 0xD#4 0xB#4) s (s.loadRegDec 0 m s.wq .sign)

/-- `MOV.L @-Rm,R0`, encoding `4mEB` (rule R295). -/
def execMovLAtDecRmR0 (m : BitVec 4) (s : State) : Host.Outcome State Fault Refusal :=
  short (mk4 0x4#4 m 0xE#4 0xB#4) s (s.loadRegDec 0 m 4 .sign)

/-- `PUSH.L/Q Rm`, encoding `4m48` (rule R296). -/
def execPushLQRm (m : BitVec 4) (s : State) : Host.Outcome State Fault Refusal :=
  short (mk4 0x4#4 m 0x4#4 0x8#4) s (s.storeDec 15 s.lq (s.r m))

/-- `POP.L/Q Rn`, encoding `4n58` (rule R297). -/
def execPopLQRn (n : BitVec 4) (s : State) : Host.Outcome State Fault Refusal :=
  short (mk4 0x4#4 n 0x5#4 0x8#4) s (s.pop n)

/-- `MOV.Q/W @R0,Rn`, encoding `4n64` (rule R298). -/
def execMovQWAtR0Rn (n : BitVec 4) (s : State) : Host.Outcome State Fault Refusal :=
  short (mk4 0x4#4 n 0x6#4 0x4#4) s (s.needJq (s.loadReg n s.qw .sign (s.r 0)))

/-- `MOV.Q/W Rm,@R0`, encoding `4m74` (rule R299). -/
def execMovQWRmAtR0 (m : BitVec 4) (s : State) : Host.Outcome State Fault Refusal :=
  short (mk4 0x4#4 m 0x7#4 0x4#4) s (s.needJq (s.store (s.r 0) s.qw (s.r m)))

/-- `MOVUA.L @Rm,R0`, encoding `4mA9` (rule R300). -/
def execMovuaLAtRmR0 (m : BitVec 4) (s : State) : Host.Outcome State Fault Refusal :=
  short (mk4 0x4#4 m 0xA#4 0x9#4) s ((s.loadU (s.r m) 4).map fun v => s.wrLoad 0 32 .sign v)

/-- `MOVUA.L @Rm+,R0`, encoding `4mE9` (rule R301). -/
def execMovuaLAtRmIncR0 (m : BitVec 4) (s : State) : Host.Outcome State Fault Refusal :=
  short (mk4 0x4#4 m 0xE#4 0x9#4) s ((s.loadU (s.r m) 4).map fun v => (s.wrA m (s.r m + 4)).wrLoad 0 32 .sign v)

/-- `MOVUA.L R0,@Rm`, encoding `0mA9` (rule R302). -/
def execMovuaLR0AtRm (m : BitVec 4) (s : State) : Host.Outcome State Fault Refusal :=
  short (mk4 0x0#4 m 0xA#4 0x9#4) s (s.storeU (s.r m) 4 (s.r 0))

/-- `MOVUA.L R0,@-Rm`, encoding `0mE9` (rule R303). -/
def execMovuaLR0AtDecRm (m : BitVec 4) (s : State) : Host.Outcome State Fault Refusal :=
  short (mk4 0x0#4 m 0xE#4 0x9#4) s ((s.storeU (s.r m - 4) 4 (s.r 0)).map fun s' => s'.wrA m (s.r m - 4))

/-- `MOVT Rn`, encoding `0n29` (rule R304). -/
def execMovtRn (n : BitVec 4) (s : State) : Host.Outcome State Fault Refusal :=
  short (mk4 0x0#4 n 0x2#4 0x9#4) s (.ok (s.wrNoSuffix n .zero (bit32 s.t)))

/-- `MOVRT Rn`, encoding `0n39` (rule R305). -/
def execMovrtRn (n : BitVec 4) (s : State) : Host.Outcome State Fault Refusal :=
  short (mk4 0x0#4 n 0x3#4 0x9#4) s (.ok (s.wrNoSuffix n .zero (bit32 !s.t)))

/-- `SWAP.B Rm,Rn`, encoding `6nm8` (rule R306). -/
def execSwapBRmRn (n : BitVec 4) (m : BitVec 4) (s : State) : Host.Outcome State Fault Refusal :=
  short (mk4 0x6#4 n m 0x8#4) s (.ok (s.wrNoSuffix n .unstated (swapBytes (lo32 (s.r m)))))

/-- `SWAP.W Rm,Rn`, encoding `6nm9` (rule R307). -/
def execSwapWRmRn (n : BitVec 4) (m : BitVec 4) (s : State) : Host.Outcome State Fault Refusal :=
  short (mk4 0x6#4 n m 0x9#4) s (.ok (s.wrNoSuffix n .unstated (swapWords (lo32 (s.r m)))))

/-- `XTRCT Rm,Rn`, encoding `2nmD` (rule R308). -/
def execXtrctRmRn (n : BitVec 4) (m : BitVec 4) (s : State) : Host.Outcome State Fault Refusal :=
  short (mk4 0x2#4 n m 0xD#4) s (.ok (s.wrNoSuffix n .unstated (middle (lo32 (s.r m)) (lo32 (s.r n)))))

/-- `MOV.L @PC+,Rn`, encoding `4n65` (rule R309). Reserved. -/
def execMovLAtPcIncRn (n : BitVec 4) (s : State) : Host.Outcome State Fault Refusal :=
  reserved (mk4 0x4#4 n 0x6#4 0x5#4) s

/-- `MOV.Q @PC+,Rn`, encoding `4n75` (rule R310). Reserved. -/
def execMovQAtPcIncRn (n : BitVec 4) (s : State) : Host.Outcome State Fault Refusal :=
  reserved (mk4 0x4#4 n 0x7#4 0x5#4) s

end Sys2Proof.Machine
end

