-- ==== Sys2Proof/Machine/Ieee.lean ====
section
/-! DEFINITION. Machine/Ieee.lean: the suggested instantiation of the `FP` record of rule R643: IEEE 754 binary16,
binary32 and binary64, computed exactly on integers and rounded once. Rounding: RM = 1 toward zero, every other RM to
nearest even. DN = 1: denormal operands and results are zeros of the same sign (a result is tested after rounding,
log 20). A NaN result is some NaN that the model leaves free (log 20). -/
namespace Sys2Proof.Machine

/-- A binary format: bits of the exponent and of the fraction. -/
structure Fmt where
  exp : Nat
  frac : Nat
  deriving DecidableEq, Repr

/-- binary16. -/
def fmtHalf : Fmt := ⟨5, 10⟩
/-- binary32. -/
def fmtSingle : Fmt := ⟨8, 23⟩
/-- binary64. -/
def fmtDouble : Fmt := ⟨11, 52⟩

/-- The format of `p` = 64 (`d`) or 32. -/
def fmtOf (d : Bool) : Fmt := if d then fmtDouble else fmtSingle

/-- The exponent bias. -/
def fmtBias (f : Fmt) : Int := 2 ^ (f.exp - 1) - 1

/-- The exponent of the least significant place of a denormal. -/
def fmtEmin (f : Fmt) : Int := 1 - fmtBias f - f.frac

/-- A float taken apart; `fin neg m e` is `±m * 2^e`. -/
inductive Num where
  | nan
  | inf (neg : Bool)
  | fin (neg : Bool) (m : Nat) (e : Int)
  deriving DecidableEq, Repr

/-- Bits to a number; denormals become zero when `flush`. -/
def unpack (f : Fmt) (flush : Bool) (x : Quad) : Num :=
  let frac := x.toNat % 2 ^ f.frac
  let ex := x.toNat / 2 ^ f.frac % 2 ^ f.exp
  let neg := x.getLsbD (f.exp + f.frac)
  if ex = 2 ^ f.exp - 1 then (if frac = 0 then .inf neg else .nan)
  else if ex = 0 then (if flush then .fin neg 0 0 else .fin neg frac (fmtEmin f))
  else .fin neg (2 ^ f.frac + frac) (fmtEmin f + (ex - 1 : Nat))

/-- The bits of sign, biased exponent and fraction. -/
def packBits (f : Fmt) (neg : Bool) (ex frac : Nat) : Quad :=
  BitVec.ofNat 64 (neg.toNat * 2 ^ (f.exp + f.frac) + ex * 2 ^ f.frac + frac)

/-- Infinity. -/
def packInf (f : Fmt) (neg : Bool) : Quad := packBits f neg (2 ^ f.exp - 1) 0

/-- Some NaN: sign and fraction from the free bits `raw`, the fraction not zero. -/
def packNan (f : Fmt) (raw : Quad) : Quad :=
  let frac := raw.toNat % 2 ^ f.frac
  packBits f (raw.getLsbD (f.exp + f.frac)) (2 ^ f.exp - 1) (if frac = 0 then 1 else frac)

/-- Whether rounding a value with `rem` of `unit` below the last place goes up: to nearest even, or toward zero when
`trunc`. `sticky`: some amount below `rem` remains. -/
def roundsUp (trunc sticky : Bool) (m rem unit : Nat) : Bool :=
  if trunc then false
  else if unit < 2 * rem then true
  else if 2 * rem = unit ∧ unit ≠ 1 then sticky || m % 2 == 1
  else false

/-- The float nearest to `±(m + δ) * 2^e`, 0 < δ < 1 if `sticky` and else δ = 0. With `sticky`, `m` must have at least
two bits more than the fraction. -/
def roundPack (f : Fmt) (trunc flush neg : Bool) (m : Nat) (e : Int) (sticky : Bool) : Quad :=
  if m = 0 then packBits f neg 0 0
  else
    let lead : Int := e + Nat.log2 m
    let place : Int := max (lead - f.frac) (fmtEmin f)
    let k : Int := place - e
    let m1 : Nat := if 0 ≤ k then m / 2 ^ k.toNat else m * 2 ^ (-k).toNat
    let rem : Nat := if 0 ≤ k then m % 2 ^ k.toNat else 0
    let unit : Nat := if 0 ≤ k then 2 ^ k.toNat else 1
    let m2 : Nat := if roundsUp trunc sticky m1 rem unit then m1 + 1 else m1
    if m2 < 2 ^ f.frac then (if flush then packBits f neg 0 0 else packBits f neg 0 m2)
    else
      let carry : Bool := m2 == 2 ^ (f.frac + 1)
      let frac : Nat := if carry then 0 else m2 - 2 ^ f.frac
      let ex : Nat := (place - fmtEmin f).toNat + 1 + carry.toNat
      if 2 ^ f.exp - 1 ≤ ex then
        (if trunc then packBits f neg (2 ^ f.exp - 2) (2 ^ f.frac - 1) else packInf f neg)
      else packBits f neg ex frac

/-- An exact integer times `2^e` rounded; an exact zero takes the sign `zeroNeg`. -/
def roundInt (f : Fmt) (trunc flush zeroNeg : Bool) (v : Int) (e : Int) : Quad :=
  if v = 0 then packBits f zeroNeg 0 0 else roundPack f trunc flush (decide (v < 0)) v.natAbs e false

/-- The signed significand of `±m * 2^e` at the exponent `e0 ≤ e`. -/
def scaled (neg : Bool) (m : Nat) (e e0 : Int) : Int :=
  let v : Int := (m * 2 ^ (e - e0).toNat : Nat)
  if neg then -v else v

/-- The integer square root, digit by digit from bit `k`. -/
def isqrtFrom (n : Nat) : Nat → Nat → Nat
  | 0, r => r
  | k + 1, r => isqrtFrom n k (if (r + 2 ^ k) ^ 2 ≤ n then r + 2 ^ k else r)

/-- The integer square root. -/
def isqrt (n : Nat) : Nat := isqrtFrom n (Nat.log2 n / 2 + 1) 0

/-- Sum of two numbers (rule R643). -/
def addNum (f : Fmt) (trunc flush : Bool) (nan : Quad) : Num → Num → Quad
  | .fin n1 m1 e1, .fin n2 m2 e2 =>
    let e := min e1 e2
    roundInt f trunc flush (n1 && n2 && m1 == 0 && m2 == 0) (scaled n1 m1 e1 e + scaled n2 m2 e2 e) e
  | .inf n1, .fin _ _ _ => packInf f n1
  | .fin _ _ _, .inf n2 => packInf f n2
  | .inf n1, .inf n2 => if n1 = n2 then packInf f n1 else packNan f nan
  | _, _ => packNan f nan

/-- A number with its sign changed. -/
def negNum : Num → Num
  | .nan => .nan
  | .inf n => .inf !n
  | .fin n m e => .fin (!n) m e

/-- Exact product of two numbers. -/
def mulExact : Num → Num → Num
  | .fin n1 m1 e1, .fin n2 m2 e2 => .fin (n1 ^^ n2) (m1 * m2) (e1 + e2)
  | .inf n1, .fin n2 m2 _ => if m2 = 0 then .nan else .inf (n1 ^^ n2)
  | .fin n1 m1 _, .inf n2 => if m1 = 0 then .nan else .inf (n1 ^^ n2)
  | .inf n1, .inf n2 => .inf (n1 ^^ n2)
  | _, _ => .nan

/-- A number rounded into a format. -/
def roundNum (f : Fmt) (trunc flush : Bool) (nan : Quad) : Num → Quad
  | .nan => packNan f nan
  | .inf n => packInf f n
  | .fin n m e => roundPack f trunc flush n m e false

/-- Quotient of two numbers. -/
def divNum (f : Fmt) (trunc flush : Bool) (nan : Quad) : Num → Num → Quad
  | .fin n1 m1 e1, .fin n2 m2 e2 =>
    if m2 = 0 then (if m1 = 0 then packNan f nan else packInf f (n1 ^^ n2))
    else
      let k := 2 * f.frac + 8
      roundPack f trunc flush (n1 ^^ n2) (m1 * 2 ^ k / m2) (e1 - e2 - k) (m1 * 2 ^ k % m2 != 0)
  | .inf n1, .fin n2 _ _ => packInf f (n1 ^^ n2)
  | .fin n1 _ _, .inf n2 => packBits f (n1 ^^ n2) 0 0
  | _, _ => packNan f nan

/-- Square root of a number. -/
def sqrtNum (f : Fmt) (trunc flush : Bool) (nan : Quad) : Num → Quad
  | .fin n m e =>
    if m = 0 then packBits f n 0 0
    else if n then packNan f nan
    else
      let k : Nat := 2 * f.frac + 8 + (e % 2).toNat
      let r := isqrt (m * 2 ^ k)
      roundPack f trunc flush false r ((e - k) / 2) (r * r != m * 2 ^ k)
  | .inf n => if n then packNan f nan else packInf f false
  | .nan => packNan f nan

/-- Whether the first number is equal to the second; false if one is a NaN. -/
def eqNum : Num → Num → Bool
  | .fin n1 m1 e1, .fin n2 m2 e2 => scaled n1 m1 e1 (min e1 e2) == scaled n2 m2 e2 (min e1 e2)
  | .inf n1, .inf n2 => n1 == n2
  | _, _ => false

/-- Whether the first number is greater than the second; false if one is a NaN. -/
def gtNum : Num → Num → Bool
  | .fin n1 m1 e1, .fin n2 m2 e2 => decide (scaled n2 m2 e2 (min e1 e2) < scaled n1 m1 e1 (min e1 e2))
  | .inf n1, .fin _ _ _ => !n1
  | .fin _ _ _, .inf n2 => n2
  | .inf n1, .inf n2 => !n1 && n2
  | _, _ => false

/-- Toward zero to a signed 32-bit integer, saturating; NaN gives `0x80000000` (rule R643). -/
def toInt32 : Num → Dword
  | .nan => 0x80000000
  | .inf n => if n then 0x80000000 else 0x7FFFFFFF
  | .fin n m e =>
    let v : Nat := if 0 ≤ e then m * 2 ^ e.toNat else m / 2 ^ (-e).toNat
    if n then (if 2 ^ 31 ≤ v then 0x80000000 else BitVec.ofInt 32 (-(v : Int)))
    else (if 2 ^ 31 ≤ v then 0x7FFFFFFF else BitVec.ofNat 32 v)

/-- Whether an RM value rounds toward zero (rule R643). -/
def truncates (rm : BitVec 2) : Bool := rm == 1

/-- `FP.add`, `FP.sub`, `FP.mul`, `FP.div` (rule R643): double, rm, dn, operands. -/
def ieeeBinary (op : FpOp) (d : Bool) (rm : BitVec 2) (dn : Bool) (a b : Quad) : Quad :=
  let f := fmtOf d
  let x := unpack f dn a
  let y := unpack f dn b
  let nan := Config.nanPattern op d a b 0
  match op with
  | .sub => addNum f (truncates rm) dn nan x (negNum y)
  | .mul => roundNum f (truncates rm) dn nan (mulExact x y)
  | .div => divNum f (truncates rm) dn nan x y
  | _ => addNum f (truncates rm) dn nan x y

/-- `FP.sqrt`. -/
def ieeeSqrt (d : Bool) (rm : BitVec 2) (dn : Bool) (a : Quad) : Quad :=
  sqrtNum (fmtOf d) (truncates rm) dn (Config.nanPattern .sqrt d a 0 0) (unpack (fmtOf d) dn a)

/-- `FP.mac`: `a * b + c`, rounded once. -/
def ieeeMac (d : Bool) (rm : BitVec 2) (dn : Bool) (a b c : Quad) : Quad :=
  let f := fmtOf d
  addNum f (truncates rm) dn (Config.nanPattern .mac d a b c) (mulExact (unpack f dn a) (unpack f dn b))
    (unpack f dn c)

/-- `FP.eq`. -/
def ieeeEq (d dn : Bool) (a b : Quad) : Bool := eqNum (unpack (fmtOf d) dn a) (unpack (fmtOf d) dn b)

/-- `FP.gt`. -/
def ieeeGt (d dn : Bool) (a b : Quad) : Bool := gtNum (unpack (fmtOf d) dn a) (unpack (fmtOf d) dn b)

/-- `FP.from_i32`. -/
def ieeeFromInt (d : Bool) (rm : BitVec 2) (i : Dword) : Quad :=
  roundInt (fmtOf d) (truncates rm) false false i.toInt 0

/-- `FP.to_i32`. -/
def ieeeToInt (d dn : Bool) (a : Quad) : Dword := toInt32 (unpack (fmtOf d) dn a)

/-- `FP.widen`. -/
def ieeeWiden (dn : Bool) (a : Dword) : Quad :=
  roundNum fmtDouble false dn (Config.nanPattern .widen true (a.setWidth 64) 0 0)
    (unpack fmtSingle dn (a.setWidth 64))

/-- `FP.narrow`. -/
def ieeeNarrow (rm : BitVec 2) (dn : Bool) (a : Quad) : Dword :=
  (roundNum fmtSingle (truncates rm) dn (Config.nanPattern .narrow false a 0 0) (unpack fmtDouble dn a)).setWidth 32

/-- `FP.half`, exact. -/
def ieeeHalf (h : BitVec 16) : Dword :=
  (roundNum fmtSingle false false (Config.nanPattern .half false (h.setWidth 64) 0 0)
    (unpack fmtHalf false (h.setWidth 64))).setWidth 32

end Sys2Proof.Machine
end

