-- ==== Sys2Proof/Machine/FpuOps.lean ====
section
/-! DEFINITION. Machine/FpuOps.lean: the `FP` record of rule R643 as the configuration gives it: the suggested
instantiation, or functions left open (log 21). -/
namespace Sys2Proof.Machine

/-- `FP.add`, `FP.sub`, `FP.mul`, `FP.div` with `rm` and `dn` from FPSCR. -/
def State.fpBin (s : State) (op : FpOp) (d : Bool) (a b : Quad) : Quad :=
  match s.cfg.fp with
  | .suggested => ieeeBinary op d s.fpRm s.fpDn a b
  | .opened => Config.openFpBinary op d s.fpRm s.fpDn a b

/-- `FP.sqrt`. -/
def State.fpSqrt (s : State) (d : Bool) (a : Quad) : Quad :=
  match s.cfg.fp with
  | .suggested => ieeeSqrt d s.fpRm s.fpDn a
  | .opened => Config.openFpSqrt d s.fpRm s.fpDn a

/-- `FP.mac`. -/
def State.fpMac (s : State) (d : Bool) (a b c : Quad) : Quad :=
  match s.cfg.fp with
  | .suggested => ieeeMac d s.fpRm s.fpDn a b c
  | .opened => Config.openFpMac d s.fpRm s.fpDn a b c

/-- `FP.eq`. -/
def State.fpEq (s : State) (d : Bool) (a b : Quad) : Bool :=
  match s.cfg.fp with
  | .suggested => ieeeEq d s.fpDn a b
  | .opened => Config.openFpEq d s.fpDn a b

/-- `FP.gt`. -/
def State.fpGt (s : State) (d : Bool) (a b : Quad) : Bool :=
  match s.cfg.fp with
  | .suggested => ieeeGt d s.fpDn a b
  | .opened => Config.openFpGt d s.fpDn a b

/-- `FP.from_i32`. -/
def State.fpFromInt (s : State) (d : Bool) (i : Dword) : Quad :=
  match s.cfg.fp with
  | .suggested => ieeeFromInt d s.fpRm i
  | .opened => Config.openFpFromInt d s.fpRm i

/-- `FP.to_i32`. -/
def State.fpToInt (s : State) (d : Bool) (a : Quad) : Dword :=
  match s.cfg.fp with
  | .suggested => ieeeToInt d s.fpDn a
  | .opened => Config.openFpToInt d s.fpDn a

/-- `FP.widen`. -/
def State.fpWiden (s : State) (a : Dword) : Quad :=
  match s.cfg.fp with
  | .suggested => ieeeWiden s.fpDn a
  | .opened => Config.openFpWiden s.fpDn a

/-- `FP.narrow`. -/
def State.fpNarrow (s : State) (a : Quad) : Dword :=
  match s.cfg.fp with
  | .suggested => ieeeNarrow s.fpRm s.fpDn a
  | .opened => Config.openFpNarrow s.fpRm s.fpDn a

/-- `FP.half`. -/
def State.fpHalf (s : State) (h : BitVec 16) : Dword :=
  match s.cfg.fp with
  | .suggested => ieeeHalf h
  | .opened => Config.openFpHalf h

/-- `FRn <- FRn op FRm` at the precision of FPSCR.PR (rules R650 to R653). -/
def State.fpArith (s : State) (op : FpOp) (n m : Reg) : Res State :=
  s.fpu (.ok (s.setOpd n (s.fpBin op s.fpPr (s.opd n) (s.opd m))))

/-- The three-address float operation of TACB at the precision Q (rules R930 to R933). -/
def State.fpArith3 (s : State) (op : FpOp) (q nx sx tx : Bool) (n a b : Reg) : Res State :=
  s.fpu (.ok (s.setFpReg q nx n (s.fpBin op q (s.fpReg q sx a) (s.fpReg q tx b))))

/-- The sign cell of `Opd(n)` changed by `f` (rules R672, R673). -/
def State.fpSign (s : State) (n : Reg) (f : Dword → Dword) : State :=
  if s.fpPr then s.setFx (pairBank false n) (pairHi n) (f (s.fx (pairBank false n) (pairHi n)))
  else s.setFx false n (f (s.fx false n))

/-- The VV byte's moves (rules R697, R698): selector `w`, the bits `x` and `y` and the register nibbles. -/
def State.vvMove (s : State) (w : BitVec 4) (x y : Bool) (n m : Reg) : Res State :=
  match w.toNat with
  | 0x0 => s.fpu (.ok (s.setFx x n (s.fx y m)))
  | 0x3 => require (!y || s.hasRh) (s.fpu (.ok (s.setFx x n (s.half y m))))
  | 0x5 => s.fpu (.ok (s.setPair x n (s.pair y m)))
  | 0x7 => require (!y && s.hasRh) (s.fpu (.ok (s.setPair x n (s.r m))))
  | 0x8 => require (!(x || y) || s.hasRh) (s.fpu (.ok (s.setHalf x n (s.half y m))))
  | 0xA => require (!x && !y && s.hasRh) (s.fpu (.ok (s.setR n (s.r m))))
  | 0xC => require (!x || s.hasRh) (s.fpu (.ok (s.setHalf x n (s.fx y m))))
  | 0xD => require (!x && s.hasRh) (s.fpu (.ok (s.setR n (s.pair y m))))
  | _ => illegal

end Sys2Proof.Machine
end

