-- ==== Sys2Proof/Machine/Fpu.lean ====
section
/-! DEFINITION. Machine/Fpu.lean: the Basic FPU instructions (spec/45_fpu.md). -/
namespace Sys2Proof.Machine

/-- A dword with bit `i` complemented (rules R680, R681, R682). -/
def flipBit32 (x : Dword) (i : Nat) : Dword := x ^^^ (1#32 <<< i)

/-- FPSCR after `PSETMD #imm4`, `imm4 = z p m m` (rule R679). -/
def packMode4 (x : Dword) (imm : BitVec 4) : Dword :=
  putBit32 (putBit32 ((x &&& ~~~3#32) ||| (imm.extractLsb' 0 2).setWidth 32) 19 (imm.getLsbD 2)) 20 (imm.getLsbD 3)

/-- FPSCR after `PSETMD #imm12`, low bits `f z p d m m` (rule R699). -/
def packMode12 (imm : BitVec 12) : Dword :=
  (imm.extractLsb' 2 4).setWidth 32 <<< 18 ||| (imm.extractLsb' 0 2).setWidth 32

/-- `FADD FRm,FRn`, encoding `Fnm0` (rule R650). -/
def execFaddFRmFRn (n : BitVec 4) (m : BitVec 4) (s : State) : Host.Outcome State Fault Refusal :=
  short (mk4 0xF#4 n m 0x0#4) s (s.fpArith .add n m)

/-- `FSUB FRm,FRn`, encoding `Fnm1` (rule R651). -/
def execFsubFRmFRn (n : BitVec 4) (m : BitVec 4) (s : State) : Host.Outcome State Fault Refusal :=
  short (mk4 0xF#4 n m 0x1#4) s (s.fpArith .sub n m)

/-- `FMUL FRm,FRn`, encoding `Fnm2` (rule R652). -/
def execFmulFRmFRn (n : BitVec 4) (m : BitVec 4) (s : State) : Host.Outcome State Fault Refusal :=
  short (mk4 0xF#4 n m 0x2#4) s (s.fpArith .mul n m)

/-- `FDIV FRm,FRn`, encoding `Fnm3` (rule R653). -/
def execFdivFRmFRn (n : BitVec 4) (m : BitVec 4) (s : State) : Host.Outcome State Fault Refusal :=
  short (mk4 0xF#4 n m 0x3#4) s (s.fpArith .div n m)

/-- `FCMPEQ FRm,FRn`, encoding `Fnm4` (rule R654). -/
def execFcmpeqFRmFRn (n : BitVec 4) (m : BitVec 4) (s : State) : Host.Outcome State Fault Refusal :=
  short (mk4 0xF#4 n m 0x4#4) s (s.fpu (.ok (s.setT (s.fpEq s.fpPr (s.opd n) (s.opd m)))))

/-- `FCMPGT FRm,FRn`, encoding `Fnm5` (rule R655). -/
def execFcmpgtFRmFRn (n : BitVec 4) (m : BitVec 4) (s : State) : Host.Outcome State Fault Refusal :=
  short (mk4 0xF#4 n m 0x5#4) s (s.fpu (.ok (s.setT (s.fpGt s.fpPr (s.opd n) (s.opd m)))))

/-- `FMOV.S @(R0,Rm),FRn`, encoding `Fnm6` (rule R661). -/
def execFmovSAtR0RmFRn (n : BitVec 4) (m : BitVec 4) (s : State) : Host.Outcome State Fault Refusal :=
  short (mk4 0xF#4 n m 0x6#4) s (s.fpu (s.fpLoad s.xferKind false n (s.r 0 + s.r m)))

/-- `FMOV.S FRm,@(R0,Rn)`, encoding `Fnm7` (rule R662). -/
def execFmovSFRmAtR0Rn (n : BitVec 4) (m : BitVec 4) (s : State) : Host.Outcome State Fault Refusal :=
  short (mk4 0xF#4 n m 0x7#4) s (s.fpu (s.fpStore s.xferKind false m (s.r 0 + s.r n)))

/-- `FMOV.S @Rm,FRn`, encoding `Fnm8` (rule R663). -/
def execFmovSAtRmFRn (n : BitVec 4) (m : BitVec 4) (s : State) : Host.Outcome State Fault Refusal :=
  short (mk4 0xF#4 n m 0x8#4) s (s.fpu (s.fpLoad s.xferKind false n (s.r m)))

/-- `FMOV.S @Rm+,FRn`, encoding `Fnm9` (rule R664). -/
def execFmovSAtRmIncFRn (n : BitVec 4) (m : BitVec 4) (s : State) : Host.Outcome State Fault Refusal :=
  short (mk4 0xF#4 n m 0x9#4) s (s.fpu (s.fpLoadInc s.xferKind false n m))

/-- `FMOV.S FRm,@Rn`, encoding `FnmA` (rule R665). -/
def execFmovSFRmAtRn (n : BitVec 4) (m : BitVec 4) (s : State) : Host.Outcome State Fault Refusal :=
  short (mk4 0xF#4 n m 0xA#4) s (s.fpu (s.fpStore s.xferKind false m (s.r n)))

/-- `FMOV.S FRm,@-Rn`, encoding `FnmB` (rule R666). -/
def execFmovSFRmAtDecRn (n : BitVec 4) (m : BitVec 4) (s : State) : Host.Outcome State Fault Refusal :=
  short (mk4 0xF#4 n m 0xB#4) s (s.fpu (s.fpStoreDec s.xferKind false m n))

/-- `FMOV FRm,FRn`, encoding `FnmC` (rule R667). -/
def execFmovFRmFRn (n : BitVec 4) (m : BitVec 4) (s : State) : Host.Outcome State Fault Refusal :=
  short (mk4 0xF#4 n m 0xC#4) s (s.fpu (.ok (s.setFpReg s.fpSz false n (s.fpReg s.fpSz false m))))

/-- `FSTS FRn`, encoding `Fn0D` (rule R668). -/
def execFstsFRn (n : BitVec 4) (s : State) : Host.Outcome State Fault Refusal :=
  short (mk4 0xF#4 n 0x0#4 0xD#4) s (s.fpu (.ok (s.setFx false n s.fpul)))

/-- `FLDS FRm`, encoding `Fm1D` (rule R669). -/
def execFldsFRm (m : BitVec 4) (s : State) : Host.Outcome State Fault Refusal :=
  short (mk4 0xF#4 m 0x1#4 0xD#4) s (s.fpu (.ok { s with fpul := s.fx false m }))

/-- `FLOAT FRn`, encoding `Fn2D` (rule R670). -/
def execFloatFRn (n : BitVec 4) (s : State) : Host.Outcome State Fault Refusal :=
  short (mk4 0xF#4 n 0x2#4 0xD#4) s (s.fpu (.ok (s.setOpd n (s.fpFromInt s.fpPr s.fpul))))

/-- `FTRC FRm`, encoding `Fm3D` (rule R671). -/
def execFtrcFRm (m : BitVec 4) (s : State) : Host.Outcome State Fault Refusal :=
  short (mk4 0xF#4 m 0x3#4 0xD#4) s (s.fpu (.ok { s with fpul := s.fpToInt s.fpPr (s.opd m) }))

/-- `FNEG FRn`, encoding `Fn4D` (rule R672). -/
def execFnegFRn (n : BitVec 4) (s : State) : Host.Outcome State Fault Refusal :=
  short (mk4 0xF#4 n 0x4#4 0xD#4) s (s.fpu (.ok (s.fpSign n fun x => x ^^^ 0x80000000)))

/-- `FABS FRn`, encoding `Fn5D` (rule R673). -/
def execFabsFRn (n : BitVec 4) (s : State) : Host.Outcome State Fault Refusal :=
  short (mk4 0xF#4 n 0x5#4 0xD#4) s (s.fpu (.ok (s.fpSign n fun x => x &&& 0x7FFFFFFF)))

/-- `FSQRT FRn`, encoding `Fn6D` (rule R674). -/
def execFsqrtFRn (n : BitVec 4) (s : State) : Host.Outcome State Fault Refusal :=
  short (mk4 0xF#4 n 0x6#4 0xD#4) s (s.fpu (.ok (s.setOpd n (s.fpSqrt s.fpPr (s.opd n)))))

/-- `FLDI0 FRn`, encoding `Fn8D` (rule R675). -/
def execFldi0FRn (n : BitVec 4) (s : State) : Host.Outcome State Fault Refusal :=
  short (mk4 0xF#4 n 0x8#4 0xD#4) s (s.fpu (.ok (s.setFx false n 0)))

/-- `FLDI1 FRn`, encoding `Fn9D` (rule R676). -/
def execFldi1FRn (n : BitVec 4) (s : State) : Host.Outcome State Fault Refusal :=
  short (mk4 0xF#4 n 0x9#4 0xD#4) s (s.fpu (.ok (s.setFx false n 0x3F800000)))

/-- `FCNVSD FRn`, encoding `FnAD` (rule R677). -/
def execFcnvsdFRn (n : BitVec 4) (s : State) : Host.Outcome State Fault Refusal :=
  short (mk4 0xF#4 n 0xA#4 0xD#4) s (s.fpu (.ok (s.setPair false n (s.fpWiden s.fpul))))

/-- `FCNVDS FRm`, encoding `FmBD` (rule R678). -/
def execFcnvdsFRm (m : BitVec 4) (s : State) : Host.Outcome State Fault Refusal :=
  short (mk4 0xF#4 m 0xB#4 0xD#4) s (s.fpu (.ok { s with fpul := s.fpNarrow (s.pair false m) }))

/-- `PSETMD #imm4`, encoding `FiDD` (rule R679). -/
def execPsetmdImm4 (imm : BitVec 4) (s : State) : Host.Outcome State Fault Refusal :=
  short (mk4 0xF#4 imm 0xD#4 0xD#4) s (s.fpu (.ok { s with fpscr := packMode4 s.fpscr imm }))

/-- `FSCHG`, encoding `F3FD` (rule R680). -/
def execFschg (s : State) : Host.Outcome State Fault Refusal :=
  short (mk4 0xF#4 0x3#4 0xF#4 0xD#4) s (s.fpu (.ok { s with fpscr := flipBit32 s.fpscr 20 }))

/-- `FPCHG`, encoding `F7FD` (rule R681). -/
def execFpchg (s : State) : Host.Outcome State Fault Refusal :=
  short (mk4 0xF#4 0x7#4 0xF#4 0xD#4) s (s.fpu (.ok { s with fpscr := flipBit32 s.fpscr 19 }))

/-- `FRCHG`, encoding `FBFD` (rule R682). -/
def execFrchg (s : State) : Host.Outcome State Fault Refusal :=
  short (mk4 0xF#4 0xB#4 0xF#4 0xD#4) s (s.fpu (.ok { s with fpscr := flipBit32 s.fpscr 21 }))

/-- `FMAC FRm,FRn`, encoding `FnmE` (rule R683). -/
def execFmacFRmFRn (n : BitVec 4) (m : BitVec 4) (s : State) : Host.Outcome State Fault Refusal :=
  short (mk4 0xF#4 n m 0xE#4) s (s.fpu (.ok (s.setOpd n (s.fpMac s.fpPr (s.opd 0) (s.opd m) (s.opd n)))))

/-- `FMOV.S @(Rm,Ro),FRn`, encoding `8Evo-Fnm6` (rule R691). -/
def execXvFmovSAtRmRoFRn (v : BitVec 4) (o : BitVec 4) (n : BitVec 4) (m : BitVec 4) (s : State) :
    Host.Outcome State Fault Refusal :=
  wide (mk4 0x8#4 0xE#4 v o) s (s.vvForm v (vvY v) fun k => s.fpLoad k (vvX v) n (s.ea3 (s.r m) o 0 (xferSize k)))

/-- `FMOV.S FRm,@(Rn,Ro)`, encoding `8Evo-Fnm7` (rule R692). -/
def execXvFmovSFRmAtRnRo (v : BitVec 4) (o : BitVec 4) (n : BitVec 4) (m : BitVec 4) (s : State) :
    Host.Outcome State Fault Refusal :=
  wide (mk4 0x8#4 0xE#4 v o) s (s.vvForm v (vvX v) fun k => s.fpStore k (vvY v) m (s.ea3 (s.r n) o 0 (xferSize k)))

/-- `FMOV.S @(Rm,disp4),FRn`, encoding `8Evd-Fnm8` (rule R693). -/
def execXvFmovSAtRmDisp4FRn (v : BitVec 4) (disp : BitVec 4) (n : BitVec 4) (m : BitVec 4) (s : State) :
    Host.Outcome State Fault Refusal :=
  wide (mk4 0x8#4 0xE#4 v disp) s (s.vvForm v (vvY v) fun k => s.fpLoad k (vvX v) n (s.r m + zdisp disp (xferSize k)))

/-- `FMOV.S @Rm+,FRn`, encoding `8Ev0-Fnm9` (rule R694). -/
def execXvFmovSAtRmIncFRn (v : BitVec 4) (n : BitVec 4) (m : BitVec 4) (s : State) :
    Host.Outcome State Fault Refusal :=
  wide (mk4 0x8#4 0xE#4 v 0x0#4) s (s.vvForm v (vvY v) fun k => s.fpLoadInc k (vvX v) n m)

/-- `FMOV.S FRm,@(Rn,disp4)`, encoding `8Evd-FnmA` (rule R695). -/
def execXvFmovSFRmAtRnDisp4 (v : BitVec 4) (disp : BitVec 4) (n : BitVec 4) (m : BitVec 4) (s : State) :
    Host.Outcome State Fault Refusal :=
  wide (mk4 0x8#4 0xE#4 v disp) s
    (s.vvForm v (vvX v) fun k => s.fpStore k (vvY v) m (s.r n + zdisp disp (xferSize k)))

/-- `FMOV.S FRm,@-Rn`, encoding `8Ev0-FnmB` (rule R696). -/
def execXvFmovSFRmAtDecRn (v : BitVec 4) (n : BitVec 4) (m : BitVec 4) (s : State) :
    Host.Outcome State Fault Refusal :=
  wide (mk4 0x8#4 0xE#4 v 0x0#4) s (s.vvForm v (vvX v) fun k => s.fpStoreDec k (vvY v) m n)

/-- `FMOV FRm,FRn`, encoding `8Evv-FnmC` (rule R698). -/
def execXvFmovFRmFRn (v : BitVec 8) (n : BitVec 4) (m : BitVec 4) (s : State) : Host.Outcome State Fault Refusal :=
  wide (mk4 0x8#4 0xE#4 (v.extractLsb' 4 4) (v.extractLsb' 0 4)) s
    (require (!(v.getLsbD 3 || v.getLsbD 1)) (s.vvMove (v.extractLsb' 4 4) (v.getLsbD 2) (v.getLsbD 0) n m))

/-- `PSETMD #imm12`, encoding `8Eii-FiDD` (rule R699). -/
def execXPsetmdImm12 (imm : BitVec 12) (s : State) : Host.Outcome State Fault Refusal :=
  wide (mk4 0x8#4 0xE#4 (imm.extractLsb' 8 4) (imm.extractLsb' 4 4)) s
    (require (imm.extractLsb' 6 6 == 0) (s.fpu (.ok { s with fpscr := packMode12 imm })))

end Sys2Proof.Machine
end

