-- ==== Sys2Proof/Machine/LogicShift.lean ====
section
/-! DEFINITION. Machine/LogicShift.lean: the 16-bit logic, shift, rotate and half-register instructions (spec/42_logic_shift.md). -/
namespace Sys2Proof.Machine

/-- TAS.B (rule R452): both checks, the read, the write, T. -/
def State.tas (s : State) (ea : Quad) : Res State :=
  s.bothChecked ea 1 <|
    match s.load ea 1 with
    | .error e => .error e
    | .ok b => (s.store ea 1 (b ||| 0x80)).map fun s' => s'.setT (b == 0)

/-- `AND./Q Rm,Rn`, encoding `2nm9` (rule R421). -/
def execAndRmRn (n : BitVec 4) (m : BitVec 4) (s : State) : Host.Outcome State Fault Refusal :=
  short (mk4 0x2#4 n m 0x9#4) s (.ok (s.binOp aluAnd n (s.r n) (s.r m)))

/-- `AND./Q #imm,R0`, encoding `C9jj` (rule R422). -/
def execAndImmR0 (imm : BitVec 8) (s : State) : Host.Outcome State Fault Refusal :=
  short (mk4 0xC#4 0x9#4 (imm.extractLsb' 4 4) (imm.extractLsb' 0 4)) s
    (.ok (s.binOp aluAnd 0 (s.r 0) (imm.setWidth 64)))

/-- `AND.B #imm,@(GBR,R0)`, encoding `CDjj` (rule R423). -/
def execAndBImmAtGbrR0 (imm : BitVec 8) (s : State) : Host.Outcome State Fault Refusal :=
  short (mk4 0xC#4 0xD#4 (imm.extractLsb' 4 4) (imm.extractLsb' 0 4)) s
    (s.needNotJq (s.modifyByte (s.gbr + s.r 0) fun b => b &&& imm))

/-- `OR./Q Rm,Rn`, encoding `2nmB` (rule R424). -/
def execOrRmRn (n : BitVec 4) (m : BitVec 4) (s : State) : Host.Outcome State Fault Refusal :=
  short (mk4 0x2#4 n m 0xB#4) s (.ok (s.binOp aluOr n (s.r n) (s.r m)))

/-- `OR./Q #imm,R0`, encoding `CBjj` (rule R425). -/
def execOrImmR0 (imm : BitVec 8) (s : State) : Host.Outcome State Fault Refusal :=
  short (mk4 0xC#4 0xB#4 (imm.extractLsb' 4 4) (imm.extractLsb' 0 4)) s
    (.ok (s.binOp aluOr 0 (s.r 0) (imm.setWidth 64)))

/-- `OR.B #imm,@(GBR,R0)`, encoding `CFjj` (rule R426). -/
def execOrBImmAtGbrR0 (imm : BitVec 8) (s : State) : Host.Outcome State Fault Refusal :=
  short (mk4 0xC#4 0xF#4 (imm.extractLsb' 4 4) (imm.extractLsb' 0 4)) s
    (s.needNotJq (s.modifyByte (s.gbr + s.r 0) fun b => b ||| imm))

/-- `XOR./Q Rm,Rn`, encoding `2nmA` (rule R427). -/
def execXorRmRn (n : BitVec 4) (m : BitVec 4) (s : State) : Host.Outcome State Fault Refusal :=
  short (mk4 0x2#4 n m 0xA#4) s (.ok (s.binOp aluXor n (s.r n) (s.r m)))

/-- `XOR./Q #imm,R0`, encoding `CAjj` (rule R428). -/
def execXorImmR0 (imm : BitVec 8) (s : State) : Host.Outcome State Fault Refusal :=
  short (mk4 0xC#4 0xA#4 (imm.extractLsb' 4 4) (imm.extractLsb' 0 4)) s
    (.ok (s.binOp aluXor 0 (s.r 0) (imm.setWidth 64)))

/-- `XOR.B #imm,@(GBR,R0)`, encoding `CEjj` (rule R429). -/
def execXorBImmAtGbrR0 (imm : BitVec 8) (s : State) : Host.Outcome State Fault Refusal :=
  short (mk4 0xC#4 0xE#4 (imm.extractLsb' 4 4) (imm.extractLsb' 0 4)) s
    (s.needNotJq (s.modifyByte (s.gbr + s.r 0) fun b => b ^^^ imm))

/-- `TST./Q Rm,Rn`, encoding `2nm8` (rule R430). -/
def execTstRmRn (n : BitVec 4) (m : BitVec 4) (s : State) : Host.Outcome State Fault Refusal :=
  short (mk4 0x2#4 n m 0x8#4) s (.ok (s.cmpOp cmpTst (s.r n) (s.r m)))

/-- `TST./Q #imm,R0`, encoding `C8jj` (rule R431). -/
def execTstImmR0 (imm : BitVec 8) (s : State) : Host.Outcome State Fault Refusal :=
  short (mk4 0xC#4 0x8#4 (imm.extractLsb' 4 4) (imm.extractLsb' 0 4)) s
    (.ok (s.cmpOp cmpTst (s.r 0) (imm.setWidth 64)))

/-- `TST.B #imm,@(GBR,R0)`, encoding `CCjj` (rule R432). -/
def execTstBImmAtGbrR0 (imm : BitVec 8) (s : State) : Host.Outcome State Fault Refusal :=
  short (mk4 0xC#4 0xC#4 (imm.extractLsb' 4 4) (imm.extractLsb' 0 4)) s
    (s.needNotJq ((s.load (s.gbr + s.r 0) 1).map fun b => s.setT (b &&& imm.setWidth 64 == 0)))

/-- `NOT./Q Rm,Rn`, encoding `6nm7` (rule R433). -/
def execNotRmRn (n : BitVec 4) (m : BitVec 4) (s : State) : Host.Outcome State Fault Refusal :=
  short (mk4 0x6#4 n m 0x7#4) s (.ok (s.binOp aluNot n (s.r n) (s.r m)))

/-- `TAS.B @Rn`, encoding `4n1B` (rule R452). -/
def execTasBAtRn (n : BitVec 4) (s : State) : Host.Outcome State Fault Refusal :=
  short (mk4 0x4#4 n 0x1#4 0xB#4) s (s.tas (s.r n))

/-- `SHAD./Q Rm,Rn`, encoding `4nmC` (rule R461). -/
def execShadRmRn (n : BitVec 4) (m : BitVec 4) (s : State) : Host.Outcome State Fault Refusal :=
  short (mk4 0x4#4 n m 0xC#4) s (.ok (s.binOp aluShad n (s.r n) (s.r m)))

/-- `SHLD./Q Rm,Rn`, encoding `4nmD` (rule R462). -/
def execShldRmRn (n : BitVec 4) (m : BitVec 4) (s : State) : Host.Outcome State Fault Refusal :=
  short (mk4 0x4#4 n m 0xD#4) s (.ok (s.binOp aluShld n (s.r n) (s.r m)))

/-- `SHLL./Q Rn`, encoding `4n00` (rule R463). -/
def execShllRn (n : BitVec 4) (s : State) : Host.Outcome State Fault Refusal :=
  short (mk4 0x4#4 n 0x0#4 0x0#4) s (.ok (s.unTOp aluShl1 n))

/-- `SHAL./Q Rn`, encoding `4n20` (rule R464). -/
def execShalRn (n : BitVec 4) (s : State) : Host.Outcome State Fault Refusal :=
  short (mk4 0x4#4 n 0x2#4 0x0#4) s (.ok (s.unTOp aluShl1 n))

/-- `SHLR./Q Rn`, encoding `4n01` (rule R465). -/
def execShlrRn (n : BitVec 4) (s : State) : Host.Outcome State Fault Refusal :=
  short (mk4 0x4#4 n 0x0#4 0x1#4) s (.ok (s.unTOp aluShr1 n))

/-- `SHAR./Q Rn`, encoding `4n21` (rule R466). -/
def execSharRn (n : BitVec 4) (s : State) : Host.Outcome State Fault Refusal :=
  short (mk4 0x4#4 n 0x2#4 0x1#4) s (.ok (s.unTOp aluSar1 n))

/-- `ROTL./Q Rn`, encoding `4n04` (rule R467). -/
def execRotlRn (n : BitVec 4) (s : State) : Host.Outcome State Fault Refusal :=
  short (mk4 0x4#4 n 0x0#4 0x4#4) s (.ok (s.unTOp aluRotl n))

/-- `ROTR./Q Rn`, encoding `4n05` (rule R468). -/
def execRotrRn (n : BitVec 4) (s : State) : Host.Outcome State Fault Refusal :=
  short (mk4 0x4#4 n 0x0#4 0x5#4) s (.ok (s.unTOp aluRotr n))

/-- `ROTCL./Q Rn`, encoding `4n24` (rule R469). -/
def execRotclRn (n : BitVec 4) (s : State) : Host.Outcome State Fault Refusal :=
  short (mk4 0x4#4 n 0x2#4 0x4#4) s (.ok (s.unTOp aluRotcl n))

/-- `ROTCR./Q Rn`, encoding `4n25` (rule R470). -/
def execRotcrRn (n : BitVec 4) (s : State) : Host.Outcome State Fault Refusal :=
  short (mk4 0x4#4 n 0x2#4 0x5#4) s (.ok (s.unTOp aluRotcr n))

/-- `SHLL2./Q Rn`, encoding `4n08` (rule R471). -/
def execShll2Rn (n : BitVec 4) (s : State) : Host.Outcome State Fault Refusal :=
  short (mk4 0x4#4 n 0x0#4 0x8#4) s (.ok (s.unOp (aluShlBy 2) n))

/-- `SHLL8./Q Rn`, encoding `4n18` (rule R472). -/
def execShll8Rn (n : BitVec 4) (s : State) : Host.Outcome State Fault Refusal :=
  short (mk4 0x4#4 n 0x1#4 0x8#4) s (.ok (s.unOp (aluShlBy 8) n))

/-- `SHLL16./Q Rn`, encoding `4n28` (rule R473). -/
def execShll16Rn (n : BitVec 4) (s : State) : Host.Outcome State Fault Refusal :=
  short (mk4 0x4#4 n 0x2#4 0x8#4) s (.ok (s.unOp (aluShlBy 16) n))

/-- `SHLR2./Q Rn`, encoding `4n09` (rule R474). -/
def execShlr2Rn (n : BitVec 4) (s : State) : Host.Outcome State Fault Refusal :=
  short (mk4 0x4#4 n 0x0#4 0x9#4) s (.ok (s.unOp (aluShrBy 2) n))

/-- `SHLR8./Q Rn`, encoding `4n19` (rule R475). -/
def execShlr8Rn (n : BitVec 4) (s : State) : Host.Outcome State Fault Refusal :=
  short (mk4 0x4#4 n 0x1#4 0x9#4) s (.ok (s.unOp (aluShrBy 8) n))

/-- `SHLR16./Q Rn`, encoding `4n29` (rule R476). -/
def execShlr16Rn (n : BitVec 4) (s : State) : Host.Outcome State Fault Refusal :=
  short (mk4 0x4#4 n 0x2#4 0x9#4) s (.ok (s.unOp (aluShrBy 16) n))

/-- `SHLL4 Rn`, encoding `4n34` (rule R477). -/
def execShll4Rn (n : BitVec 4) (s : State) : Host.Outcome State Fault Refusal :=
  short (mk4 0x4#4 n 0x3#4 0x4#4) s (.ok (s.wrNoSuffix n .unstated (lo32 (s.r n) <<< 4)))

/-- `SHLR4 Rn`, encoding `4n35` (rule R478). -/
def execShlr4Rn (n : BitVec 4) (s : State) : Host.Outcome State Fault Refusal :=
  short (mk4 0x4#4 n 0x3#4 0x5#4) s (.ok (s.wrNoSuffix n .unstated (lo32 (s.r n) >>> 4)))

/-- `SHLL32 Rn`, encoding `4n38` (rule R479). -/
def execShll32Rn (n : BitVec 4) (s : State) : Host.Outcome State Fault Refusal :=
  short (mk4 0x4#4 n 0x3#4 0x8#4) s (s.needRh (.ok (s.setR n (lo32 (s.r n) ++ 0#32))))

/-- `SHLR32 Rn`, encoding `4n39` (rule R480). -/
def execShlr32Rn (n : BitVec 4) (s : State) : Host.Outcome State Fault Refusal :=
  short (mk4 0x4#4 n 0x3#4 0x9#4) s (s.needRh (.ok (s.setR n (zx32 (hi32 (s.r n))))))

/-- `ROT32 Rn`, encoding `4n14` (rule R481). -/
def execRot32Rn (n : BitVec 4) (s : State) : Host.Outcome State Fault Refusal :=
  short (mk4 0x4#4 n 0x1#4 0x4#4) s (s.needRh (.ok (s.setR n (lo32 (s.r n) ++ hi32 (s.r n)))))

/-- `MOVHI R0,RHn`, encoding `4n45` (rule R482). -/
def execMovhiR0RHn (n : BitVec 4) (s : State) : Host.Outcome State Fault Refusal :=
  short (mk4 0x4#4 n 0x4#4 0x5#4) s (s.needRh (.ok (s.setHalf true n (s.half false 0))))

/-- `MOVHI RHm,R0`, encoding `4m55` (rule R483). -/
def execMovhiRHmR0 (m : BitVec 4) (s : State) : Host.Outcome State Fault Refusal :=
  short (mk4 0x4#4 m 0x5#4 0x5#4) s (s.needRh (.ok (s.setHalf false 0 (s.half true m))))

/-- `EXTU.L Rn`, encoding `4n44` (rule R484). -/
def execExtuLRn (n : BitVec 4) (s : State) : Host.Outcome State Fault Refusal :=
  short (mk4 0x4#4 n 0x4#4 0x4#4) s (s.needRh (.ok (s.setHalf true n 0)))

/-- `EXTS.L Rn`, encoding `4n54` (rule R485). -/
def execExtsLRn (n : BitVec 4) (s : State) : Host.Outcome State Fault Refusal :=
  short (mk4 0x4#4 n 0x5#4 0x4#4) s (s.needRh (.ok (s.setR n ((lo32 (s.r n)).signExtend 64))))

end Sys2Proof.Machine
end

