-- ==== Sys2Proof/Machine/Oprex.lean ====
section
/-! DEFINITION. Machine/Oprex.lean: the 32-bit OPREX forms (spec/47_xpfx2.md, section 1). -/
namespace Sys2Proof.Machine

/-- `X(n5, W)` and T written by an operation with a flag in and out (rules R880 to R884, R894). -/
def State.oprexTOp (s : State) (q nx : Bool) (n : Reg) (f : (w : Nat) → BitVec w → BitVec w → Bool → BitVec w × Bool)
    (a b : Quad) : State :=
  (s.setOpx q nx n (binTQ q f a b s.t).1).setT (binTQ q f a b s.t).2

/-- `MOV.L Rm,@(Rn,disp5)`, encoding `8C0[0NMB]-1nmd` (rule R863). -/
def execOMovLRmAtRnDisp5 (nx : Bool) (mx : Bool) (bx : Bool) (n : BitVec 4) (m : BitVec 4) (disp : BitVec 4) (s : State) :
    Host.Outcome State Fault Refusal :=
  wide (mk4 0x8#4 0xC#4 0x0#4 (bits4 false nx mx bx)) s
    (s.oprexMemCheck false nx mx (s.store (s.r n + zdisp (BitVec.ofBool bx ++ disp) 4) 4 (zx32 (s.half mx m))))

/-- `MOV.Q Rm,@(Rn,disp5)`, encoding `8C0[1NMB]-1nmd` (rule R901). -/
def execOMovQRmAtRnDisp5 (nx : Bool) (mx : Bool) (bx : Bool) (n : BitVec 4) (m : BitVec 4) (disp : BitVec 4) (s : State) :
    Host.Outcome State Fault Refusal :=
  wide (mk4 0x8#4 0xC#4 0x0#4 (bits4 true nx mx bx)) s
    (s.oprexMemCheck true nx mx (s.store (s.r n + zdisp (BitVec.ofBool bx ++ disp) 8) 8 (s.r m)))

/-- `MOV.B Rm,@Rn`, encoding `8C0[QNMB]-2nm0` (rule R864). -/
def execOMovBRmAtRn (q : Bool) (nx : Bool) (mx : Bool) (bx : Bool) (n : BitVec 4) (m : BitVec 4) (s : State) :
    Host.Outcome State Fault Refusal :=
  wide (mk4 0x8#4 0xC#4 0x0#4 (bits4 q nx mx bx)) s
    (s.oprexStoreCheck q nx mx bx (s.store (s.r n) 1 (zx32 (s.half mx m))))

/-- `MOV.W Rm,@Rn`, encoding `8C0[QNMB]-2nm1` (rule R865). -/
def execOMovWRmAtRn (q : Bool) (nx : Bool) (mx : Bool) (bx : Bool) (n : BitVec 4) (m : BitVec 4) (s : State) :
    Host.Outcome State Fault Refusal :=
  wide (mk4 0x8#4 0xC#4 0x0#4 (bits4 q nx mx bx)) s
    (s.oprexStoreCheck q nx mx bx (s.store (s.r n) 2 (zx32 (s.half mx m))))

/-- `MOV.L Rm,@Rn`, encoding `8C0[QNMB]-2nm2` (rule R866). -/
def execOMovLRmAtRn (q : Bool) (nx : Bool) (mx : Bool) (bx : Bool) (n : BitVec 4) (m : BitVec 4) (s : State) :
    Host.Outcome State Fault Refusal :=
  wide (mk4 0x8#4 0xC#4 0x0#4 (bits4 q nx mx bx)) s
    (s.oprexStoreCheck q nx mx bx (s.store (s.r n) 4 (zx32 (s.half mx m))))

/-- `MOV.B Rm,@-Rn`, encoding `8C0[QNMB]-2nm4` (rule R867). -/
def execOMovBRmAtDecRn (q : Bool) (nx : Bool) (mx : Bool) (bx : Bool) (n : BitVec 4) (m : BitVec 4) (s : State) :
    Host.Outcome State Fault Refusal :=
  wide (mk4 0x8#4 0xC#4 0x0#4 (bits4 q nx mx bx)) s
    (s.oprexStoreCheck q nx mx bx (s.storeDec n 1 (zx32 (s.half mx m))))

/-- `MOV.W Rm,@-Rn`, encoding `8C0[QNMB]-2nm5` (rule R868). -/
def execOMovWRmAtDecRn (q : Bool) (nx : Bool) (mx : Bool) (bx : Bool) (n : BitVec 4) (m : BitVec 4) (s : State) :
    Host.Outcome State Fault Refusal :=
  wide (mk4 0x8#4 0xC#4 0x0#4 (bits4 q nx mx bx)) s
    (s.oprexStoreCheck q nx mx bx (s.storeDec n 2 (zx32 (s.half mx m))))

/-- `MOV.L Rm,@-Rn`, encoding `8C0[QNMB]-2nm6` (rule R869). -/
def execOMovLRmAtDecRn (q : Bool) (nx : Bool) (mx : Bool) (bx : Bool) (n : BitVec 4) (m : BitVec 4) (s : State) :
    Host.Outcome State Fault Refusal :=
  wide (mk4 0x8#4 0xC#4 0x0#4 (bits4 q nx mx bx)) s
    (s.oprexStoreCheck q nx mx bx (s.storeDec n 4 (zx32 (s.half mx m))))

/-- `TST Rm,Rn`, encoding `8C0[QNMB]-2nm8` (rule R870). -/
def execOTstRmRn (q : Bool) (nx : Bool) (mx : Bool) (bx : Bool) (n : BitVec 4) (m : BitVec 4) (s : State) :
    Host.Outcome State Fault Refusal :=
  wide (mk4 0x8#4 0xC#4 0x0#4 (bits4 q nx mx bx)) s
    (s.oprexCheck q nx mx bx (.ok (s.setT (cmpQ q cmpTst (s.opx q nx n) (s.opx q mx m)))))

/-- `AND Rm,Rn`, encoding `8C0[QNMB]-2nm9` (rule R871). -/
def execOAndRmRn (q : Bool) (nx : Bool) (mx : Bool) (bx : Bool) (n : BitVec 4) (m : BitVec 4) (s : State) :
    Host.Outcome State Fault Refusal :=
  wide (mk4 0x8#4 0xC#4 0x0#4 (bits4 q nx mx bx)) s
    (s.oprexCheck q nx mx bx (.ok (s.setOpx q nx n (binQ q aluAnd (s.opx q nx n) (s.opx q mx m)))))

/-- `XOR Rm,Rn`, encoding `8C0[QNMB]-2nmA` (rule R872). -/
def execOXorRmRn (q : Bool) (nx : Bool) (mx : Bool) (bx : Bool) (n : BitVec 4) (m : BitVec 4) (s : State) :
    Host.Outcome State Fault Refusal :=
  wide (mk4 0x8#4 0xC#4 0x0#4 (bits4 q nx mx bx)) s
    (s.oprexCheck q nx mx bx (.ok (s.setOpx q nx n (binQ q aluXor (s.opx q nx n) (s.opx q mx m)))))

/-- `OR Rm,Rn`, encoding `8C0[QNMB]-2nmB` (rule R873). -/
def execOOrRmRn (q : Bool) (nx : Bool) (mx : Bool) (bx : Bool) (n : BitVec 4) (m : BitVec 4) (s : State) :
    Host.Outcome State Fault Refusal :=
  wide (mk4 0x8#4 0xC#4 0x0#4 (bits4 q nx mx bx)) s
    (s.oprexCheck q nx mx bx (.ok (s.setOpx q nx n (binQ q aluOr (s.opx q nx n) (s.opx q mx m)))))

/-- `CMPEQ Rm,Rn`, encoding `8C0[QNMB]-3nm0` (rule R874). -/
def execOCmpeqRmRn (q : Bool) (nx : Bool) (mx : Bool) (bx : Bool) (n : BitVec 4) (m : BitVec 4) (s : State) :
    Host.Outcome State Fault Refusal :=
  wide (mk4 0x8#4 0xC#4 0x0#4 (bits4 q nx mx bx)) s
    (s.oprexCheck q nx mx bx (.ok (s.setT (cmpQ q cmpEq (s.opx q nx n) (s.opx q mx m)))))

/-- `CMPHS Rm,Rn`, encoding `8C0[QNMB]-3nm2` (rule R875). -/
def execOCmphsRmRn (q : Bool) (nx : Bool) (mx : Bool) (bx : Bool) (n : BitVec 4) (m : BitVec 4) (s : State) :
    Host.Outcome State Fault Refusal :=
  wide (mk4 0x8#4 0xC#4 0x0#4 (bits4 q nx mx bx)) s
    (s.oprexCheck q nx mx bx (.ok (s.setT (cmpQ q cmpHs (s.opx q nx n) (s.opx q mx m)))))

/-- `CMPGE Rm,Rn`, encoding `8C0[QNMB]-3nm3` (rule R876). -/
def execOCmpgeRmRn (q : Bool) (nx : Bool) (mx : Bool) (bx : Bool) (n : BitVec 4) (m : BitVec 4) (s : State) :
    Host.Outcome State Fault Refusal :=
  wide (mk4 0x8#4 0xC#4 0x0#4 (bits4 q nx mx bx)) s
    (s.oprexCheck q nx mx bx (.ok (s.setT (cmpQ q cmpGe (s.opx q nx n) (s.opx q mx m)))))

/-- `CMPHI Rm,Rn`, encoding `8C0[QNMB]-3nm6` (rule R877). -/
def execOCmphiRmRn (q : Bool) (nx : Bool) (mx : Bool) (bx : Bool) (n : BitVec 4) (m : BitVec 4) (s : State) :
    Host.Outcome State Fault Refusal :=
  wide (mk4 0x8#4 0xC#4 0x0#4 (bits4 q nx mx bx)) s
    (s.oprexCheck q nx mx bx (.ok (s.setT (cmpQ q cmpHi (s.opx q nx n) (s.opx q mx m)))))

/-- `CMPGT Rm,Rn`, encoding `8C0[QNMB]-3nm7` (rule R878). -/
def execOCmpgtRmRn (q : Bool) (nx : Bool) (mx : Bool) (bx : Bool) (n : BitVec 4) (m : BitVec 4) (s : State) :
    Host.Outcome State Fault Refusal :=
  wide (mk4 0x8#4 0xC#4 0x0#4 (bits4 q nx mx bx)) s
    (s.oprexCheck q nx mx bx (.ok (s.setT (cmpQ q cmpGt (s.opx q nx n) (s.opx q mx m)))))

/-- `SUB Rm,Rn`, encoding `8C0[QNMB]-3nm8` (rule R879). -/
def execOSubRmRn (q : Bool) (nx : Bool) (mx : Bool) (bx : Bool) (n : BitVec 4) (m : BitVec 4) (s : State) :
    Host.Outcome State Fault Refusal :=
  wide (mk4 0x8#4 0xC#4 0x0#4 (bits4 q nx mx bx)) s
    (s.oprexCheck q nx mx bx (.ok (s.setOpx q nx n (binQ q aluSub (s.opx q nx n) (s.opx q mx m)))))

/-- `SUBC Rm,Rn`, encoding `8C0[QNMB]-3nmA` (rule R880). -/
def execOSubcRmRn (q : Bool) (nx : Bool) (mx : Bool) (bx : Bool) (n : BitVec 4) (m : BitVec 4) (s : State) :
    Host.Outcome State Fault Refusal :=
  wide (mk4 0x8#4 0xC#4 0x0#4 (bits4 q nx mx bx)) s
    (s.oprexCheck q nx mx bx (.ok (s.oprexTOp q nx n aluSubc (s.opx q nx n) (s.opx q mx m))))

/-- `SUBV Rm,Rn`, encoding `8C0[QNMB]-3nmB` (rule R881). -/
def execOSubvRmRn (q : Bool) (nx : Bool) (mx : Bool) (bx : Bool) (n : BitVec 4) (m : BitVec 4) (s : State) :
    Host.Outcome State Fault Refusal :=
  wide (mk4 0x8#4 0xC#4 0x0#4 (bits4 q nx mx bx)) s
    (s.oprexCheck q nx mx bx (.ok (s.oprexTOp q nx n aluSubv (s.opx q nx n) (s.opx q mx m))))

/-- `ADD Rm,Rn`, encoding `8C0[QNMB]-3nmC` (rule R882). -/
def execOAddRmRn (q : Bool) (nx : Bool) (mx : Bool) (bx : Bool) (n : BitVec 4) (m : BitVec 4) (s : State) :
    Host.Outcome State Fault Refusal :=
  wide (mk4 0x8#4 0xC#4 0x0#4 (bits4 q nx mx bx)) s
    (s.oprexCheck q nx mx bx (.ok (s.setOpx q nx n (binQ q aluAdd (s.opx q nx n) (s.opx q mx m)))))

/-- `ADDC Rm,Rn`, encoding `8C0[QNMB]-3nmE` (rule R883). -/
def execOAddcRmRn (q : Bool) (nx : Bool) (mx : Bool) (bx : Bool) (n : BitVec 4) (m : BitVec 4) (s : State) :
    Host.Outcome State Fault Refusal :=
  wide (mk4 0x8#4 0xC#4 0x0#4 (bits4 q nx mx bx)) s
    (s.oprexCheck q nx mx bx (.ok (s.oprexTOp q nx n aluAddc (s.opx q nx n) (s.opx q mx m))))

/-- `ADDV Rm,Rn`, encoding `8C0[QNMB]-3nmF` (rule R884). -/
def execOAddvRmRn (q : Bool) (nx : Bool) (mx : Bool) (bx : Bool) (n : BitVec 4) (m : BitVec 4) (s : State) :
    Host.Outcome State Fault Refusal :=
  wide (mk4 0x8#4 0xC#4 0x0#4 (bits4 q nx mx bx)) s
    (s.oprexCheck q nx mx bx (.ok (s.oprexTOp q nx n aluAddv (s.opx q nx n) (s.opx q mx m))))

/-- `MOV.L @(Rm,disp5),Rn`, encoding `8C0[0NMB]-5nmd` (rule R885). -/
def execOMovLAtRmDisp5Rn (nx : Bool) (mx : Bool) (bx : Bool) (n : BitVec 4) (m : BitVec 4) (disp : BitVec 4) (s : State) :
    Host.Outcome State Fault Refusal :=
  wide (mk4 0x8#4 0xC#4 0x0#4 (bits4 false nx mx bx)) s
    (s.oprexMemCheck false mx nx ((s.load (s.r m + zdisp (BitVec.ofBool bx ++ disp) 4) 4).map fun v => s.setHalf nx n (lo32 v)))

/-- `MOV.Q @(Rm,disp5),Rn`, encoding `8C0[1NMB]-5nmd` (rule R902). -/
def execOMovQAtRmDisp5Rn (nx : Bool) (mx : Bool) (bx : Bool) (n : BitVec 4) (m : BitVec 4) (disp : BitVec 4) (s : State) :
    Host.Outcome State Fault Refusal :=
  wide (mk4 0x8#4 0xC#4 0x0#4 (bits4 true nx mx bx)) s
    (s.oprexMemCheck true mx nx ((s.load (s.r m + zdisp (BitVec.ofBool bx ++ disp) 8) 8).map fun v => s.setR n v))

/-- `MOV.B @Rm,Rn`, encoding `8C0[QNMB]-6nm0` (rule R886). -/
def execOMovBAtRmRn (q : Bool) (nx : Bool) (mx : Bool) (bx : Bool) (n : BitVec 4) (m : BitVec 4) (s : State) :
    Host.Outcome State Fault Refusal :=
  wide (mk4 0x8#4 0xC#4 0x0#4 (bits4 q nx mx bx)) s
    (s.oprexLoadCheck q mx nx bx ((s.load (s.r m) 1).map fun v => s.oprexLoaded q nx n 8 v))

/-- `MOV.W @Rm,Rn`, encoding `8C0[QNMB]-6nm1` (rule R887). -/
def execOMovWAtRmRn (q : Bool) (nx : Bool) (mx : Bool) (bx : Bool) (n : BitVec 4) (m : BitVec 4) (s : State) :
    Host.Outcome State Fault Refusal :=
  wide (mk4 0x8#4 0xC#4 0x0#4 (bits4 q nx mx bx)) s
    (s.oprexLoadCheck q mx nx bx ((s.load (s.r m) 2).map fun v => s.oprexLoaded q nx n 16 v))

/-- `MOV.L @Rm,Rn`, encoding `8C0[QNMB]-6nm2` (rule R888). -/
def execOMovLAtRmRn (q : Bool) (nx : Bool) (mx : Bool) (bx : Bool) (n : BitVec 4) (m : BitVec 4) (s : State) :
    Host.Outcome State Fault Refusal :=
  wide (mk4 0x8#4 0xC#4 0x0#4 (bits4 q nx mx bx)) s
    (s.oprexLoadCheck q mx nx bx ((s.load (s.r m) 4).map fun v => s.oprexLoaded q nx n 32 v))

/-- `MOV Rm,Rn`, encoding `8C0[QNMB]-6nm3` (rule R889). -/
def execOMovRmRn (q : Bool) (nx : Bool) (mx : Bool) (bx : Bool) (n : BitVec 4) (m : BitVec 4) (s : State) :
    Host.Outcome State Fault Refusal :=
  wide (mk4 0x8#4 0xC#4 0x0#4 (bits4 q nx mx bx)) s
    (s.oprexCheck q nx mx bx (.ok (s.setOpx q nx n (binQ q aluMov (s.opx q nx n) (s.opx q mx m)))))

/-- `MOV.B @Rm+,Rn`, encoding `8C0[QNMB]-6nm4` (rule R890). -/
def execOMovBAtRmIncRn (q : Bool) (nx : Bool) (mx : Bool) (bx : Bool) (n : BitVec 4) (m : BitVec 4) (s : State) :
    Host.Outcome State Fault Refusal :=
  wide (mk4 0x8#4 0xC#4 0x0#4 (bits4 q nx mx bx)) s
    (s.oprexLoadCheck q mx nx bx ((s.load (s.r m) 1).map fun v => (s.wrA m (s.r m + 1)).oprexLoaded q nx n 8 v))

/-- `MOV.W @Rm+,Rn`, encoding `8C0[QNMB]-6nm5` (rule R891). -/
def execOMovWAtRmIncRn (q : Bool) (nx : Bool) (mx : Bool) (bx : Bool) (n : BitVec 4) (m : BitVec 4) (s : State) :
    Host.Outcome State Fault Refusal :=
  wide (mk4 0x8#4 0xC#4 0x0#4 (bits4 q nx mx bx)) s
    (s.oprexLoadCheck q mx nx bx ((s.load (s.r m) 2).map fun v => (s.wrA m (s.r m + 2)).oprexLoaded q nx n 16 v))

/-- `MOV.L @Rm+,Rn`, encoding `8C0[QNMB]-6nm6` (rule R892). -/
def execOMovLAtRmIncRn (q : Bool) (nx : Bool) (mx : Bool) (bx : Bool) (n : BitVec 4) (m : BitVec 4) (s : State) :
    Host.Outcome State Fault Refusal :=
  wide (mk4 0x8#4 0xC#4 0x0#4 (bits4 q nx mx bx)) s
    (s.oprexLoadCheck q mx nx bx ((s.load (s.r m) 4).map fun v => (s.wrA m (s.r m + 4)).oprexLoaded q nx n 32 v))

/-- `NOT Rm,Rn`, encoding `8C0[QNMB]-6nm7` (rule R893). -/
def execONotRmRn (q : Bool) (nx : Bool) (mx : Bool) (bx : Bool) (n : BitVec 4) (m : BitVec 4) (s : State) :
    Host.Outcome State Fault Refusal :=
  wide (mk4 0x8#4 0xC#4 0x0#4 (bits4 q nx mx bx)) s
    (s.oprexCheck q nx mx bx (.ok (s.setOpx q nx n (binQ q aluNot (s.opx q nx n) (s.opx q mx m)))))

/-- `NEGC Rm,Rn`, encoding `8C0[QNMB]-6nmA` (rule R894). -/
def execONegcRmRn (q : Bool) (nx : Bool) (mx : Bool) (bx : Bool) (n : BitVec 4) (m : BitVec 4) (s : State) :
    Host.Outcome State Fault Refusal :=
  wide (mk4 0x8#4 0xC#4 0x0#4 (bits4 q nx mx bx)) s
    (s.oprexCheck q nx mx bx (.ok (s.oprexTOp q nx n aluSubc 0 (s.opx q mx m))))

/-- `NEG Rm,Rn`, encoding `8C0[QNMB]-6nmB` (rule R895). -/
def execONegRmRn (q : Bool) (nx : Bool) (mx : Bool) (bx : Bool) (n : BitVec 4) (m : BitVec 4) (s : State) :
    Host.Outcome State Fault Refusal :=
  wide (mk4 0x8#4 0xC#4 0x0#4 (bits4 q nx mx bx)) s
    (s.oprexCheck q nx mx bx (.ok (s.setOpx q nx n (binQ q aluNeg (s.opx q nx n) (s.opx q mx m)))))

/-- `EXTU.B Rm,Rn`, encoding `8C0[QNMB]-6nmC` (rule R896). -/
def execOExtuBRmRn (q : Bool) (nx : Bool) (mx : Bool) (bx : Bool) (n : BitVec 4) (m : BitVec 4) (s : State) :
    Host.Outcome State Fault Refusal :=
  wide (mk4 0x8#4 0xC#4 0x0#4 (bits4 q nx mx bx)) s
    (s.oprexCheck q nx mx bx (.ok (s.setOpx q nx n (zxN 8 (s.opx q mx m)))))

/-- `EXTU.W Rm,Rn`, encoding `8C0[QNMB]-6nmD` (rule R897). -/
def execOExtuWRmRn (q : Bool) (nx : Bool) (mx : Bool) (bx : Bool) (n : BitVec 4) (m : BitVec 4) (s : State) :
    Host.Outcome State Fault Refusal :=
  wide (mk4 0x8#4 0xC#4 0x0#4 (bits4 q nx mx bx)) s
    (s.oprexCheck q nx mx bx (.ok (s.setOpx q nx n (zxN 16 (s.opx q mx m)))))

/-- `EXTS.B Rm,Rn`, encoding `8C0[QNMB]-6nmE` (rule R898). -/
def execOExtsBRmRn (q : Bool) (nx : Bool) (mx : Bool) (bx : Bool) (n : BitVec 4) (m : BitVec 4) (s : State) :
    Host.Outcome State Fault Refusal :=
  wide (mk4 0x8#4 0xC#4 0x0#4 (bits4 q nx mx bx)) s
    (s.oprexCheck q nx mx bx (.ok (s.setOpx q nx n (sxN 8 (s.opx q mx m)))))

/-- `EXTS.W Rm,Rn`, encoding `8C0[QNMB]-6nmF` (rule R899). -/
def execOExtsWRmRn (q : Bool) (nx : Bool) (mx : Bool) (bx : Bool) (n : BitVec 4) (m : BitVec 4) (s : State) :
    Host.Outcome State Fault Refusal :=
  wide (mk4 0x8#4 0xC#4 0x0#4 (bits4 q nx mx bx)) s
    (s.oprexCheck q nx mx bx (.ok (s.setOpx q nx n (sxN 16 (s.opx q mx m)))))

/-- `MOV #imm10,Rn`, encoding `8C0[QNMB]-Enii` (rule R900). -/
def execOMovImm10Rn (q : Bool) (nx : Bool) (mx : Bool) (bx : Bool) (n : BitVec 4) (imm : BitVec 8) (s : State) :
    Host.Outcome State Fault Refusal :=
  wide (mk4 0x8#4 0xC#4 0x0#4 (bits4 q nx mx bx)) s
    (s.oprexCheck q nx false false
      (.ok (s.setOpx q nx n ((BitVec.ofBool mx ++ BitVec.ofBool bx ++ imm).signExtend 64))))

end Sys2Proof.Machine
end

