-- ==== Sys2Proof/Machine/System.lean ====
section
/-! DEFINITION. Machine/System.lean: the 16-bit system instructions (spec/44_system.md). -/
namespace Sys2Proof.Machine

/-- The checks of the mode-bit operations (rule R566). -/
def State.modeOp (s s' : State) : Res State :=
  if s.is64 then (if s.cfg.modeOpsPrivileged then s.priv (.ok s') else .ok s') else illegal

/-- ICBI (rule R594): the addresses it covers leave STALE, and what is there now is what a fetch may still see of them
after the next store (rule R136, logs 11, 12). -/
def State.icbi (s : State) (a : Quad) : State :=
  { s with
    stale := s.stale.filter fun c => !icbiCovers s.freeCount (s.addr a) c
    history := .icbi s.freeCount (s.addr a) :: s.history
    freeCount := s.freeCount + 1 }

/-- CAS.L (rule R596): both checks, the read, the write where the values are equal, T, and the load write of the old
value. -/
def State.cas (s : State) (ea : Quad) (n m : Reg) : Res State :=
  s.bothChecked ea 4 <|
    match s.load ea 4 with
    | .error e => .error e
    | .ok old =>
      if lo32 old == lo32 (s.r m) then (s.store ea 4 (s.r n)).map fun s' => (s'.setT true).wrLoad n 32 .sign old
      else .ok ((s.setT false).wrLoad n 32 .sign old)

/-- `STC./Q SR,Rn`, encoding `0n02` (rule R542). -/
def execStcSrRn (n : BitVec 4) (s : State) : Host.Outcome State Fault Refusal :=
  short (mk4 0x0#4 n 0x0#4 0x2#4) s (s.sysToReg .sr n)

/-- `STC./Q GBR,Rn`, encoding `0n12` (rule R543). -/
def execStcGbrRn (n : BitVec 4) (s : State) : Host.Outcome State Fault Refusal :=
  short (mk4 0x0#4 n 0x1#4 0x2#4) s (s.sysToReg .gbr n)

/-- `STC./Q VBR,Rn`, encoding `0n22` (rule R544). -/
def execStcVbrRn (n : BitVec 4) (s : State) : Host.Outcome State Fault Refusal :=
  short (mk4 0x0#4 n 0x2#4 0x2#4) s (s.sysToReg .vbr n)

/-- `STC./Q SSR,Rn`, encoding `0n32` (rule R545). -/
def execStcSsrRn (n : BitVec 4) (s : State) : Host.Outcome State Fault Refusal :=
  short (mk4 0x0#4 n 0x3#4 0x2#4) s (s.sysToReg .ssr n)

/-- `STC./Q SPC,Rn`, encoding `0n42` (rule R546). -/
def execStcSpcRn (n : BitVec 4) (s : State) : Host.Outcome State Fault Refusal :=
  short (mk4 0x0#4 n 0x4#4 0x2#4) s (s.sysToReg .spc n)

/-- `STC./Q Rm_B,Rn`, encoding `0n[1bbb]2` (rule R547). -/
def execStcRmBRn (n : BitVec 4) (b : BitVec 3) (s : State) : Host.Outcome State Fault Refusal :=
  short (mk4 0x0#4 n (1#1 ++ b) 0x2#4) s (s.sysToReg (.bank b) n)

/-- `STC./Q SGR,Rn`, encoding `0n3A` (rule R548). -/
def execStcSgrRn (n : BitVec 4) (s : State) : Host.Outcome State Fault Refusal :=
  short (mk4 0x0#4 n 0x3#4 0xA#4) s (s.sysToReg .sgr n)

/-- `STC./Q DBR,Rn`, encoding `0nFA` (rule R549). -/
def execStcDbrRn (n : BitVec 4) (s : State) : Host.Outcome State Fault Refusal :=
  short (mk4 0x0#4 n 0xF#4 0xA#4) s (s.sysToReg .dbr n)

/-- `STS./Q MACH,Rn`, encoding `0n0A` (rule R550). -/
def execStsMachRn (n : BitVec 4) (s : State) : Host.Outcome State Fault Refusal :=
  short (mk4 0x0#4 n 0x0#4 0xA#4) s (s.sysToReg .mach n)

/-- `STS./Q MACL,Rn`, encoding `0n1A` (rule R551). -/
def execStsMaclRn (n : BitVec 4) (s : State) : Host.Outcome State Fault Refusal :=
  short (mk4 0x0#4 n 0x1#4 0xA#4) s (s.sysToReg .macl n)

/-- `STS./Q PR,Rn`, encoding `0n2A` (rule R552). -/
def execStsPrRn (n : BitVec 4) (s : State) : Host.Outcome State Fault Refusal :=
  short (mk4 0x0#4 n 0x2#4 0xA#4) s (s.sysToReg .pr n)

/-- `STS./Q FPUL,Rn`, encoding `0n5A` (rule R553). -/
def execStsFpulRn (n : BitVec 4) (s : State) : Host.Outcome State Fault Refusal :=
  short (mk4 0x0#4 n 0x5#4 0xA#4) s (s.sysToReg .fpul n)

/-- `STS./Q FPSCR,Rn`, encoding `0n6A` (rule R554). -/
def execStsFpscrRn (n : BitVec 4) (s : State) : Host.Outcome State Fault Refusal :=
  short (mk4 0x0#4 n 0x6#4 0xA#4) s (s.sysToReg .fpscr n)

/-- `LDC./Q Rm,SR`, encoding `4m0E` (rule R555). -/
def execLdcRmSr (m : BitVec 4) (s : State) : Host.Outcome State Fault Refusal :=
  short (mk4 0x4#4 m 0x0#4 0xE#4) s (s.regToSys .sr m)

/-- `LDC./Q Rm,GBR`, encoding `4m1E` (rule R556). -/
def execLdcRmGbr (m : BitVec 4) (s : State) : Host.Outcome State Fault Refusal :=
  short (mk4 0x4#4 m 0x1#4 0xE#4) s (s.regToSys .gbr m)

/-- `LDC./Q Rm,VBR`, encoding `4m2E` (rule R557). -/
def execLdcRmVbr (m : BitVec 4) (s : State) : Host.Outcome State Fault Refusal :=
  short (mk4 0x4#4 m 0x2#4 0xE#4) s (s.regToSys .vbr m)

/-- `LDC./Q Rm,SSR`, encoding `4m3E` (rule R558). -/
def execLdcRmSsr (m : BitVec 4) (s : State) : Host.Outcome State Fault Refusal :=
  short (mk4 0x4#4 m 0x3#4 0xE#4) s (s.regToSys .ssr m)

/-- `LDC./Q Rm,SPC`, encoding `4m4E` (rule R559). -/
def execLdcRmSpc (m : BitVec 4) (s : State) : Host.Outcome State Fault Refusal :=
  short (mk4 0x4#4 m 0x4#4 0xE#4) s (s.regToSys .spc m)

/-- `LDC./Q Rm,Rn_B`, encoding `4m[1bbb]E` (rule R560). -/
def execLdcRmRnB (m : BitVec 4) (b : BitVec 3) (s : State) : Host.Outcome State Fault Refusal :=
  short (mk4 0x4#4 m (1#1 ++ b) 0xE#4) s (s.regToSys (.bank b) m)

/-- `LDC./Q Rm,SGR`, encoding `4m3A` (rule R561). -/
def execLdcRmSgr (m : BitVec 4) (s : State) : Host.Outcome State Fault Refusal :=
  short (mk4 0x4#4 m 0x3#4 0xA#4) s (s.regToSys .sgr m)

/-- `LDC./Q Rm,DBR`, encoding `4mFA` (rule R562). -/
def execLdcRmDbr (m : BitVec 4) (s : State) : Host.Outcome State Fault Refusal :=
  short (mk4 0x4#4 m 0xF#4 0xA#4) s (s.regToSys .dbr m)

/-- `LDS./Q Rm,MACH`, encoding `4m0A` (rule R563). -/
def execLdsRmMach (m : BitVec 4) (s : State) : Host.Outcome State Fault Refusal :=
  short (mk4 0x4#4 m 0x0#4 0xA#4) s (s.regToSys .mach m)

/-- `LDS./Q Rm,MACL`, encoding `4m1A` (rule R564). -/
def execLdsRmMacl (m : BitVec 4) (s : State) : Host.Outcome State Fault Refusal :=
  short (mk4 0x4#4 m 0x1#4 0xA#4) s (s.regToSys .macl m)

/-- `LDS./Q Rm,PR`, encoding `4m2A` (rule R565). -/
def execLdsRmPr (m : BitVec 4) (s : State) : Host.Outcome State Fault Refusal :=
  short (mk4 0x4#4 m 0x2#4 0xA#4) s (s.regToSys .pr m)

/-- `ICLRMD.DQ`, encoding `0148` (rule R566). -/
def execIclrmdDQ (s : State) : Host.Outcome State Fault Refusal :=
  short (mk4 0x0#4 0x1#4 0x4#4 0x8#4) s (s.modeOp (s.setSrBit 12 false))

/-- `ICLRMD.JQ`, encoding `0248` (rule R567). -/
def execIclrmdJQ (s : State) : Host.Outcome State Fault Refusal :=
  short (mk4 0x0#4 0x2#4 0x4#4 0x8#4) s (s.modeOp (s.setSrBit 31 false))

/-- `ICLRMD.JDQ`, encoding `0348` (rule R568). -/
def execIclrmdJDQ (s : State) : Host.Outcome State Fault Refusal :=
  short (mk4 0x0#4 0x3#4 0x4#4 0x8#4) s (s.modeOp ((s.setSrBit 31 false).setSrBit 12 false))

/-- `ISETMD.DQ`, encoding `0158` (rule R569). -/
def execIsetmdDQ (s : State) : Host.Outcome State Fault Refusal :=
  short (mk4 0x0#4 0x1#4 0x5#4 0x8#4) s (s.modeOp (s.setSrBit 12 true))

/-- `ISETMD.JQ`, encoding `0258` (rule R570). -/
def execIsetmdJQ (s : State) : Host.Outcome State Fault Refusal :=
  short (mk4 0x0#4 0x2#4 0x5#4 0x8#4) s (s.modeOp (s.setSrBit 31 true))

/-- `ISETMD.JDQ`, encoding `0358` (rule R571). -/
def execIsetmdJDQ (s : State) : Host.Outcome State Fault Refusal :=
  short (mk4 0x0#4 0x3#4 0x5#4 0x8#4) s (s.modeOp ((s.setSrBit 31 true).setSrBit 12 true))

/-- `LDS./Q Rm,FPUL`, encoding `4m5A` (rule R572). -/
def execLdsRmFpul (m : BitVec 4) (s : State) : Host.Outcome State Fault Refusal :=
  short (mk4 0x4#4 m 0x5#4 0xA#4) s (s.regToSys .fpul m)

/-- `LDS./Q Rm,FPSCR`, encoding `4m6A` (rule R573). -/
def execLdsRmFpscr (m : BitVec 4) (s : State) : Host.Outcome State Fault Refusal :=
  short (mk4 0x4#4 m 0x6#4 0xA#4) s (s.regToSys .fpscr m)

/-- `CLRT`, encoding `0008` (rule R574). -/
def execClrt (s : State) : Host.Outcome State Fault Refusal :=
  short (mk4 0x0#4 0x0#4 0x0#4 0x8#4) s (.ok (s.setT false))

/-- `SETT`, encoding `0018` (rule R575). -/
def execSett (s : State) : Host.Outcome State Fault Refusal :=
  short (mk4 0x0#4 0x0#4 0x1#4 0x8#4) s (.ok (s.setT true))

/-- `CLRS`, encoding `0048` (rule R576). -/
def execClrs (s : State) : Host.Outcome State Fault Refusal :=
  short (mk4 0x0#4 0x0#4 0x4#4 0x8#4) s (.ok (s.setSrBit 1 false))

/-- `SETS`, encoding `0058` (rule R577). -/
def execSets (s : State) : Host.Outcome State Fault Refusal :=
  short (mk4 0x0#4 0x0#4 0x5#4 0x8#4) s (.ok (s.setSrBit 1 true))

/-- `NOTT`, encoding `0068` (rule R578). -/
def execNott (s : State) : Host.Outcome State Fault Refusal :=
  short (mk4 0x0#4 0x0#4 0x6#4 0x8#4) s (.ok (s.setT !s.t))

/-- `CLRMAC`, encoding `0028` (rule R579). -/
def execClrmac (s : State) : Host.Outcome State Fault Refusal :=
  short (mk4 0x0#4 0x0#4 0x2#4 0x8#4) s (.ok { s with mach := 0, macl := 0 })

/-- `NOP`, encoding `0i09` (rule R580). -/
def execNop (imm : BitVec 4) (s : State) : Host.Outcome State Fault Refusal :=
  short (mk4 0x0#4 imm 0x0#4 0x9#4) s (.ok s)

/-- `TRAPA #imm`, encoding `C3jj` (rule R581). -/
def execTrapaImm (imm : BitVec 8) (s : State) : Host.Outcome State Fault Refusal :=
  noSlot (mk4 0xC#4 0x3#4 (imm.extractLsb' 4 4) (imm.extractLsb' 0 4)) s (.error (.exc (.trapa imm)))

/-- `RTE`, encoding `002B` (rule R582). -/
def execRte (s : State) : Host.Outcome State Fault Refusal :=
  noSlot (mk4 0x0#4 0x0#4 0x2#4 0xB#4) s (s.priv (.ok s.returnFromTrap))

/-- `SLEEP`, encoding `001B` (rule R583). -/
def execSleep (s : State) : Host.Outcome State Fault Refusal :=
  shortNoSlot (mk4 0x0#4 0x0#4 0x1#4 0xB#4) s (s.priv (.ok { s with sleeping := true }))

/-- `BRK`, encoding `003B` (rule R584). -/
def execBrk (s : State) : Host.Outcome State Fault Refusal :=
  noSlot (mk4 0x0#4 0x0#4 0x3#4 0xB#4) s (.error (.exc .brk))

/-- `LDTLB`, encoding `0038` (rule R585). -/
def execLdtlb (s : State) : Host.Outcome State Fault Refusal :=
  short (mk4 0x0#4 0x0#4 0x3#4 0x8#4) s (s.priv (.ok s))

/-- `RESBANK`, encoding `005B` (rule R586). Reserved. -/
def execResbank (s : State) : Host.Outcome State Fault Refusal :=
  reserved (mk4 0x0#4 0x0#4 0x5#4 0xB#4) s

/-- `SYNCO`, encoding `00AB` (rule R590). Reserved. -/
def execSynco (s : State) : Host.Outcome State Fault Refusal :=
  reserved (mk4 0x0#4 0x0#4 0xA#4 0xB#4) s

/-- `PREF @Rn`, encoding `0n83` (rule R592). -/
def execPrefAtRn (n : BitVec 4) (s : State) : Host.Outcome State Fault Refusal :=
  short (mk4 0x0#4 n 0x8#4 0x3#4) s (.ok s)

/-- `MOVCA.L R0,@Rn`, encoding `0nC3` (rule R593). -/
def execMovcaLR0AtRn (n : BitVec 4) (s : State) : Host.Outcome State Fault Refusal :=
  short (mk4 0x0#4 n 0xC#4 0x3#4) s (s.store (s.r n) 4 (s.r 0))

/-- `ICBI @Rn`, encoding `0nE3` (rule R594). -/
def execIcbiAtRn (n : BitVec 4) (s : State) : Host.Outcome State Fault Refusal :=
  short (mk4 0x0#4 n 0xE#4 0x3#4) s (.ok (s.icbi (s.r n)))

/-- `CAS.L Rm,Rn,@R0`, encoding `2nm3` (rule R596). -/
def execCasLRmRnAtR0 (n : BitVec 4) (m : BitVec 4) (s : State) : Host.Outcome State Fault Refusal :=
  short (mk4 0x2#4 n m 0x3#4) s (s.cas (s.r 0) n m)

/-- `STS.L/Q MACH,@-Rn`, encoding `4n02` (rule R600). -/
def execStsLQMachAtDecRn (n : BitVec 4) (s : State) : Host.Outcome State Fault Refusal :=
  short (mk4 0x4#4 n 0x0#4 0x2#4) s (s.sysToMem .mach n)

/-- `STS.L/Q MACL,@-Rn`, encoding `4n12` (rule R601). -/
def execStsLQMaclAtDecRn (n : BitVec 4) (s : State) : Host.Outcome State Fault Refusal :=
  short (mk4 0x4#4 n 0x1#4 0x2#4) s (s.sysToMem .macl n)

/-- `STS.L/Q PR,@-Rn`, encoding `4n22` (rule R602). -/
def execStsLQPrAtDecRn (n : BitVec 4) (s : State) : Host.Outcome State Fault Refusal :=
  short (mk4 0x4#4 n 0x2#4 0x2#4) s (s.sysToMem .pr n)

/-- `STC.L/Q SGR,@-Rn`, encoding `4n32` (rule R603). -/
def execStcLQSgrAtDecRn (n : BitVec 4) (s : State) : Host.Outcome State Fault Refusal :=
  short (mk4 0x4#4 n 0x3#4 0x2#4) s (s.sysToMem .sgr n)

/-- `STS.L/Q FPUL,@-Rn`, encoding `4n52` (rule R604). -/
def execStsLQFpulAtDecRn (n : BitVec 4) (s : State) : Host.Outcome State Fault Refusal :=
  short (mk4 0x4#4 n 0x5#4 0x2#4) s (s.sysToMem .fpul n)

/-- `STS.L/Q FPSCR,@-Rn`, encoding `4n62` (rule R605). -/
def execStsLQFpscrAtDecRn (n : BitVec 4) (s : State) : Host.Outcome State Fault Refusal :=
  short (mk4 0x4#4 n 0x6#4 0x2#4) s (s.sysToMem .fpscr n)

/-- `STC.L/Q DBR,@-Rn`, encoding `4nF2` (rule R606). -/
def execStcLQDbrAtDecRn (n : BitVec 4) (s : State) : Host.Outcome State Fault Refusal :=
  short (mk4 0x4#4 n 0xF#4 0x2#4) s (s.sysToMem .dbr n)

/-- `STC.L/Q SR,@-Rn`, encoding `4n03` (rule R607). -/
def execStcLQSrAtDecRn (n : BitVec 4) (s : State) : Host.Outcome State Fault Refusal :=
  short (mk4 0x4#4 n 0x0#4 0x3#4) s (s.sysToMem .sr n)

/-- `STC.L/Q GBR,@-Rn`, encoding `4n13` (rule R608). -/
def execStcLQGbrAtDecRn (n : BitVec 4) (s : State) : Host.Outcome State Fault Refusal :=
  short (mk4 0x4#4 n 0x1#4 0x3#4) s (s.sysToMem .gbr n)

/-- `STC.L/Q VBR,@-Rn`, encoding `4n23` (rule R609). -/
def execStcLQVbrAtDecRn (n : BitVec 4) (s : State) : Host.Outcome State Fault Refusal :=
  short (mk4 0x4#4 n 0x2#4 0x3#4) s (s.sysToMem .vbr n)

/-- `STC.L/Q SSR,@-Rn`, encoding `4n33` (rule R610). -/
def execStcLQSsrAtDecRn (n : BitVec 4) (s : State) : Host.Outcome State Fault Refusal :=
  short (mk4 0x4#4 n 0x3#4 0x3#4) s (s.sysToMem .ssr n)

/-- `STC.L/Q SPC,@-Rn`, encoding `4n43` (rule R611). -/
def execStcLQSpcAtDecRn (n : BitVec 4) (s : State) : Host.Outcome State Fault Refusal :=
  short (mk4 0x4#4 n 0x4#4 0x3#4) s (s.sysToMem .spc n)

/-- `STC.L/Q Rm_B,@-Rn`, encoding `4n[1bbb]3` (rule R612). -/
def execStcLQRmBAtDecRn (n : BitVec 4) (b : BitVec 3) (s : State) : Host.Outcome State Fault Refusal :=
  short (mk4 0x4#4 n (1#1 ++ b) 0x3#4) s (s.sysToMem (.bank b) n)

/-- `LDS.L/Q @Rm+,MACH`, encoding `4m06` (rule R613). -/
def execLdsLQAtRmIncMach (m : BitVec 4) (s : State) : Host.Outcome State Fault Refusal :=
  short (mk4 0x4#4 m 0x0#4 0x6#4) s (s.memToSys .mach m)

/-- `LDS.L/Q @Rm+,MACL`, encoding `4m16` (rule R614). -/
def execLdsLQAtRmIncMacl (m : BitVec 4) (s : State) : Host.Outcome State Fault Refusal :=
  short (mk4 0x4#4 m 0x1#4 0x6#4) s (s.memToSys .macl m)

/-- `LDS.L/Q @Rm+,PR`, encoding `4m26` (rule R615). -/
def execLdsLQAtRmIncPr (m : BitVec 4) (s : State) : Host.Outcome State Fault Refusal :=
  short (mk4 0x4#4 m 0x2#4 0x6#4) s (s.memToSys .pr m)

/-- `LDC.L/Q @Rm+,SGR`, encoding `4m36` (rule R616). -/
def execLdcLQAtRmIncSgr (m : BitVec 4) (s : State) : Host.Outcome State Fault Refusal :=
  short (mk4 0x4#4 m 0x3#4 0x6#4) s (s.memToSys .sgr m)

/-- `LDS.L/Q @Rm+,FPUL`, encoding `4m56` (rule R617). -/
def execLdsLQAtRmIncFpul (m : BitVec 4) (s : State) : Host.Outcome State Fault Refusal :=
  short (mk4 0x4#4 m 0x5#4 0x6#4) s (s.memToSys .fpul m)

/-- `LDS.L/Q @Rm+,FPSCR`, encoding `4m66` (rule R618). -/
def execLdsLQAtRmIncFpscr (m : BitVec 4) (s : State) : Host.Outcome State Fault Refusal :=
  short (mk4 0x4#4 m 0x6#4 0x6#4) s (s.memToSys .fpscr m)

/-- `LDC.L/Q @Rm+,DBR`, encoding `4mF6` (rule R619). -/
def execLdcLQAtRmIncDbr (m : BitVec 4) (s : State) : Host.Outcome State Fault Refusal :=
  short (mk4 0x4#4 m 0xF#4 0x6#4) s (s.memToSys .dbr m)

/-- `LDC.L/Q @Rm+,SR`, encoding `4m07` (rule R620). -/
def execLdcLQAtRmIncSr (m : BitVec 4) (s : State) : Host.Outcome State Fault Refusal :=
  short (mk4 0x4#4 m 0x0#4 0x7#4) s (s.memToSys .sr m)

/-- `LDC.L/Q @Rm+,GBR`, encoding `4m17` (rule R621). -/
def execLdcLQAtRmIncGbr (m : BitVec 4) (s : State) : Host.Outcome State Fault Refusal :=
  short (mk4 0x4#4 m 0x1#4 0x7#4) s (s.memToSys .gbr m)

/-- `LDC.L/Q @Rm+,VBR`, encoding `4m27` (rule R622). -/
def execLdcLQAtRmIncVbr (m : BitVec 4) (s : State) : Host.Outcome State Fault Refusal :=
  short (mk4 0x4#4 m 0x2#4 0x7#4) s (s.memToSys .vbr m)

/-- `LDC.L/Q @Rm+,SSR`, encoding `4m37` (rule R623). -/
def execLdcLQAtRmIncSsr (m : BitVec 4) (s : State) : Host.Outcome State Fault Refusal :=
  short (mk4 0x4#4 m 0x3#4 0x7#4) s (s.memToSys .ssr m)

/-- `LDC.L/Q @Rm+,SPC`, encoding `4m47` (rule R624). -/
def execLdcLQAtRmIncSpc (m : BitVec 4) (s : State) : Host.Outcome State Fault Refusal :=
  short (mk4 0x4#4 m 0x4#4 0x7#4) s (s.memToSys .spc m)

/-- `LDC.L/Q @Rm+,Rn_B`, encoding `4m[1bbb]7` (rule R625). -/
def execLdcLQAtRmIncRnB (m : BitVec 4) (b : BitVec 3) (s : State) : Host.Outcome State Fault Refusal :=
  short (mk4 0x4#4 m (1#1 ++ b) 0x7#4) s (s.memToSys (.bank b) m)

end Sys2Proof.Machine
end

