-- ==== Sys2Proof/Machine/Tacb.lean ====
section
/-! DEFINITION. Machine/Tacb.lean: the 32-bit three-address forms (spec/47_xpfx2.md, section 2). -/
namespace Sys2Proof.Machine

/-- `ADD Rs,Rt,Rn`, encoding `8C3[0NST]-0nst` (rule R911). -/
def execTAddRsRtRn (nx : Bool) (sx : Bool) (tx : Bool) (n : BitVec 4) (rs : BitVec 4) (rt : BitVec 4) (s : State) :
    Host.Outcome State Fault Refusal :=
  wide (mk4 0x8#4 0xC#4 0x3#4 (bits4 false nx sx tx)) s
    (s.tacbCheck nx sx tx
      (.ok (s.setOpx false nx n (binQ false aluAdd (s.opx false sx rs) (s.opx false tx rt)))))

/-- `ADD Rs,Rt,Rn`, encoding `8C38-0nst` (rule R911). -/
def execTAddRsRtRnQuad (n : BitVec 4) (rs : BitVec 4) (rt : BitVec 4) (s : State) :
    Host.Outcome State Fault Refusal :=
  wide (mk4 0x8#4 0xC#4 0x3#4 0x8#4) s (s.needJq (.ok (s.setR n (binQ true aluAdd (s.r rs) (s.r rt)))))

/-- `ADD.L Rs,imm5,Rn`, encoding `8C3[101T]-0nst` (rule R912). -/
def execTAddLRsImm5Rn (tx : Bool) (n : BitVec 4) (rs : BitVec 4) (rt : BitVec 4) (s : State) :
    Host.Outcome State Fault Refusal :=
  wide (mk4 0x8#4 0xC#4 0x3#4 (bits4 true false true tx)) s
    (.ok (s.setHalf false n (lo32 (binQ false aluAdd (s.r rs) (s.tacbImm (imm5 tx rt))))))

/-- `ADD.Q Rs,imm6,Rn`, encoding `8C3[11ST]-0nst` (rule R913). -/
def execTAddQRsImm6Rn (sx : Bool) (tx : Bool) (n : BitVec 4) (rs : BitVec 4) (rt : BitVec 4) (s : State) :
    Host.Outcome State Fault Refusal :=
  wide (mk4 0x8#4 0xC#4 0x3#4 (bits4 true true sx tx)) s
    (s.needJq (.ok (s.setR n (binQ true aluAdd (s.r rs) (s.tacbImm (imm6 sx tx rt))))))

/-- `SUB Rs,Rt,Rn`, encoding `8C3[0NST]-1nst` (rule R914). -/
def execTSubRsRtRn (nx : Bool) (sx : Bool) (tx : Bool) (n : BitVec 4) (rs : BitVec 4) (rt : BitVec 4) (s : State) :
    Host.Outcome State Fault Refusal :=
  wide (mk4 0x8#4 0xC#4 0x3#4 (bits4 false nx sx tx)) s
    (s.tacbCheck nx sx tx
      (.ok (s.setOpx false nx n (binQ false aluSub (s.opx false sx rs) (s.opx false tx rt)))))

/-- `SUB Rs,Rt,Rn`, encoding `8C38-1nst` (rule R914). -/
def execTSubRsRtRnQuad (n : BitVec 4) (rs : BitVec 4) (rt : BitVec 4) (s : State) :
    Host.Outcome State Fault Refusal :=
  wide (mk4 0x8#4 0xC#4 0x3#4 0x8#4) s (s.needJq (.ok (s.setR n (binQ true aluSub (s.r rs) (s.r rt)))))

/-- `SUB.L Rs,imm5,Rn`, encoding `8C3[101T]-1nst` (rule R915). -/
def execTSubLRsImm5Rn (tx : Bool) (n : BitVec 4) (rs : BitVec 4) (rt : BitVec 4) (s : State) :
    Host.Outcome State Fault Refusal :=
  wide (mk4 0x8#4 0xC#4 0x3#4 (bits4 true false true tx)) s
    (.ok (s.setHalf false n (lo32 (binQ false aluSub (s.r rs) (s.tacbImm (imm5 tx rt))))))

/-- `SUB.Q Rs,imm6,Rn`, encoding `8C3[11ST]-1nst` (rule R916). -/
def execTSubQRsImm6Rn (sx : Bool) (tx : Bool) (n : BitVec 4) (rs : BitVec 4) (rt : BitVec 4) (s : State) :
    Host.Outcome State Fault Refusal :=
  wide (mk4 0x8#4 0xC#4 0x3#4 (bits4 true true sx tx)) s
    (s.needJq (.ok (s.setR n (binQ true aluSub (s.r rs) (s.tacbImm (imm6 sx tx rt))))))

/-- `MUL Rs,Rt,Rn`, encoding `8C3[0NST]-2nst` (rule R917). -/
def execTMulRsRtRn (nx : Bool) (sx : Bool) (tx : Bool) (n : BitVec 4) (rs : BitVec 4) (rt : BitVec 4) (s : State) :
    Host.Outcome State Fault Refusal :=
  wide (mk4 0x8#4 0xC#4 0x3#4 (bits4 false nx sx tx)) s
    (s.tacbCheck nx sx tx
      (.ok (s.setOpx false nx n (binQ false aluMul (s.opx false sx rs) (s.opx false tx rt)))))

/-- `MUL Rs,Rt,Rn`, encoding `8C38-2nst` (rule R917). -/
def execTMulRsRtRnQuad (n : BitVec 4) (rs : BitVec 4) (rt : BitVec 4) (s : State) :
    Host.Outcome State Fault Refusal :=
  wide (mk4 0x8#4 0xC#4 0x3#4 0x8#4) s (s.needJq (.ok (s.setR n (binQ true aluMul (s.r rs) (s.r rt)))))

/-- `AND Rs,Rt,Rn`, encoding `8C3[0NST]-3nst` (rule R918). -/
def execTAndRsRtRn (nx : Bool) (sx : Bool) (tx : Bool) (n : BitVec 4) (rs : BitVec 4) (rt : BitVec 4) (s : State) :
    Host.Outcome State Fault Refusal :=
  wide (mk4 0x8#4 0xC#4 0x3#4 (bits4 false nx sx tx)) s
    (s.tacbCheck nx sx tx
      (.ok (s.setOpx false nx n (binQ false aluAnd (s.opx false sx rs) (s.opx false tx rt)))))

/-- `AND Rs,Rt,Rn`, encoding `8C38-3nst` (rule R918). -/
def execTAndRsRtRnQuad (n : BitVec 4) (rs : BitVec 4) (rt : BitVec 4) (s : State) :
    Host.Outcome State Fault Refusal :=
  wide (mk4 0x8#4 0xC#4 0x3#4 0x8#4) s (s.needJq (.ok (s.setR n (binQ true aluAnd (s.r rs) (s.r rt)))))

/-- `OR Rs,Rt,Rn`, encoding `8C3[0NST]-4nst` (rule R919). -/
def execTOrRsRtRn (nx : Bool) (sx : Bool) (tx : Bool) (n : BitVec 4) (rs : BitVec 4) (rt : BitVec 4) (s : State) :
    Host.Outcome State Fault Refusal :=
  wide (mk4 0x8#4 0xC#4 0x3#4 (bits4 false nx sx tx)) s
    (s.tacbCheck nx sx tx
      (.ok (s.setOpx false nx n (binQ false aluOr (s.opx false sx rs) (s.opx false tx rt)))))

/-- `OR Rs,Rt,Rn`, encoding `8C38-4nst` (rule R919). -/
def execTOrRsRtRnQuad (n : BitVec 4) (rs : BitVec 4) (rt : BitVec 4) (s : State) : Host.Outcome State Fault Refusal :=
  wide (mk4 0x8#4 0xC#4 0x3#4 0x8#4) s (s.needJq (.ok (s.setR n (binQ true aluOr (s.r rs) (s.r rt)))))

/-- `XOR Rs,Rt,Rn`, encoding `8C3[0NST]-5nst` (rule R920). -/
def execTXorRsRtRn (nx : Bool) (sx : Bool) (tx : Bool) (n : BitVec 4) (rs : BitVec 4) (rt : BitVec 4) (s : State) :
    Host.Outcome State Fault Refusal :=
  wide (mk4 0x8#4 0xC#4 0x3#4 (bits4 false nx sx tx)) s
    (s.tacbCheck nx sx tx
      (.ok (s.setOpx false nx n (binQ false aluXor (s.opx false sx rs) (s.opx false tx rt)))))

/-- `XOR Rs,Rt,Rn`, encoding `8C38-5nst` (rule R920). -/
def execTXorRsRtRnQuad (n : BitVec 4) (rs : BitVec 4) (rt : BitVec 4) (s : State) :
    Host.Outcome State Fault Refusal :=
  wide (mk4 0x8#4 0xC#4 0x3#4 0x8#4) s (s.needJq (.ok (s.setR n (binQ true aluXor (s.r rs) (s.r rt)))))

/-- `SHLL Rs,Rt,Rn`, encoding `8C3[0NST]-6nst` (rule R921). -/
def execTShllRsRtRn (nx : Bool) (sx : Bool) (tx : Bool) (n : BitVec 4) (rs : BitVec 4) (rt : BitVec 4) (s : State) :
    Host.Outcome State Fault Refusal :=
  wide (mk4 0x8#4 0xC#4 0x3#4 (bits4 false nx sx tx)) s
    (s.tacbCheck nx sx tx
      (.ok (s.setOpx false nx n (binQ false aluShll (s.opx false sx rs) (s.opx false tx rt)))))

/-- `SHLL Rs,Rt,Rn`, encoding `8C38-6nst` (rule R921). -/
def execTShllRsRtRnQuad (n : BitVec 4) (rs : BitVec 4) (rt : BitVec 4) (s : State) :
    Host.Outcome State Fault Refusal :=
  wide (mk4 0x8#4 0xC#4 0x3#4 0x8#4) s (s.needJq (.ok (s.setR n (binQ true aluShll (s.r rs) (s.r rt)))))

/-- `SHLL.L Rs,imm5,Rn`, encoding `8C3[101T]-6nst` (rule R922). -/
def execTShllLRsImm5Rn (tx : Bool) (n : BitVec 4) (rs : BitVec 4) (rt : BitVec 4) (s : State) :
    Host.Outcome State Fault Refusal :=
  wide (mk4 0x8#4 0xC#4 0x3#4 (bits4 true false true tx)) s
    (.ok (s.setHalf false n (lo32 (unQ false (aluShlBy (imm5 tx rt).toNat) (s.r rs)))))

/-- `SHLL.Q Rs,imm6,Rn`, encoding `8C3[11ST]-6nst` (rule R923). -/
def execTShllQRsImm6Rn (sx : Bool) (tx : Bool) (n : BitVec 4) (rs : BitVec 4) (rt : BitVec 4) (s : State) :
    Host.Outcome State Fault Refusal :=
  wide (mk4 0x8#4 0xC#4 0x3#4 (bits4 true true sx tx)) s
    (s.needJq (.ok (s.setR n (unQ true (aluShlBy (imm6 sx tx rt).toNat) (s.r rs)))))

/-- `SHLR Rs,Rt,Rn`, encoding `8C3[0NST]-7nst` (rule R924). -/
def execTShlrRsRtRn (nx : Bool) (sx : Bool) (tx : Bool) (n : BitVec 4) (rs : BitVec 4) (rt : BitVec 4) (s : State) :
    Host.Outcome State Fault Refusal :=
  wide (mk4 0x8#4 0xC#4 0x3#4 (bits4 false nx sx tx)) s
    (s.tacbCheck nx sx tx (.ok (s.tacbShift false nx sx tx n rs rt aluShlr)))

/-- `SHLR Rs,Rt,Rn`, encoding `8C38-7nst` (rule R924). -/
def execTShlrRsRtRnQuad (n : BitVec 4) (rs : BitVec 4) (rt : BitVec 4) (s : State) :
    Host.Outcome State Fault Refusal :=
  wide (mk4 0x8#4 0xC#4 0x3#4 0x8#4) s (s.needJq (.ok (s.tacbShift true false false false n rs rt aluShlr)))

/-- `SHLR.L Rs,imm5,Rn`, encoding `8C3[101T]-7nst` (rule R925). -/
def execTShlrLRsImm5Rn (tx : Bool) (n : BitVec 4) (rs : BitVec 4) (rt : BitVec 4) (s : State) :
    Host.Outcome State Fault Refusal :=
  wide (mk4 0x8#4 0xC#4 0x3#4 (bits4 true false true tx)) s
    (.ok (s.setHalf false n (lo32 (unQ false (aluShrBy (imm5 tx rt).toNat) (s.r rs)))))

/-- `SHLR.Q Rs,imm6,Rn`, encoding `8C3[11ST]-7nst` (rule R926). -/
def execTShlrQRsImm6Rn (sx : Bool) (tx : Bool) (n : BitVec 4) (rs : BitVec 4) (rt : BitVec 4) (s : State) :
    Host.Outcome State Fault Refusal :=
  wide (mk4 0x8#4 0xC#4 0x3#4 (bits4 true true sx tx)) s
    (s.needJq (.ok (s.setR n (unQ true (aluShrBy (imm6 sx tx rt).toNat) (s.r rs)))))

/-- `SHAR Rs,Rt,Rn`, encoding `8C3[0NST]-8nst` (rule R927). -/
def execTSharRsRtRn (nx : Bool) (sx : Bool) (tx : Bool) (n : BitVec 4) (rs : BitVec 4) (rt : BitVec 4) (s : State) :
    Host.Outcome State Fault Refusal :=
  wide (mk4 0x8#4 0xC#4 0x3#4 (bits4 false nx sx tx)) s
    (s.tacbCheck nx sx tx (.ok (s.tacbShift false nx sx tx n rs rt aluShar)))

/-- `SHAR Rs,Rt,Rn`, encoding `8C38-8nst` (rule R927). -/
def execTSharRsRtRnQuad (n : BitVec 4) (rs : BitVec 4) (rt : BitVec 4) (s : State) :
    Host.Outcome State Fault Refusal :=
  wide (mk4 0x8#4 0xC#4 0x3#4 0x8#4) s (s.needJq (.ok (s.tacbShift true false false false n rs rt aluShar)))

/-- `SHAR.L Rs,imm5,Rn`, encoding `8C3[101T]-8nst` (rule R928). -/
def execTSharLRsImm5Rn (tx : Bool) (n : BitVec 4) (rs : BitVec 4) (rt : BitVec 4) (s : State) :
    Host.Outcome State Fault Refusal :=
  wide (mk4 0x8#4 0xC#4 0x3#4 (bits4 true false true tx)) s
    (.ok (s.setHalf false n (lo32 (unQ false (aluSarBy (imm5 tx rt).toNat) (s.r rs)))))

/-- `SHAR.Q Rs,imm6,Rn`, encoding `8C3[11ST]-8nst` (rule R929). -/
def execTSharQRsImm6Rn (sx : Bool) (tx : Bool) (n : BitVec 4) (rs : BitVec 4) (rt : BitVec 4) (s : State) :
    Host.Outcome State Fault Refusal :=
  wide (mk4 0x8#4 0xC#4 0x3#4 (bits4 true true sx tx)) s
    (s.needJq (.ok (s.setR n (unQ true (aluSarBy (imm6 sx tx rt).toNat) (s.r rs)))))

/-- `FADD FRs,FRt,FRn`, encoding `8C3[QNST]-Cnst` (rule R930). -/
def execTFaddFRsFRtFRn (q : Bool) (nx : Bool) (sx : Bool) (tx : Bool) (n : BitVec 4) (rs : BitVec 4) (rt : BitVec 4) (s : State) :
    Host.Outcome State Fault Refusal :=
  wide (mk4 0x8#4 0xC#4 0x3#4 (bits4 q nx sx tx)) s (s.fpArith3 .add q nx sx tx n rs rt)

/-- `FSUB FRs,FRt,FRn`, encoding `8C3[QNST]-Dnst` (rule R931). -/
def execTFsubFRsFRtFRn (q : Bool) (nx : Bool) (sx : Bool) (tx : Bool) (n : BitVec 4) (rs : BitVec 4) (rt : BitVec 4) (s : State) :
    Host.Outcome State Fault Refusal :=
  wide (mk4 0x8#4 0xC#4 0x3#4 (bits4 q nx sx tx)) s (s.fpArith3 .sub q nx sx tx n rs rt)

/-- `FMUL FRs,FRt,FRn`, encoding `8C3[QNST]-Enst` (rule R932). -/
def execTFmulFRsFRtFRn (q : Bool) (nx : Bool) (sx : Bool) (tx : Bool) (n : BitVec 4) (rs : BitVec 4) (rt : BitVec 4) (s : State) :
    Host.Outcome State Fault Refusal :=
  wide (mk4 0x8#4 0xC#4 0x3#4 (bits4 q nx sx tx)) s (s.fpArith3 .mul q nx sx tx n rs rt)

/-- `FDIV FRs,FRt,FRn`, encoding `8C3[QNST]-Fnst` (rule R933). -/
def execTFdivFRsFRtFRn (q : Bool) (nx : Bool) (sx : Bool) (tx : Bool) (n : BitVec 4) (rs : BitVec 4) (rt : BitVec 4) (s : State) :
    Host.Outcome State Fault Refusal :=
  wide (mk4 0x8#4 0xC#4 0x3#4 (bits4 q nx sx tx)) s (s.fpArith3 .div q nx sx tx n rs rt)

end Sys2Proof.Machine
end

