-- ==== Sys2Proof/Machine/WideReserved.lean ====
section
/-! DEFINITION. Machine/WideReserved.lean: MOVI24, the gated 32-bit and 64-bit forms and the reserved prefixes (spec/48_wide_reserved.md and spec/47_xpfx2.md, section 3). -/
namespace Sys2Proof.Machine

/-- `MOVI24 #imm24,R0`, encoding `8Aii-iiii` (rule R940). -/
def execMovi24Imm24R0 (imm : BitVec 24) (s : State) : Host.Outcome State Fault Refusal :=
  wide (mk4 0x8#4 0xA#4 (imm.extractLsb' 20 4) (imm.extractLsb' 16 4)) s
    (.ok (s.wrNoSuffix 0 .sign (imm.signExtend 32)))

/-- `MOVI20 #imm,Rn`, encoding `0ni0-iiii` (rule R941). -/
def execMovi20ImmRn (n : BitVec 4) (imm : BitVec 20) (s : State) : Host.Outcome State Fault Refusal :=
  wide (mk4 0x0#4 n (imm.extractLsb' 16 4) 0x0#4) s
    (require s.cfg.hasMisc32 (.ok (s.wrNoSuffix n .sign (imm.signExtend 32))))

/-- `MOVI20S #imm,Rn`, encoding `0ni1-iiii` (rule R942). -/
def execMovi20sImmRn (n : BitVec 4) (imm : BitVec 20) (s : State) : Host.Outcome State Fault Refusal :=
  wide (mk4 0x0#4 n (imm.extractLsb' 16 4) 0x1#4) s
    (require s.cfg.hasMisc32 (.ok (s.wrNoSuffix n .sign (imm.signExtend 32 <<< 8))))

/-- `MOV.B Rm,@(Rn,disp)`, encoding `3nm1-0ddd` (rule R943). -/
def execWMovBRmAtRnDisp (n : BitVec 4) (m : BitVec 4) (disp : BitVec 12) (s : State) :
    Host.Outcome State Fault Refusal :=
  wide (mk4 0x3#4 n m 0x1#4) s (require s.cfg.hasMisc32 (s.store (s.r n + zdisp disp 1) 1 (s.r m)))

/-- `MOV.W Rm,@(Rn,disp)`, encoding `3nm1-1ddd` (rule R944). -/
def execWMovWRmAtRnDisp (n : BitVec 4) (m : BitVec 4) (disp : BitVec 12) (s : State) :
    Host.Outcome State Fault Refusal :=
  wide (mk4 0x3#4 n m 0x1#4) s (require s.cfg.hasMisc32 (s.store (s.r n + zdisp disp 2) 2 (s.r m)))

/-- `MOV.L Rm,@(Rn,disp)`, encoding `3nm1-2ddd` (rule R945). -/
def execWMovLRmAtRnDisp (n : BitVec 4) (m : BitVec 4) (disp : BitVec 12) (s : State) :
    Host.Outcome State Fault Refusal :=
  wide (mk4 0x3#4 n m 0x1#4) s (require s.cfg.hasMisc32 (s.store (s.r n + zdisp disp 4) 4 (s.r m)))

/-- `FMOV.S FRm,@(Rn,disp)`, encoding `3nm1-3ddd` (rule R946). -/
def execWFmovSFRmAtRnDisp (n : BitVec 4) (m : BitVec 4) (disp : BitVec 12) (s : State) :
    Host.Outcome State Fault Refusal :=
  wide (mk4 0x3#4 n m 0x1#4) s (require s.cfg.hasMisc32 (s.fpu (s.fpStore .single false m (s.r n + zdisp disp 4))))

/-- `MOV.B @(Rm,disp),Rn`, encoding `3nm1-4ddd` (rule R947). -/
def execWMovBAtRmDispRn (n : BitVec 4) (m : BitVec 4) (disp : BitVec 12) (s : State) :
    Host.Outcome State Fault Refusal :=
  wide (mk4 0x3#4 n m 0x1#4) s (require s.cfg.hasMisc32 (s.loadReg n 1 .sign (s.r m + zdisp disp 1)))

/-- `MOV.W @(Rm,disp),Rn`, encoding `3nm1-5ddd` (rule R948). -/
def execWMovWAtRmDispRn (n : BitVec 4) (m : BitVec 4) (disp : BitVec 12) (s : State) :
    Host.Outcome State Fault Refusal :=
  wide (mk4 0x3#4 n m 0x1#4) s (require s.cfg.hasMisc32 (s.loadReg n 2 .sign (s.r m + zdisp disp 2)))

/-- `MOV.L @(Rm,disp),Rn`, encoding `3nm1-6ddd` (rule R949). -/
def execWMovLAtRmDispRn (n : BitVec 4) (m : BitVec 4) (disp : BitVec 12) (s : State) :
    Host.Outcome State Fault Refusal :=
  wide (mk4 0x3#4 n m 0x1#4) s (require s.cfg.hasMisc32 (s.loadReg n 4 .sign (s.r m + zdisp disp 4)))

/-- `FMOV.S @(Rm,disp),FRn`, encoding `3nm1-7ddd` (rule R950). -/
def execWFmovSAtRmDispFRn (n : BitVec 4) (m : BitVec 4) (disp : BitVec 12) (s : State) :
    Host.Outcome State Fault Refusal :=
  wide (mk4 0x3#4 n m 0x1#4) s (require s.cfg.hasMisc32 (s.fpu (s.fpLoad .single false n (s.r m + zdisp disp 4))))

/-- `MOVU.B @(Rm,disp),Rn`, encoding `3nm1-8ddd` (rule R951). -/
def execWMovuBAtRmDispRn (n : BitVec 4) (m : BitVec 4) (disp : BitVec 12) (s : State) :
    Host.Outcome State Fault Refusal :=
  wide (mk4 0x3#4 n m 0x1#4) s (require s.cfg.hasMisc32 (s.loadReg n 1 .zero (s.r m + zdisp disp 1)))

/-- `MOVU.W @(Rm,disp),Rn`, encoding `3nm1-9ddd` (rule R952). -/
def execWMovuWAtRmDispRn (n : BitVec 4) (m : BitVec 4) (disp : BitVec 12) (s : State) :
    Host.Outcome State Fault Refusal :=
  wide (mk4 0x3#4 n m 0x1#4) s (require s.cfg.hasMisc32 (s.loadReg n 2 .zero (s.r m + zdisp disp 2)))

/-- `ADD.Q #imm48,Rn`, encoding `CE7n-iiii-iiii-iiii` (rule R961). -/
def execZAddQImm48Rn (n : BitVec 4) (imm : BitVec 48) (s : State) : Host.Outcome State Fault Refusal :=
  veryWide (mk4 0xC#4 0xE#4 0x7#4 n) s
    (require s.cfg.hasXpfz0 (s.needJq (.ok (s.setR n (s.r n + imm.signExtend 64)))))

/-- `BRA disp48`, encoding `CEA0-dddd-dddd-dddd` (rule R963). -/
def execZBraDisp48 (disp : BitVec 48) (s : State) : Host.Outcome State Fault Refusal :=
  noSlot (mk4 0xC#4 0xE#4 0xA#4 0x0#4) s
    (require s.cfg.hasXpfz0 (s.needJq (.ok (s.jump (s.pcn + 10 + sdisp disp 2)))))

/-- `BSR disp48`, encoding `CEB0-dddd-dddd-dddd` (rule R964). -/
def execZBsrDisp48 (disp : BitVec 48) (s : State) : Host.Outcome State Fault Refusal :=
  noSlot (mk4 0xC#4 0xE#4 0xB#4 0x0#4) s
    (require s.cfg.hasXpfz0 (s.needJq (.ok ((s.link (s.pcn + 8)).jump (s.pcn + 10 + sdisp disp 2)))))

/-- `MOV.Q #imm48,Rn`, encoding `CEEn-iiii-iiii-iiii` (rule R965). -/
def execZMovQImm48Rn (n : BitVec 4) (imm : BitVec 48) (s : State) : Host.Outcome State Fault Refusal :=
  veryWide (mk4 0xC#4 0xE#4 0xE#4 n) s (require s.cfg.hasXpfz0 (s.needJq (.ok (s.setR n (imm.signExtend 64)))))

/-- `(reserved) XPFX1`, encoding `82xx-xxxx` (rule R954). Reserved. -/
def execResXpfx1 (p : BitVec 8) (s : State) : Host.Outcome State Fault Refusal :=
  reserved (mk4 0x8#4 0x2#4 (p.extractLsb' 4 4) (p.extractLsb' 0 4)) s

/-- `(reserved) XPFX3`, encoding `83xx-xxxx` (rule R955). Reserved. -/
def execResXpfx3 (p : BitVec 8) (s : State) : Host.Outcome State Fault Refusal :=
  reserved (mk4 0x8#4 0x3#4 (p.extractLsb' 4 4) (p.extractLsb' 0 4)) s

/-- `(reserved) XPFX4`, encoding `86xx-xxxx` (rule R956). Reserved. -/
def execResXpfx4 (p : BitVec 8) (s : State) : Host.Outcome State Fault Refusal :=
  reserved (mk4 0x8#4 0x6#4 (p.extractLsb' 4 4) (p.extractLsb' 0 4)) s

/-- `(reserved) XPFX5`, encoding `87xx-xxxx` (rule R956). Reserved. -/
def execResXpfx5 (p : BitVec 8) (s : State) : Host.Outcome State Fault Refusal :=
  reserved (mk4 0x8#4 0x7#4 (p.extractLsb' 4 4) (p.extractLsb' 0 4)) s

/-- `(reserved) XPFY0`, encoding `CCxx-xxxx` (rule R957). Reserved. -/
def execResXpfy0 (p : BitVec 8) (s : State) : Host.Outcome State Fault Refusal :=
  reserved (mk4 0xC#4 0xC#4 (p.extractLsb' 4 4) (p.extractLsb' 0 4)) s

/-- `(reserved) XPFY1`, encoding `CDxx-xxxx` (rule R957). Reserved. -/
def execResXpfy1 (p : BitVec 8) (s : State) : Host.Outcome State Fault Refusal :=
  reserved (mk4 0xC#4 0xD#4 (p.extractLsb' 4 4) (p.extractLsb' 0 4)) s

/-- `(reserved) XPFZ1`, encoding `CFxx-xxxx-xxxx-xxxx` (rule R958). Reserved. -/
def execResXpfz1 (p : BitVec 8) (s : State) : Host.Outcome State Fault Refusal :=
  reserved (mk4 0xC#4 0xF#4 (p.extractLsb' 4 4) (p.extractLsb' 0 4)) s

/-- `(reserved) XPFV0`, encoding `FxxF-xxxx` (rule R959). Reserved. -/
def execResXpfv0 (p : BitVec 8) (s : State) : Host.Outcome State Fault Refusal :=
  reserved (mk4 0xF#4 (p.extractLsb' 4 4) (p.extractLsb' 0 4) 0xF#4) s

/-- `(reserved) 3ni9-Xddd`, encoding `3xx9-xxxx` (rule R953). Reserved. -/
def execRes3xx9 (p : BitVec 8) (s : State) : Host.Outcome State Fault Refusal :=
  reserved (mk4 0x3#4 (p.extractLsb' 4 4) (p.extractLsb' 0 4) 0x9#4) s

/-- `(reserved) 8C1x`, encoding `8C1x-xxxx` (rule R938). Reserved. -/
def execRes8C1x (p : BitVec 4) (s : State) : Host.Outcome State Fault Refusal :=
  reserved (mk4 0x8#4 0xC#4 0x1#4 p) s

/-- `(reserved) 8C2x`, encoding `8C2x-xxxx` (rule R938). Reserved. -/
def execRes8C2x (p : BitVec 4) (s : State) : Host.Outcome State Fault Refusal :=
  reserved (mk4 0x8#4 0xC#4 0x2#4 p) s

/-- `(reserved) 8C4x`, encoding `8C4x-xxxx` (rule R938). Reserved. -/
def execRes8C4x (p : BitVec 4) (s : State) : Host.Outcome State Fault Refusal :=
  reserved (mk4 0x8#4 0xC#4 0x4#4 p) s

/-- `(reserved) 8C5x`, encoding `8C5x-xxxx` (rule R938). Reserved. -/
def execRes8C5x (p : BitVec 4) (s : State) : Host.Outcome State Fault Refusal :=
  reserved (mk4 0x8#4 0xC#4 0x5#4 p) s

/-- `(reserved) 8C6x`, encoding `8C6x-xxxx` (rule R938). Reserved. -/
def execRes8C6x (p : BitVec 4) (s : State) : Host.Outcome State Fault Refusal :=
  reserved (mk4 0x8#4 0xC#4 0x6#4 p) s

/-- `(reserved) 8C7x`, encoding `8C7x-xxxx` (rule R938). Reserved. -/
def execRes8C7x (p : BitVec 4) (s : State) : Host.Outcome State Fault Refusal :=
  reserved (mk4 0x8#4 0xC#4 0x7#4 p) s

/-- `(reserved) 8C8x..8CFx`, encoding `8C[1xxx]x-xxxx-xxxx-xxxx` (rule R939). Reserved. -/
def execRes8C8x (p : BitVec 7) (s : State) : Host.Outcome State Fault Refusal :=
  reserved (mk4 0x8#4 0xC#4 (1#1 ++ p.extractLsb' 4 3) (p.extractLsb' 0 4)) s

/-- `(reserved) 8C3e-9nst`, encoding `8C3x-9xxx` (rule R934). Reserved. -/
def execResTacb9 (p : BitVec 4) (r : BitVec 12) (s : State) : Host.Outcome State Fault Refusal :=
  reserved (mk4 0x8#4 0xC#4 0x3#4 p) s

/-- `(reserved) 8C3e-Anst`, encoding `8C3x-Axxx` (rule R934). Reserved. -/
def execResTacbA (p : BitVec 4) (r : BitVec 12) (s : State) : Host.Outcome State Fault Refusal :=
  reserved (mk4 0x8#4 0xC#4 0x3#4 p) s

/-- `(reserved) 8C3e-Bnst`, encoding `8C3x-Bxxx` (rule R934). Reserved. -/
def execResTacbB (p : BitVec 4) (r : BitVec 12) (s : State) : Host.Outcome State Fault Refusal :=
  reserved (mk4 0x8#4 0xC#4 0x3#4 p) s

end Sys2Proof.Machine
end

