-- ==== Sys2Proof/Machine/Xpfx0.lean ====
section
/-! DEFINITION. Machine/Xpfx0.lean: the 32-bit XPFX0 forms (spec/46_xpfx0.md). -/
namespace Sys2Proof.Machine

/-- `MOV.B Rm,@(Rn,Ro,disp4)`, encoding `8Eod-0nm4` (rule R725). -/
def execXMovBRmAtRnRoDisp4 (o : BitVec 4) (disp : BitVec 4) (n : BitVec 4) (m : BitVec 4) (s : State) :
    Host.Outcome State Fault Refusal :=
  wide (mk4 0x8#4 0xE#4 o disp) s (s.store (s.ea3 (s.r n) o (disp.setWidth 64) 1) 1 (s.r m))

/-- `MOV.W Rm,@(Rn,Ro,disp4)`, encoding `8Eod-0nm5` (rule R726). -/
def execXMovWRmAtRnRoDisp4 (o : BitVec 4) (disp : BitVec 4) (n : BitVec 4) (m : BitVec 4) (s : State) :
    Host.Outcome State Fault Refusal :=
  wide (mk4 0x8#4 0xE#4 o disp) s (s.store (s.ea3 (s.r n) o (disp.setWidth 64) 2) 2 (s.r m))

/-- `MOV.L Rm,@(Rn,Ro,disp4)`, encoding `8Eod-0nm6` (rule R727). -/
def execXMovLRmAtRnRoDisp4 (o : BitVec 4) (disp : BitVec 4) (n : BitVec 4) (m : BitVec 4) (s : State) :
    Host.Outcome State Fault Refusal :=
  wide (mk4 0x8#4 0xE#4 o disp) s (s.store (s.ea3 (s.r n) o (disp.setWidth 64) 4) 4 (s.r m))

/-- `MOV.Q Rm,@(Rn,Ro,disp4)`, encoding `8Eod-0nm7` (rule R728). -/
def execXMovQRmAtRnRoDisp4 (o : BitVec 4) (disp : BitVec 4) (n : BitVec 4) (m : BitVec 4) (s : State) :
    Host.Outcome State Fault Refusal :=
  wide (mk4 0x8#4 0xE#4 o disp) s (s.needJq (s.store (s.ea3 (s.r n) o (disp.setWidth 64) 8) 8 (s.r m)))

/-- `MOV.B @(Rm,Ro,disp4),Rn`, encoding `8Eod-0nmC` (rule R729). -/
def execXMovBAtRmRoDisp4Rn (o : BitVec 4) (disp : BitVec 4) (n : BitVec 4) (m : BitVec 4) (s : State) :
    Host.Outcome State Fault Refusal :=
  wide (mk4 0x8#4 0xE#4 o disp) s (s.loadReg n 1 .sign (s.ea3 (s.r m) o (disp.setWidth 64) 1))

/-- `MOV.W @(Rm,Ro,disp4),Rn`, encoding `8Eod-0nmD` (rule R730). -/
def execXMovWAtRmRoDisp4Rn (o : BitVec 4) (disp : BitVec 4) (n : BitVec 4) (m : BitVec 4) (s : State) :
    Host.Outcome State Fault Refusal :=
  wide (mk4 0x8#4 0xE#4 o disp) s (s.loadReg n 2 .sign (s.ea3 (s.r m) o (disp.setWidth 64) 2))

/-- `MOV.L @(Rm,Ro,disp4),Rn`, encoding `8Eod-0nmE` (rule R731). -/
def execXMovLAtRmRoDisp4Rn (o : BitVec 4) (disp : BitVec 4) (n : BitVec 4) (m : BitVec 4) (s : State) :
    Host.Outcome State Fault Refusal :=
  wide (mk4 0x8#4 0xE#4 o disp) s (s.loadReg n 4 .sign (s.ea3 (s.r m) o (disp.setWidth 64) 4))

/-- `MOV.Q @(Rm,Ro,disp4),Rn`, encoding `8Eod-0nmF` (rule R732). -/
def execXMovQAtRmRoDisp4Rn (o : BitVec 4) (disp : BitVec 4) (n : BitVec 4) (m : BitVec 4) (s : State) :
    Host.Outcome State Fault Refusal :=
  wide (mk4 0x8#4 0xE#4 o disp) s (s.needJq (s.loadReg n 8 .sign (s.ea3 (s.r m) o (disp.setWidth 64) 8)))

/-- `MOV.L Rm,@(Rn,Ro,disp8s)`, encoding `8Edd-1nmo` (rule R733). -/
def execXMovLRmAtRnRoDisp8s (disp : BitVec 8) (n : BitVec 4) (m : BitVec 4) (o : BitVec 4) (s : State) :
    Host.Outcome State Fault Refusal :=
  wide (mk4 0x8#4 0xE#4 (disp.extractLsb' 4 4) (disp.extractLsb' 0 4)) s
    (s.store (s.ea3 (s.r n) o (disp.signExtend 64) 4) 4 (s.r m))

/-- `MOV.L @(Rm,Ro,disp8s),Rn`, encoding `8Edd-5nmo` (rule R734). -/
def execXMovLAtRmRoDisp8sRn (disp : BitVec 8) (n : BitVec 4) (m : BitVec 4) (o : BitVec 4) (s : State) :
    Host.Outcome State Fault Refusal :=
  wide (mk4 0x8#4 0xE#4 (disp.extractLsb' 4 4) (disp.extractLsb' 0 4)) s
    (s.loadReg n 4 .sign (s.ea3 (s.r m) o (disp.signExtend 64) 4))

/-- `MOV.B Rm,@(Rn,disp8s)`, encoding `8Edd-2nm0` (rule R735). -/
def execXMovBRmAtRnDisp8s (disp : BitVec 8) (n : BitVec 4) (m : BitVec 4) (s : State) :
    Host.Outcome State Fault Refusal :=
  wide (mk4 0x8#4 0xE#4 (disp.extractLsb' 4 4) (disp.extractLsb' 0 4)) s (s.store (s.r n + sdisp disp 1) 1 (s.r m))

/-- `MOV.W Rm,@(Rn,disp8s)`, encoding `8Edd-2nm1` (rule R736). -/
def execXMovWRmAtRnDisp8s (disp : BitVec 8) (n : BitVec 4) (m : BitVec 4) (s : State) :
    Host.Outcome State Fault Refusal :=
  wide (mk4 0x8#4 0xE#4 (disp.extractLsb' 4 4) (disp.extractLsb' 0 4)) s (s.store (s.r n + sdisp disp 2) 2 (s.r m))

/-- `MOV.L Rm,@(Rn,disp8s)`, encoding `8Edd-2nm2` (rule R737). -/
def execXMovLRmAtRnDisp8s (disp : BitVec 8) (n : BitVec 4) (m : BitVec 4) (s : State) :
    Host.Outcome State Fault Refusal :=
  wide (mk4 0x8#4 0xE#4 (disp.extractLsb' 4 4) (disp.extractLsb' 0 4)) s (s.store (s.r n + sdisp disp 4) 4 (s.r m))

/-- `MOV.Q Rm,@(Rn,disp8s)`, encoding `8Edd-2nm3` (rule R738). -/
def execXMovQRmAtRnDisp8s (disp : BitVec 8) (n : BitVec 4) (m : BitVec 4) (s : State) :
    Host.Outcome State Fault Refusal :=
  wide (mk4 0x8#4 0xE#4 (disp.extractLsb' 4 4) (disp.extractLsb' 0 4)) s
    (s.needJq (s.store (s.r n + sdisp disp 8) 8 (s.r m)))

/-- `FMOV.S FRm,@(Rn,disp8s)`, encoding `8Edd-2nm4` (rule R739). -/
def execXFmovSFRmAtRnDisp8s (disp : BitVec 8) (n : BitVec 4) (m : BitVec 4) (s : State) :
    Host.Outcome State Fault Refusal :=
  wide (mk4 0x8#4 0xE#4 (disp.extractLsb' 4 4) (disp.extractLsb' 0 4)) s
    (s.fpu (s.fpStore .single false m (s.r n + sdisp disp 4)))

/-- `FMOV.D DRm,@(Rn,disp8s)`, encoding `8Edd-2nm5` (rule R740). -/
def execXFmovDDRmAtRnDisp8s (disp : BitVec 8) (n : BitVec 4) (m : BitVec 4) (s : State) :
    Host.Outcome State Fault Refusal :=
  wide (mk4 0x8#4 0xE#4 (disp.extractLsb' 4 4) (disp.extractLsb' 0 4)) s
    (require s.cfg.hasFmovdDisp (s.fpu (s.fpStore .double false m (s.r n + sdisp disp 8))))

/-- `FMOV.S @(Rm,disp8s),FRn`, encoding `8Edd-2nm6` (rule R741). -/
def execXFmovSAtRmDisp8sFRn (disp : BitVec 8) (n : BitVec 4) (m : BitVec 4) (s : State) :
    Host.Outcome State Fault Refusal :=
  wide (mk4 0x8#4 0xE#4 (disp.extractLsb' 4 4) (disp.extractLsb' 0 4)) s
    (s.fpu (s.fpLoad .single false n (s.r m + sdisp disp 4)))

/-- `FMOV.D @(Rm,disp8s),DRn`, encoding `8Edd-2nm7` (rule R742). -/
def execXFmovDAtRmDisp8sDRn (disp : BitVec 8) (n : BitVec 4) (m : BitVec 4) (s : State) :
    Host.Outcome State Fault Refusal :=
  wide (mk4 0x8#4 0xE#4 (disp.extractLsb' 4 4) (disp.extractLsb' 0 4)) s
    (require s.cfg.hasFmovdDisp (s.fpu (s.fpLoad .double false n (s.r m + sdisp disp 8))))

/-- `AND./Q Rm,#imm8,Rn`, encoding `8Eii-2nm9` (rule R743). -/
def execXAndRmImm8Rn (imm : BitVec 8) (n : BitVec 4) (m : BitVec 4) (s : State) : Host.Outcome State Fault Refusal :=
  wide (mk4 0x8#4 0xE#4 (imm.extractLsb' 4 4) (imm.extractLsb' 0 4)) s
    (.ok (s.binOp aluAnd n (s.r m) (imm.signExtend 64)))

/-- `XOR./Q Rm,#imm8,Rn`, encoding `8Eii-2nmA` (rule R744). -/
def execXXorRmImm8Rn (imm : BitVec 8) (n : BitVec 4) (m : BitVec 4) (s : State) : Host.Outcome State Fault Refusal :=
  wide (mk4 0x8#4 0xE#4 (imm.extractLsb' 4 4) (imm.extractLsb' 0 4)) s
    (.ok (s.binOp aluXor n (s.r m) (imm.signExtend 64)))

/-- `OR./Q Rm,#imm8,Rn`, encoding `8Eii-2nmB` (rule R745). -/
def execXOrRmImm8Rn (imm : BitVec 8) (n : BitVec 4) (m : BitVec 4) (s : State) : Host.Outcome State Fault Refusal :=
  wide (mk4 0x8#4 0xE#4 (imm.extractLsb' 4 4) (imm.extractLsb' 0 4)) s
    (.ok (s.binOp aluOr n (s.r m) (imm.signExtend 64)))

/-- `MULL./Q Rm,#imm8,Rn`, encoding `8Eii-2nmE` (rule R746). -/
def execXMullRmImm8Rn (imm : BitVec 8) (n : BitVec 4) (m : BitVec 4) (s : State) : Host.Outcome State Fault Refusal :=
  wide (mk4 0x8#4 0xE#4 (imm.extractLsb' 4 4) (imm.extractLsb' 0 4)) s
    (.ok (s.binOp aluMul n (s.r m) (imm.signExtend 64)))

/-- `CMPEQ./Q #imm12,Rn`, encoding `8Eii-3ni0` (rule R747). -/
def execXCmpeqImm12Rn (imm : BitVec 12) (n : BitVec 4) (s : State) : Host.Outcome State Fault Refusal :=
  wide (mk4 0x8#4 0xE#4 (imm.extractLsb' 8 4) (imm.extractLsb' 4 4)) s
    (.ok (s.cmpOp cmpEq (s.r n) (imm.signExtend 64)))

/-- `CMPHS./Q #imm12,Rn`, encoding `8Eii-3ni2` (rule R748). -/
def execXCmphsImm12Rn (imm : BitVec 12) (n : BitVec 4) (s : State) : Host.Outcome State Fault Refusal :=
  wide (mk4 0x8#4 0xE#4 (imm.extractLsb' 8 4) (imm.extractLsb' 4 4)) s
    (.ok (s.cmpOp cmpHs (s.r n) (imm.signExtend 64)))

/-- `CMPGE./Q #imm12,Rn`, encoding `8Eii-3ni3` (rule R749). -/
def execXCmpgeImm12Rn (imm : BitVec 12) (n : BitVec 4) (s : State) : Host.Outcome State Fault Refusal :=
  wide (mk4 0x8#4 0xE#4 (imm.extractLsb' 8 4) (imm.extractLsb' 4 4)) s
    (.ok (s.cmpOp cmpGe (s.r n) (imm.signExtend 64)))

/-- `CMPHI./Q #imm12,Rn`, encoding `8Eii-3ni6` (rule R750). -/
def execXCmphiImm12Rn (imm : BitVec 12) (n : BitVec 4) (s : State) : Host.Outcome State Fault Refusal :=
  wide (mk4 0x8#4 0xE#4 (imm.extractLsb' 8 4) (imm.extractLsb' 4 4)) s
    (.ok (s.cmpOp cmpHi (s.r n) (imm.signExtend 64)))

/-- `CMPGT./Q #imm12,Rn`, encoding `8Eii-3ni7` (rule R751). -/
def execXCmpgtImm12Rn (imm : BitVec 12) (n : BitVec 4) (s : State) : Host.Outcome State Fault Refusal :=
  wide (mk4 0x8#4 0xE#4 (imm.extractLsb' 8 4) (imm.extractLsb' 4 4)) s
    (.ok (s.cmpOp cmpGt (s.r n) (imm.signExtend 64)))

/-- `SUB./Q Rm,#imm8,Rn`, encoding `8Eii-3nm8` (rule R752). -/
def execXSubRmImm8Rn (imm : BitVec 8) (n : BitVec 4) (m : BitVec 4) (s : State) : Host.Outcome State Fault Refusal :=
  wide (mk4 0x8#4 0xE#4 (imm.extractLsb' 4 4) (imm.extractLsb' 0 4)) s
    (.ok (s.binOp aluSub n (s.r m) (imm.signExtend 64)))

/-- `ADD./Q Rm,#imm8,Rn`, encoding `8Eii-3nmC` (rule R753). -/
def execXAddRmImm8Rn (imm : BitVec 8) (n : BitVec 4) (m : BitVec 4) (s : State) : Host.Outcome State Fault Refusal :=
  wide (mk4 0x8#4 0xE#4 (imm.extractLsb' 4 4) (imm.extractLsb' 0 4)) s
    (.ok (s.binOp aluAdd n (s.r m) (imm.signExtend 64)))

/-- `MOV.B #imm,@Rn`, encoding `8Eii-4n84` (rule R754). -/
def execXMovBImmAtRn (imm : BitVec 8) (n : BitVec 4) (s : State) : Host.Outcome State Fault Refusal :=
  wide (mk4 0x8#4 0xE#4 (imm.extractLsb' 4 4) (imm.extractLsb' 0 4)) s (s.store (s.r n) 1 (imm.signExtend 64))

/-- `MOV.W #imm,@Rn`, encoding `8Eii-4n94` (rule R755). -/
def execXMovWImmAtRn (imm : BitVec 8) (n : BitVec 4) (s : State) : Host.Outcome State Fault Refusal :=
  wide (mk4 0x8#4 0xE#4 (imm.extractLsb' 4 4) (imm.extractLsb' 0 4)) s (s.store (s.r n) 2 (imm.signExtend 64))

/-- `MOV.L #imm,@Rn`, encoding `8Eii-4nA4` (rule R756). -/
def execXMovLImmAtRn (imm : BitVec 8) (n : BitVec 4) (s : State) : Host.Outcome State Fault Refusal :=
  wide (mk4 0x8#4 0xE#4 (imm.extractLsb' 4 4) (imm.extractLsb' 0 4)) s (s.store (s.r n) 4 (imm.signExtend 64))

/-- `MOV.Q #imm,@Rn`, encoding `8Eii-4nB4` (rule R757). -/
def execXMovQImmAtRn (imm : BitVec 8) (n : BitVec 4) (s : State) : Host.Outcome State Fault Refusal :=
  wide (mk4 0x8#4 0xE#4 (imm.extractLsb' 4 4) (imm.extractLsb' 0 4)) s
    (s.needJq (s.store (s.r n) 8 (imm.signExtend 64)))

/-- `MOV.B #imm,@-Rn`, encoding `8Eii-4nC4` (rule R758). -/
def execXMovBImmAtDecRn (imm : BitVec 8) (n : BitVec 4) (s : State) : Host.Outcome State Fault Refusal :=
  wide (mk4 0x8#4 0xE#4 (imm.extractLsb' 4 4) (imm.extractLsb' 0 4)) s (s.storeDec n 1 (imm.signExtend 64))

/-- `MOV.W #imm,@-Rn`, encoding `8Eii-4nD4` (rule R759). -/
def execXMovWImmAtDecRn (imm : BitVec 8) (n : BitVec 4) (s : State) : Host.Outcome State Fault Refusal :=
  wide (mk4 0x8#4 0xE#4 (imm.extractLsb' 4 4) (imm.extractLsb' 0 4)) s (s.storeDec n 2 (imm.signExtend 64))

/-- `MOV.L #imm,@-Rn`, encoding `8Eii-4nE4` (rule R760). -/
def execXMovLImmAtDecRn (imm : BitVec 8) (n : BitVec 4) (s : State) : Host.Outcome State Fault Refusal :=
  wide (mk4 0x8#4 0xE#4 (imm.extractLsb' 4 4) (imm.extractLsb' 0 4)) s (s.storeDec n 4 (imm.signExtend 64))

/-- `MOV.Q #imm,@-Rn`, encoding `8Eii-4nF4` (rule R761). -/
def execXMovQImmAtDecRn (imm : BitVec 8) (n : BitVec 4) (s : State) : Host.Outcome State Fault Refusal :=
  wide (mk4 0x8#4 0xE#4 (imm.extractLsb' 4 4) (imm.extractLsb' 0 4)) s (s.needJq (s.storeDec n 8 (imm.signExtend 64)))

/-- `SHAD./Q Rm,#imm,Rn`, encoding `8Eii-4nmC` (rule R762). -/
def execXShadRmImmRn (imm : BitVec 8) (n : BitVec 4) (m : BitVec 4) (s : State) : Host.Outcome State Fault Refusal :=
  wide (mk4 0x8#4 0xE#4 (imm.extractLsb' 4 4) (imm.extractLsb' 0 4)) s
    (.ok (s.binOp aluShad n (s.r m) (imm.signExtend 64)))

/-- `SHLD./Q Rm,#imm,Rn`, encoding `8Eii-4nmD` (rule R763). -/
def execXShldRmImmRn (imm : BitVec 8) (n : BitVec 4) (m : BitVec 4) (s : State) : Host.Outcome State Fault Refusal :=
  wide (mk4 0x8#4 0xE#4 (imm.extractLsb' 4 4) (imm.extractLsb' 0 4)) s
    (.ok (s.binOp aluShld n (s.r m) (imm.signExtend 64)))

/-- `MOV.B @(Rm,disp8s),Rn`, encoding `8Edd-6nm0` (rule R764). -/
def execXMovBAtRmDisp8sRn (disp : BitVec 8) (n : BitVec 4) (m : BitVec 4) (s : State) :
    Host.Outcome State Fault Refusal :=
  wide (mk4 0x8#4 0xE#4 (disp.extractLsb' 4 4) (disp.extractLsb' 0 4)) s (s.loadReg n 1 .sign (s.r m + sdisp disp 1))

/-- `MOV.W @(Rm,disp8s),Rn`, encoding `8Edd-6nm1` (rule R765). -/
def execXMovWAtRmDisp8sRn (disp : BitVec 8) (n : BitVec 4) (m : BitVec 4) (s : State) :
    Host.Outcome State Fault Refusal :=
  wide (mk4 0x8#4 0xE#4 (disp.extractLsb' 4 4) (disp.extractLsb' 0 4)) s (s.loadReg n 2 .sign (s.r m + sdisp disp 2))

/-- `MOV.L @(Rm,disp8s),Rn`, encoding `8Edd-6nm2` (rule R766). -/
def execXMovLAtRmDisp8sRn (disp : BitVec 8) (n : BitVec 4) (m : BitVec 4) (s : State) :
    Host.Outcome State Fault Refusal :=
  wide (mk4 0x8#4 0xE#4 (disp.extractLsb' 4 4) (disp.extractLsb' 0 4)) s (s.loadReg n 4 .sign (s.r m + sdisp disp 4))

/-- `MOV.Q @(Rm,disp8s),Rn`, encoding `8Edd-6nm3` (rule R767). -/
def execXMovQAtRmDisp8sRn (disp : BitVec 8) (n : BitVec 4) (m : BitVec 4) (s : State) :
    Host.Outcome State Fault Refusal :=
  wide (mk4 0x8#4 0xE#4 (disp.extractLsb' 4 4) (disp.extractLsb' 0 4)) s
    (s.needJq (s.loadReg n 8 .sign (s.r m + sdisp disp 8)))

/-- `LEA.B @(Rm,Ro,disp4),Rn`, encoding `8Eod-6nm4` (rule R768). -/
def execXLeaBAtRmRoDisp4Rn (o : BitVec 4) (disp : BitVec 4) (n : BitVec 4) (m : BitVec 4) (s : State) :
    Host.Outcome State Fault Refusal :=
  wide (mk4 0x8#4 0xE#4 o disp) s (.ok (s.wrA n (s.ea3 (s.r m) o (disp.setWidth 64) 1)))

/-- `LEA.W @(Rm,Ro,disp4),Rn`, encoding `8Eod-6nm5` (rule R769). -/
def execXLeaWAtRmRoDisp4Rn (o : BitVec 4) (disp : BitVec 4) (n : BitVec 4) (m : BitVec 4) (s : State) :
    Host.Outcome State Fault Refusal :=
  wide (mk4 0x8#4 0xE#4 o disp) s (.ok (s.wrA n (s.ea3 (s.r m) o (disp.setWidth 64) 2)))

/-- `LEA.L @(Rm,Ro,disp4),Rn`, encoding `8Eod-6nm6` (rule R770). -/
def execXLeaLAtRmRoDisp4Rn (o : BitVec 4) (disp : BitVec 4) (n : BitVec 4) (m : BitVec 4) (s : State) :
    Host.Outcome State Fault Refusal :=
  wide (mk4 0x8#4 0xE#4 o disp) s (.ok (s.wrA n (s.ea3 (s.r m) o (disp.setWidth 64) 4)))

/-- `LEA.Q @(Rm,Ro,disp4),Rn`, encoding `8Eod-6nm7` (rule R771). -/
def execXLeaQAtRmRoDisp4Rn (o : BitVec 4) (disp : BitVec 4) (n : BitVec 4) (m : BitVec 4) (s : State) :
    Host.Outcome State Fault Refusal :=
  wide (mk4 0x8#4 0xE#4 o disp) s (.ok (s.wrA n (s.ea3 (s.r m) o (disp.setWidth 64) 8)))

/-- `LEA.B @(Rm,disp8s),Rn`, encoding `8Edd-6nm8` (rule R772). -/
def execXLeaBAtRmDisp8sRn (disp : BitVec 8) (n : BitVec 4) (m : BitVec 4) (s : State) :
    Host.Outcome State Fault Refusal :=
  wide (mk4 0x8#4 0xE#4 (disp.extractLsb' 4 4) (disp.extractLsb' 0 4)) s (.ok (s.wrA n (s.r m + sdisp disp 1)))

/-- `LEA.W @(Rm,disp8s),Rn`, encoding `8Edd-6nm9` (rule R773). -/
def execXLeaWAtRmDisp8sRn (disp : BitVec 8) (n : BitVec 4) (m : BitVec 4) (s : State) :
    Host.Outcome State Fault Refusal :=
  wide (mk4 0x8#4 0xE#4 (disp.extractLsb' 4 4) (disp.extractLsb' 0 4)) s (.ok (s.wrA n (s.r m + sdisp disp 2)))

/-- `LEA.L @(Rm,disp8s),Rn`, encoding `8Edd-6nmA` (rule R774). -/
def execXLeaLAtRmDisp8sRn (disp : BitVec 8) (n : BitVec 4) (m : BitVec 4) (s : State) :
    Host.Outcome State Fault Refusal :=
  wide (mk4 0x8#4 0xE#4 (disp.extractLsb' 4 4) (disp.extractLsb' 0 4)) s (.ok (s.wrA n (s.r m + sdisp disp 4)))

/-- `LEA.Q @(Rm,disp8s),Rn`, encoding `8Edd-6nmB` (rule R775). -/
def execXLeaQAtRmDisp8sRn (disp : BitVec 8) (n : BitVec 4) (m : BitVec 4) (s : State) :
    Host.Outcome State Fault Refusal :=
  wide (mk4 0x8#4 0xE#4 (disp.extractLsb' 4 4) (disp.extractLsb' 0 4)) s (.ok (s.wrA n (s.r m + sdisp disp 8)))

/-- `MOVU.B @(Rm,disp8s),Rn`, encoding `8Edd-6nmC` (rule R776). -/
def execXMovuBAtRmDisp8sRn (disp : BitVec 8) (n : BitVec 4) (m : BitVec 4) (s : State) :
    Host.Outcome State Fault Refusal :=
  wide (mk4 0x8#4 0xE#4 (disp.extractLsb' 4 4) (disp.extractLsb' 0 4)) s (s.loadReg n 1 .zero (s.r m + sdisp disp 1))

/-- `MOVU.W @(Rm,disp8s),Rn`, encoding `8Edd-6nmD` (rule R777). -/
def execXMovuWAtRmDisp8sRn (disp : BitVec 8) (n : BitVec 4) (m : BitVec 4) (s : State) :
    Host.Outcome State Fault Refusal :=
  wide (mk4 0x8#4 0xE#4 (disp.extractLsb' 4 4) (disp.extractLsb' 0 4)) s (s.loadReg n 2 .zero (s.r m + sdisp disp 2))

/-- `MOVU.L @(Rm,disp8s),Rn`, encoding `8Edd-6nmE` (rule R778). -/
def execXMovuLAtRmDisp8sRn (disp : BitVec 8) (n : BitVec 4) (m : BitVec 4) (s : State) :
    Host.Outcome State Fault Refusal :=
  wide (mk4 0x8#4 0xE#4 (disp.extractLsb' 4 4) (disp.extractLsb' 0 4)) s (s.loadReg n 4 .zero (s.r m + sdisp disp 4))

/-- `ADD./Q #imm16,Rn`, encoding `8Eii-7nii` (rule R779). -/
def execXAddImm16Rn (imm : BitVec 16) (n : BitVec 4) (s : State) : Host.Outcome State Fault Refusal :=
  wide (mk4 0x8#4 0xE#4 (imm.extractLsb' 12 4) (imm.extractLsb' 8 4)) s
    (.ok (s.binOp aluAdd n (s.r n) (imm.signExtend 64)))

/-- `BRA/N disp16`, encoding `8Edd-82dd` (rule R780). -/
def execXBranDisp16 (disp : BitVec 16) (s : State) : Host.Outcome State Fault Refusal :=
  noSlot (mk4 0x8#4 0xE#4 (disp.extractLsb' 12 4) (disp.extractLsb' 8 4)) s (.ok (s.jump (s.pcb32 + sdisp disp 2)))

/-- `BSR/N disp16`, encoding `8Edd-83dd` (rule R781). -/
def execXBsrnDisp16 (disp : BitVec 16) (s : State) : Host.Outcome State Fault Refusal :=
  noSlot (mk4 0x8#4 0xE#4 (disp.extractLsb' 12 4) (disp.extractLsb' 8 4)) s
    (.ok ((s.link (s.pcn + 4)).jump (s.pcb32 + sdisp disp 2)))

/-- `CMPEQ #imm16,R0`, encoding `8Eii-88ii` (rule R782). -/
def execXCmpeqImm16R0 (imm : BitVec 16) (s : State) : Host.Outcome State Fault Refusal :=
  wide (mk4 0x8#4 0xE#4 (imm.extractLsb' 12 4) (imm.extractLsb' 8 4)) s
    (.ok (s.cmpOp cmpEq (s.r 0) (imm.signExtend 64)))

/-- `BT disp16`, encoding `8Edd-89dd` (rule R783). -/
def execXBtDisp16 (disp : BitVec 16) (s : State) : Host.Outcome State Fault Refusal :=
  noSlot (mk4 0x8#4 0xE#4 (disp.extractLsb' 12 4) (disp.extractLsb' 8 4)) s
    (.ok (s.branchIf s.t 4 (s.pcb32 + sdisp disp 2)))

/-- `LDHF16 #imm,FPUL`, encoding `8Eii-8Aii` (rule R784). -/
def execXLdhf16ImmFpul (imm : BitVec 16) (s : State) : Host.Outcome State Fault Refusal :=
  wide (mk4 0x8#4 0xE#4 (imm.extractLsb' 12 4) (imm.extractLsb' 8 4)) s (s.fpu (.ok { s with fpul := s.fpHalf imm }))

/-- `BF disp16`, encoding `8Edd-8Bdd` (rule R785). -/
def execXBfDisp16 (disp : BitVec 16) (s : State) : Host.Outcome State Fault Refusal :=
  noSlot (mk4 0x8#4 0xE#4 (disp.extractLsb' 12 4) (disp.extractLsb' 8 4)) s
    (.ok (s.branchIf (!s.t) 4 (s.pcb32 + sdisp disp 2)))

/-- `LDSH16 #imm,R0`, encoding `8Eii-8Cii` (rule R786). -/
def execXLdsh16ImmR0 (imm : BitVec 16) (s : State) : Host.Outcome State Fault Refusal :=
  wide (mk4 0x8#4 0xE#4 (imm.extractLsb' 12 4) (imm.extractLsb' 8 4)) s
    (.ok (s.wr s.jq 0 ((s.r 0 <<< 16) ||| imm.setWidth 64)))

/-- `BTS disp16`, encoding `8Edd-8Ddd` (rule R787). -/
def execXBtsDisp16 (disp : BitVec 16) (s : State) : Host.Outcome State Fault Refusal :=
  noSlot (mk4 0x8#4 0xE#4 (disp.extractLsb' 12 4) (disp.extractLsb' 8 4)) s
    (.ok (s.delayedIf s.t 4 (s.pcb32 + sdisp disp 2)))

/-- `BFS disp16`, encoding `8Edd-8Fdd` (rule R788). -/
def execXBfsDisp16 (disp : BitVec 16) (s : State) : Host.Outcome State Fault Refusal :=
  noSlot (mk4 0x8#4 0xE#4 (disp.extractLsb' 12 4) (disp.extractLsb' 8 4)) s
    (.ok (s.delayedIf (!s.t) 4 (s.pcb32 + sdisp disp 2)))

/-- `MOVA @(PC,disp13),Rn`, encoding `8E[000d]d-9ndd` (rule R790). -/
def execXMovaAtPcDisp13Rn (disp : BitVec 13) (n : BitVec 4) (s : State) : Host.Outcome State Fault Refusal :=
  wide (mk4 0x8#4 0xE#4 (0#3 ++ disp.extractLsb' 12 1) (disp.extractLsb' 8 4)) s
    (.ok (s.wrA n (align4 s.pcb32 + zdisp disp 4)))

/-- `MOVU.W @(PC,disp13),Rn`, encoding `8E[001d]d-9ndd` (rule R791). -/
def execXMovuWAtPcDisp13Rn (disp : BitVec 13) (n : BitVec 4) (s : State) : Host.Outcome State Fault Refusal :=
  wide (mk4 0x8#4 0xE#4 (1#3 ++ disp.extractLsb' 12 1) (disp.extractLsb' 8 4)) s
    (s.loadReg n 2 .zero (s.pcb32 + zdisp disp 2))

/-- `FMOV.S @(PC,disp13),FRn`, encoding `8E[010d]d-9ndd` (rule R792). -/
def execXFmovSAtPcDisp13FRn (disp : BitVec 13) (n : BitVec 4) (s : State) : Host.Outcome State Fault Refusal :=
  wide (mk4 0x8#4 0xE#4 (2#3 ++ disp.extractLsb' 12 1) (disp.extractLsb' 8 4)) s
    (s.fpu (s.fpLoad .single false n (align4 s.pcb32 + zdisp disp 4)))

/-- `MOVU.W @(PC,disp13),RHn`, encoding `8E[011d]d-9ndd` (rule R793). -/
def execXMovuWAtPcDisp13RHn (disp : BitVec 13) (n : BitVec 4) (s : State) : Host.Outcome State Fault Refusal :=
  wide (mk4 0x8#4 0xE#4 (3#3 ++ disp.extractLsb' 12 1) (disp.extractLsb' 8 4)) s
    (s.needRh ((s.load (s.pcb32 + zdisp disp 2) 2).map fun v => s.setHalf true n (lo32 (zxN 16 v))))

/-- `FMOV.S @(PC,disp13),XFn`, encoding `8E[100d]d-9ndd` (rule R794). -/
def execXFmovSAtPcDisp13XFn (disp : BitVec 13) (n : BitVec 4) (s : State) : Host.Outcome State Fault Refusal :=
  wide (mk4 0x8#4 0xE#4 (4#3 ++ disp.extractLsb' 12 1) (disp.extractLsb' 8 4)) s
    (s.fpu (s.fpLoad .single true n (align4 s.pcb32 + zdisp disp 4)))

/-- `MOVU.W @(PC,disp13),RQn`, encoding `8E[101d]d-9ndd` (rule R795). -/
def execXMovuWAtPcDisp13RQn (disp : BitVec 13) (n : BitVec 4) (s : State) : Host.Outcome State Fault Refusal :=
  wide (mk4 0x8#4 0xE#4 (5#3 ++ disp.extractLsb' 12 1) (disp.extractLsb' 8 4)) s
    (s.needRh ((s.load (s.pcb32 + zdisp disp 2) 2).map fun v => s.setR n (zxN 16 v)))

/-- `FMOV.D @(PC,disp13),YDn`, encoding `8E[110d]d-9ndd` (rule R796). Reserved. -/
def execXFmovDAtPcDisp13YDn (disp : BitVec 13) (n : BitVec 4) (s : State) : Host.Outcome State Fault Refusal :=
  reserved (mk4 0x8#4 0xE#4 (6#3 ++ disp.extractLsb' 12 1) (disp.extractLsb' 8 4)) s

/-- `FMOV.D @(PC,disp13),DRn`, encoding `8E[111d]d-9ndd` (rule R797). -/
def execXFmovDAtPcDisp13DRn (disp : BitVec 13) (n : BitVec 4) (s : State) : Host.Outcome State Fault Refusal :=
  wide (mk4 0x8#4 0xE#4 (7#3 ++ disp.extractLsb' 12 1) (disp.extractLsb' 8 4)) s
    (s.fpu (s.fpLoad .double false n (align4 s.pcb32 + zdisp disp 4)))

/-- `BRA disp20`, encoding `8Edd-Addd` (rule R798). -/
def execXBraDisp20 (disp : BitVec 20) (s : State) : Host.Outcome State Fault Refusal :=
  noSlot (mk4 0x8#4 0xE#4 (disp.extractLsb' 16 4) (disp.extractLsb' 12 4)) s
    (.ok (s.delayedBranch 4 (s.pcb32 + sdisp disp 2)))

/-- `BSR disp20`, encoding `8Edd-Bddd` (rule R799). -/
def execXBsrDisp20 (disp : BitVec 20) (s : State) : Host.Outcome State Fault Refusal :=
  noSlot (mk4 0x8#4 0xE#4 (disp.extractLsb' 16 4) (disp.extractLsb' 12 4)) s
    (.ok ((s.link (s.pcn + 6)).delayedBranch 4 (s.pcb32 + sdisp disp 2)))

/-- `TST./Q #imm12,Rn`, encoding `8Ejj-C8nj` (rule R800). -/
def execXTstImm12Rn (imm : BitVec 12) (n : BitVec 4) (s : State) : Host.Outcome State Fault Refusal :=
  wide (mk4 0x8#4 0xE#4 (imm.extractLsb' 8 4) (imm.extractLsb' 4 4)) s
    (.ok (s.cmpOp cmpTst (s.r n) (imm.setWidth 64)))

/-- `AND./Q #imm12,Rn`, encoding `8Ejj-C9nj` (rule R801). -/
def execXAndImm12Rn (imm : BitVec 12) (n : BitVec 4) (s : State) : Host.Outcome State Fault Refusal :=
  wide (mk4 0x8#4 0xE#4 (imm.extractLsb' 8 4) (imm.extractLsb' 4 4)) s
    (.ok (s.binOp aluAnd n (s.r n) (imm.setWidth 64)))

/-- `XOR./Q #imm12,Rn`, encoding `8Ejj-CAnj` (rule R802). -/
def execXXorImm12Rn (imm : BitVec 12) (n : BitVec 4) (s : State) : Host.Outcome State Fault Refusal :=
  wide (mk4 0x8#4 0xE#4 (imm.extractLsb' 8 4) (imm.extractLsb' 4 4)) s
    (.ok (s.binOp aluXor n (s.r n) (imm.setWidth 64)))

/-- `OR./Q #imm12,Rn`, encoding `8Ejj-CBnj` (rule R803). -/
def execXOrImm12Rn (imm : BitVec 12) (n : BitVec 4) (s : State) : Host.Outcome State Fault Refusal :=
  wide (mk4 0x8#4 0xE#4 (imm.extractLsb' 8 4) (imm.extractLsb' 4 4)) s
    (.ok (s.binOp aluOr n (s.r n) (imm.setWidth 64)))

/-- `MOV.L @(PC,disp13),Rn`, encoding `8E[000d]d-Dndd` (rule R805). -/
def execXMovLAtPcDisp13Rn (disp : BitVec 13) (n : BitVec 4) (s : State) : Host.Outcome State Fault Refusal :=
  wide (mk4 0x8#4 0xE#4 (0#3 ++ disp.extractLsb' 12 1) (disp.extractLsb' 8 4)) s
    (s.loadReg n 4 .sign (align4 s.pcb32 + zdisp disp 4))

/-- `MOV.W @(PC,disp13),Rn`, encoding `8E[001d]d-Dndd` (rule R806). -/
def execXMovWAtPcDisp13Rn (disp : BitVec 13) (n : BitVec 4) (s : State) : Host.Outcome State Fault Refusal :=
  wide (mk4 0x8#4 0xE#4 (1#3 ++ disp.extractLsb' 12 1) (disp.extractLsb' 8 4)) s
    (s.loadReg n 2 .sign (s.pcb32 + zdisp disp 2))

/-- `MOV.L @(PC,disp13),RHn`, encoding `8E[010d]d-Dndd` (rule R807). -/
def execXMovLAtPcDisp13RHn (disp : BitVec 13) (n : BitVec 4) (s : State) : Host.Outcome State Fault Refusal :=
  wide (mk4 0x8#4 0xE#4 (2#3 ++ disp.extractLsb' 12 1) (disp.extractLsb' 8 4)) s
    (s.needRh ((s.load (align4 s.pcb32 + zdisp disp 4) 4).map fun v => s.setHalf true n (lo32 v)))

/-- `MOV.W @(PC,disp13),RHn`, encoding `8E[011d]d-Dndd` (rule R808). -/
def execXMovWAtPcDisp13RHn (disp : BitVec 13) (n : BitVec 4) (s : State) : Host.Outcome State Fault Refusal :=
  wide (mk4 0x8#4 0xE#4 (3#3 ++ disp.extractLsb' 12 1) (disp.extractLsb' 8 4)) s
    (s.needRh ((s.load (s.pcb32 + zdisp disp 2) 2).map fun v => s.setHalf true n (lo32 (sxN 16 v))))

/-- `MOV.L @(PC,disp13),RQn`, encoding `8E[100d]d-Dndd` (rule R809). -/
def execXMovLAtPcDisp13RQn (disp : BitVec 13) (n : BitVec 4) (s : State) : Host.Outcome State Fault Refusal :=
  wide (mk4 0x8#4 0xE#4 (4#3 ++ disp.extractLsb' 12 1) (disp.extractLsb' 8 4)) s
    (s.needRh ((s.load (align4 s.pcb32 + zdisp disp 4) 4).map fun v => s.setR n (sxN 32 v)))

/-- `MOV.W @(PC,disp13),RQn`, encoding `8E[101d]d-Dndd` (rule R810). -/
def execXMovWAtPcDisp13RQn (disp : BitVec 13) (n : BitVec 4) (s : State) : Host.Outcome State Fault Refusal :=
  wide (mk4 0x8#4 0xE#4 (5#3 ++ disp.extractLsb' 12 1) (disp.extractLsb' 8 4)) s
    (s.needRh ((s.load (s.pcb32 + zdisp disp 2) 2).map fun v => s.setR n (sxN 16 v)))

/-- `MOVU.L @(PC,disp13),RQn`, encoding `8E[110d]d-Dndd` (rule R811). -/
def execXMovuLAtPcDisp13RQn (disp : BitVec 13) (n : BitVec 4) (s : State) : Host.Outcome State Fault Refusal :=
  wide (mk4 0x8#4 0xE#4 (6#3 ++ disp.extractLsb' 12 1) (disp.extractLsb' 8 4)) s
    (s.needRh ((s.load (align4 s.pcb32 + zdisp disp 4) 4).map fun v => s.setR n (zxN 32 v)))

/-- `MOV.Q @(PC,disp13),RQn`, encoding `8E[111d]d-Dndd` (rule R812). -/
def execXMovQAtPcDisp13RQn (disp : BitVec 13) (n : BitVec 4) (s : State) : Host.Outcome State Fault Refusal :=
  wide (mk4 0x8#4 0xE#4 (7#3 ++ disp.extractLsb' 12 1) (disp.extractLsb' 8 4)) s
    (s.needJq (s.needRh ((s.load (align4 s.pcb32 + zdisp disp 4) 8).map fun v => s.setR n v)))

/-- `MOV./Q #imm16,Rn`, encoding `8Eii-Enii` (rule R813). -/
def execXMovImm16Rn (imm : BitVec 16) (n : BitVec 4) (s : State) : Host.Outcome State Fault Refusal :=
  wide (mk4 0x8#4 0xE#4 (imm.extractLsb' 12 4) (imm.extractLsb' 8 4)) s (.ok (s.wr s.dq n (imm.signExtend 64)))

end Sys2Proof.Machine
end

