-- ==== Sys2Proof/Machine/Dispatch.lean ====
section
/-! DEFINITION. Machine/Dispatch.lean: the meaning of every instruction. -/
namespace Sys2Proof.Machine

/-- What an instruction does: one arm per constructor, one call of its meaning. -/
def exec (i : Instr) (s : State) : Host.Outcome State Fault Refusal :=
  match i with
  | .movRmRn n m => Sys2Proof.Machine.execMovRmRn n m s
  | .movImmRn n imm => Sys2Proof.Machine.execMovImmRn n imm s
  | .movBRmAtRn n m => Sys2Proof.Machine.execMovBRmAtRn n m s
  | .movWQRmAtRn n m => Sys2Proof.Machine.execMovWQRmAtRn n m s
  | .movLRmAtRn n m => Sys2Proof.Machine.execMovLRmAtRn n m s
  | .movBAtRmRn n m => Sys2Proof.Machine.execMovBAtRmRn n m s
  | .movWQAtRmRn n m => Sys2Proof.Machine.execMovWQAtRmRn n m s
  | .movLAtRmRn n m => Sys2Proof.Machine.execMovLAtRmRn n m s
  | .movBRmAtDecRn n m => Sys2Proof.Machine.execMovBRmAtDecRn n m s
  | .movWQRmAtDecRn n m => Sys2Proof.Machine.execMovWQRmAtDecRn n m s
  | .movLRmAtDecRn n m => Sys2Proof.Machine.execMovLRmAtDecRn n m s
  | .movBAtRmIncRn n m => Sys2Proof.Machine.execMovBAtRmIncRn n m s
  | .movWQAtRmIncRn n m => Sys2Proof.Machine.execMovWQAtRmIncRn n m s
  | .movLAtRmIncRn n m => Sys2Proof.Machine.execMovLAtRmIncRn n m s
  | .movBRmAtR0Rn n m => Sys2Proof.Machine.execMovBRmAtR0Rn n m s
  | .movWQRmAtR0Rn n m => Sys2Proof.Machine.execMovWQRmAtR0Rn n m s
  | .movLRmAtR0Rn n m => Sys2Proof.Machine.execMovLRmAtR0Rn n m s
  | .movBAtR0RmRn n m => Sys2Proof.Machine.execMovBAtR0RmRn n m s
  | .movWQAtR0RmRn n m => Sys2Proof.Machine.execMovWQAtR0RmRn n m s
  | .movLAtR0RmRn n m => Sys2Proof.Machine.execMovLAtR0RmRn n m s
  | .movLRmAtRnDisp n m disp => Sys2Proof.Machine.execMovLRmAtRnDisp n m disp s
  | .movLAtRmDispRn n m disp => Sys2Proof.Machine.execMovLAtRmDispRn n m disp s
  | .movBR0AtRnDisp n disp => Sys2Proof.Machine.execMovBR0AtRnDisp n disp s
  | .movWQR0AtRnDisp n disp => Sys2Proof.Machine.execMovWQR0AtRnDisp n disp s
  | .movBAtRmDispR0 m disp => Sys2Proof.Machine.execMovBAtRmDispR0 m disp s
  | .movWQAtRmDispR0 m disp => Sys2Proof.Machine.execMovWQAtRmDispR0 m disp s
  | .movWQAtPcDispRn n disp => Sys2Proof.Machine.execMovWQAtPcDispRn n disp s
  | .movLAtPcDispRn n disp => Sys2Proof.Machine.execMovLAtPcDispRn n disp s
  | .movaAtPcDispR0 disp => Sys2Proof.Machine.execMovaAtPcDispR0 disp s
  | .movBR0AtGbrDisp disp => Sys2Proof.Machine.execMovBR0AtGbrDisp disp s
  | .movWQR0AtGbrDisp disp => Sys2Proof.Machine.execMovWQR0AtGbrDisp disp s
  | .movLR0AtGbrDisp disp => Sys2Proof.Machine.execMovLR0AtGbrDisp disp s
  | .movBAtGbrDispR0 disp => Sys2Proof.Machine.execMovBAtGbrDispR0 disp s
  | .movWQAtGbrDispR0 disp => Sys2Proof.Machine.execMovWQAtGbrDispR0 disp s
  | .movLAtGbrDispR0 disp => Sys2Proof.Machine.execMovLAtGbrDispR0 disp s
  | .movBR0AtRnInc n => Sys2Proof.Machine.execMovBR0AtRnInc n s
  | .movWQR0AtRnInc n => Sys2Proof.Machine.execMovWQR0AtRnInc n s
  | .movLR0AtRnInc n => Sys2Proof.Machine.execMovLR0AtRnInc n s
  | .movBAtDecRmR0 m => Sys2Proof.Machine.execMovBAtDecRmR0 m s
  | .movWQAtDecRmR0 m => Sys2Proof.Machine.execMovWQAtDecRmR0 m s
  | .movLAtDecRmR0 m => Sys2Proof.Machine.execMovLAtDecRmR0 m s
  | .pushLQRm m => Sys2Proof.Machine.execPushLQRm m s
  | .popLQRn n => Sys2Proof.Machine.execPopLQRn n s
  | .movQWAtR0Rn n => Sys2Proof.Machine.execMovQWAtR0Rn n s
  | .movQWRmAtR0 m => Sys2Proof.Machine.execMovQWRmAtR0 m s
  | .movuaLAtRmR0 m => Sys2Proof.Machine.execMovuaLAtRmR0 m s
  | .movuaLAtRmIncR0 m => Sys2Proof.Machine.execMovuaLAtRmIncR0 m s
  | .movuaLR0AtRm m => Sys2Proof.Machine.execMovuaLR0AtRm m s
  | .movuaLR0AtDecRm m => Sys2Proof.Machine.execMovuaLR0AtDecRm m s
  | .movtRn n => Sys2Proof.Machine.execMovtRn n s
  | .movrtRn n => Sys2Proof.Machine.execMovrtRn n s
  | .swapBRmRn n m => Sys2Proof.Machine.execSwapBRmRn n m s
  | .swapWRmRn n m => Sys2Proof.Machine.execSwapWRmRn n m s
  | .xtrctRmRn n m => Sys2Proof.Machine.execXtrctRmRn n m s
  | .movLAtPcIncRn n => Sys2Proof.Machine.execMovLAtPcIncRn n s
  | .movQAtPcIncRn n => Sys2Proof.Machine.execMovQAtPcIncRn n s
  | .addRmRn n m => Sys2Proof.Machine.execAddRmRn n m s
  | .addImmRn n imm => Sys2Proof.Machine.execAddImmRn n imm s
  | .addcRmRn n m => Sys2Proof.Machine.execAddcRmRn n m s
  | .addvRmRn n m => Sys2Proof.Machine.execAddvRmRn n m s
  | .subRmRn n m => Sys2Proof.Machine.execSubRmRn n m s
  | .subcRmRn n m => Sys2Proof.Machine.execSubcRmRn n m s
  | .subvRmRn n m => Sys2Proof.Machine.execSubvRmRn n m s
  | .negRmRn n m => Sys2Proof.Machine.execNegRmRn n m s
  | .negcRmRn n m => Sys2Proof.Machine.execNegcRmRn n m s
  | .cmpeqRmRn n m => Sys2Proof.Machine.execCmpeqRmRn n m s
  | .cmphsRmRn n m => Sys2Proof.Machine.execCmphsRmRn n m s
  | .cmpgeRmRn n m => Sys2Proof.Machine.execCmpgeRmRn n m s
  | .cmphiRmRn n m => Sys2Proof.Machine.execCmphiRmRn n m s
  | .cmpgtRmRn n m => Sys2Proof.Machine.execCmpgtRmRn n m s
  | .cmppzRn n => Sys2Proof.Machine.execCmppzRn n s
  | .cmpplRn n => Sys2Proof.Machine.execCmpplRn n s
  | .cmpstrRmRn n m => Sys2Proof.Machine.execCmpstrRmRn n m s
  | .cmpeqImmR0 imm => Sys2Proof.Machine.execCmpeqImmR0 imm s
  | .dtRn n => Sys2Proof.Machine.execDtRn n s
  | .extsBRmRn n m => Sys2Proof.Machine.execExtsBRmRn n m s
  | .extsWRmRn n m => Sys2Proof.Machine.execExtsWRmRn n m s
  | .extuBRmRn n m => Sys2Proof.Machine.execExtuBRmRn n m s
  | .extuWRmRn n m => Sys2Proof.Machine.execExtuWRmRn n m s
  | .mulLRmRn n m => Sys2Proof.Machine.execMulLRmRn n m s
  | .muluWQRmRn n m => Sys2Proof.Machine.execMuluWQRmRn n m s
  | .mulsWQRmRn n m => Sys2Proof.Machine.execMulsWQRmRn n m s
  | .dmuluLRmRn n m => Sys2Proof.Machine.execDmuluLRmRn n m s
  | .dmulsLRmRn n m => Sys2Proof.Machine.execDmulsLRmRn n m s
  | .div0sRmRn n m => Sys2Proof.Machine.execDiv0sRmRn n m s
  | .div0u => Sys2Proof.Machine.execDiv0u s
  | .div1RmRn n m => Sys2Proof.Machine.execDiv1RmRn n m s
  | .divuR0Rn n => Sys2Proof.Machine.execDivuR0Rn n s
  | .divsR0Rn n => Sys2Proof.Machine.execDivsR0Rn n s
  | .macLAtRmIncAtRnInc n m => Sys2Proof.Machine.execMacLAtRmIncAtRnInc n m s
  | .macWQAtRmIncAtRnInc n m => Sys2Proof.Machine.execMacWQAtRmIncAtRnInc n m s
  | .andRmRn n m => Sys2Proof.Machine.execAndRmRn n m s
  | .andImmR0 imm => Sys2Proof.Machine.execAndImmR0 imm s
  | .andBImmAtGbrR0 imm => Sys2Proof.Machine.execAndBImmAtGbrR0 imm s
  | .orRmRn n m => Sys2Proof.Machine.execOrRmRn n m s
  | .orImmR0 imm => Sys2Proof.Machine.execOrImmR0 imm s
  | .orBImmAtGbrR0 imm => Sys2Proof.Machine.execOrBImmAtGbrR0 imm s
  | .xorRmRn n m => Sys2Proof.Machine.execXorRmRn n m s
  | .xorImmR0 imm => Sys2Proof.Machine.execXorImmR0 imm s
  | .xorBImmAtGbrR0 imm => Sys2Proof.Machine.execXorBImmAtGbrR0 imm s
  | .tstRmRn n m => Sys2Proof.Machine.execTstRmRn n m s
  | .tstImmR0 imm => Sys2Proof.Machine.execTstImmR0 imm s
  | .tstBImmAtGbrR0 imm => Sys2Proof.Machine.execTstBImmAtGbrR0 imm s
  | .notRmRn n m => Sys2Proof.Machine.execNotRmRn n m s
  | .tasBAtRn n => Sys2Proof.Machine.execTasBAtRn n s
  | .shadRmRn n m => Sys2Proof.Machine.execShadRmRn n m s
  | .shldRmRn n m => Sys2Proof.Machine.execShldRmRn n m s
  | .shllRn n => Sys2Proof.Machine.execShllRn n s
  | .shalRn n => Sys2Proof.Machine.execShalRn n s
  | .shlrRn n => Sys2Proof.Machine.execShlrRn n s
  | .sharRn n => Sys2Proof.Machine.execSharRn n s
  | .rotlRn n => Sys2Proof.Machine.execRotlRn n s
  | .rotrRn n => Sys2Proof.Machine.execRotrRn n s
  | .rotclRn n => Sys2Proof.Machine.execRotclRn n s
  | .rotcrRn n => Sys2Proof.Machine.execRotcrRn n s
  | .shll2Rn n => Sys2Proof.Machine.execShll2Rn n s
  | .shll8Rn n => Sys2Proof.Machine.execShll8Rn n s
  | .shll16Rn n => Sys2Proof.Machine.execShll16Rn n s
  | .shlr2Rn n => Sys2Proof.Machine.execShlr2Rn n s
  | .shlr8Rn n => Sys2Proof.Machine.execShlr8Rn n s
  | .shlr16Rn n => Sys2Proof.Machine.execShlr16Rn n s
  | .shll4Rn n => Sys2Proof.Machine.execShll4Rn n s
  | .shlr4Rn n => Sys2Proof.Machine.execShlr4Rn n s
  | .shll32Rn n => Sys2Proof.Machine.execShll32Rn n s
  | .shlr32Rn n => Sys2Proof.Machine.execShlr32Rn n s
  | .rot32Rn n => Sys2Proof.Machine.execRot32Rn n s
  | .movhiR0RHn n => Sys2Proof.Machine.execMovhiR0RHn n s
  | .movhiRHmR0 m => Sys2Proof.Machine.execMovhiRHmR0 m s
  | .extuLRn n => Sys2Proof.Machine.execExtuLRn n s
  | .extsLRn n => Sys2Proof.Machine.execExtsLRn n s
  | .bt disp => Sys2Proof.Machine.execBt disp s
  | .bf disp => Sys2Proof.Machine.execBf disp s
  | .bts disp => Sys2Proof.Machine.execBts disp s
  | .bfs disp => Sys2Proof.Machine.execBfs disp s
  | .bra disp => Sys2Proof.Machine.execBra disp s
  | .bsr disp => Sys2Proof.Machine.execBsr disp s
  | .brafRm m => Sys2Proof.Machine.execBrafRm m s
  | .bsrfRm m => Sys2Proof.Machine.execBsrfRm m s
  | .jmpAtRm m => Sys2Proof.Machine.execJmpAtRm m s
  | .jsrAtRm m => Sys2Proof.Machine.execJsrAtRm m s
  | .rts => Sys2Proof.Machine.execRts s
  | .rtsn => Sys2Proof.Machine.execRtsn s
  | .rtvnRm m => Sys2Proof.Machine.execRtvnRm m s
  | .jsrnRm m => Sys2Proof.Machine.execJsrnRm m s
  | .stcSrRn n => Sys2Proof.Machine.execStcSrRn n s
  | .stcGbrRn n => Sys2Proof.Machine.execStcGbrRn n s
  | .stcVbrRn n => Sys2Proof.Machine.execStcVbrRn n s
  | .stcSsrRn n => Sys2Proof.Machine.execStcSsrRn n s
  | .stcSpcRn n => Sys2Proof.Machine.execStcSpcRn n s
  | .stcRmBRn n b => Sys2Proof.Machine.execStcRmBRn n b s
  | .stcSgrRn n => Sys2Proof.Machine.execStcSgrRn n s
  | .stcDbrRn n => Sys2Proof.Machine.execStcDbrRn n s
  | .stsMachRn n => Sys2Proof.Machine.execStsMachRn n s
  | .stsMaclRn n => Sys2Proof.Machine.execStsMaclRn n s
  | .stsPrRn n => Sys2Proof.Machine.execStsPrRn n s
  | .stsFpulRn n => Sys2Proof.Machine.execStsFpulRn n s
  | .stsFpscrRn n => Sys2Proof.Machine.execStsFpscrRn n s
  | .ldcRmSr m => Sys2Proof.Machine.execLdcRmSr m s
  | .ldcRmGbr m => Sys2Proof.Machine.execLdcRmGbr m s
  | .ldcRmVbr m => Sys2Proof.Machine.execLdcRmVbr m s
  | .ldcRmSsr m => Sys2Proof.Machine.execLdcRmSsr m s
  | .ldcRmSpc m => Sys2Proof.Machine.execLdcRmSpc m s
  | .ldcRmRnB m b => Sys2Proof.Machine.execLdcRmRnB m b s
  | .ldcRmSgr m => Sys2Proof.Machine.execLdcRmSgr m s
  | .ldcRmDbr m => Sys2Proof.Machine.execLdcRmDbr m s
  | .ldsRmMach m => Sys2Proof.Machine.execLdsRmMach m s
  | .ldsRmMacl m => Sys2Proof.Machine.execLdsRmMacl m s
  | .ldsRmPr m => Sys2Proof.Machine.execLdsRmPr m s
  | .iclrmdDQ => Sys2Proof.Machine.execIclrmdDQ s
  | .iclrmdJQ => Sys2Proof.Machine.execIclrmdJQ s
  | .iclrmdJDQ => Sys2Proof.Machine.execIclrmdJDQ s
  | .isetmdDQ => Sys2Proof.Machine.execIsetmdDQ s
  | .isetmdJQ => Sys2Proof.Machine.execIsetmdJQ s
  | .isetmdJDQ => Sys2Proof.Machine.execIsetmdJDQ s
  | .ldsRmFpul m => Sys2Proof.Machine.execLdsRmFpul m s
  | .ldsRmFpscr m => Sys2Proof.Machine.execLdsRmFpscr m s
  | .clrt => Sys2Proof.Machine.execClrt s
  | .sett => Sys2Proof.Machine.execSett s
  | .clrs => Sys2Proof.Machine.execClrs s
  | .sets => Sys2Proof.Machine.execSets s
  | .nott => Sys2Proof.Machine.execNott s
  | .clrmac => Sys2Proof.Machine.execClrmac s
  | .nop imm => Sys2Proof.Machine.execNop imm s
  | .trapaImm imm => Sys2Proof.Machine.execTrapaImm imm s
  | .rte => Sys2Proof.Machine.execRte s
  | .sleep => Sys2Proof.Machine.execSleep s
  | .brk => Sys2Proof.Machine.execBrk s
  | .ldtlb => Sys2Proof.Machine.execLdtlb s
  | .resbank => Sys2Proof.Machine.execResbank s
  | .synco => Sys2Proof.Machine.execSynco s
  | .prefAtRn n => Sys2Proof.Machine.execPrefAtRn n s
  | .movcaLR0AtRn n => Sys2Proof.Machine.execMovcaLR0AtRn n s
  | .icbiAtRn n => Sys2Proof.Machine.execIcbiAtRn n s
  | .casLRmRnAtR0 n m => Sys2Proof.Machine.execCasLRmRnAtR0 n m s
  | .stsLQMachAtDecRn n => Sys2Proof.Machine.execStsLQMachAtDecRn n s
  | .stsLQMaclAtDecRn n => Sys2Proof.Machine.execStsLQMaclAtDecRn n s
  | .stsLQPrAtDecRn n => Sys2Proof.Machine.execStsLQPrAtDecRn n s
  | .stcLQSgrAtDecRn n => Sys2Proof.Machine.execStcLQSgrAtDecRn n s
  | .stsLQFpulAtDecRn n => Sys2Proof.Machine.execStsLQFpulAtDecRn n s
  | .stsLQFpscrAtDecRn n => Sys2Proof.Machine.execStsLQFpscrAtDecRn n s
  | .stcLQDbrAtDecRn n => Sys2Proof.Machine.execStcLQDbrAtDecRn n s
  | .stcLQSrAtDecRn n => Sys2Proof.Machine.execStcLQSrAtDecRn n s
  | .stcLQGbrAtDecRn n => Sys2Proof.Machine.execStcLQGbrAtDecRn n s
  | .stcLQVbrAtDecRn n => Sys2Proof.Machine.execStcLQVbrAtDecRn n s
  | .stcLQSsrAtDecRn n => Sys2Proof.Machine.execStcLQSsrAtDecRn n s
  | .stcLQSpcAtDecRn n => Sys2Proof.Machine.execStcLQSpcAtDecRn n s
  | .stcLQRmBAtDecRn n b => Sys2Proof.Machine.execStcLQRmBAtDecRn n b s
  | .ldsLQAtRmIncMach m => Sys2Proof.Machine.execLdsLQAtRmIncMach m s
  | .ldsLQAtRmIncMacl m => Sys2Proof.Machine.execLdsLQAtRmIncMacl m s
  | .ldsLQAtRmIncPr m => Sys2Proof.Machine.execLdsLQAtRmIncPr m s
  | .ldcLQAtRmIncSgr m => Sys2Proof.Machine.execLdcLQAtRmIncSgr m s
  | .ldsLQAtRmIncFpul m => Sys2Proof.Machine.execLdsLQAtRmIncFpul m s
  | .ldsLQAtRmIncFpscr m => Sys2Proof.Machine.execLdsLQAtRmIncFpscr m s
  | .ldcLQAtRmIncDbr m => Sys2Proof.Machine.execLdcLQAtRmIncDbr m s
  | .ldcLQAtRmIncSr m => Sys2Proof.Machine.execLdcLQAtRmIncSr m s
  | .ldcLQAtRmIncGbr m => Sys2Proof.Machine.execLdcLQAtRmIncGbr m s
  | .ldcLQAtRmIncVbr m => Sys2Proof.Machine.execLdcLQAtRmIncVbr m s
  | .ldcLQAtRmIncSsr m => Sys2Proof.Machine.execLdcLQAtRmIncSsr m s
  | .ldcLQAtRmIncSpc m => Sys2Proof.Machine.execLdcLQAtRmIncSpc m s
  | .ldcLQAtRmIncRnB m b => Sys2Proof.Machine.execLdcLQAtRmIncRnB m b s
  | .faddFRmFRn n m => Sys2Proof.Machine.execFaddFRmFRn n m s
  | .fsubFRmFRn n m => Sys2Proof.Machine.execFsubFRmFRn n m s
  | .fmulFRmFRn n m => Sys2Proof.Machine.execFmulFRmFRn n m s
  | .fdivFRmFRn n m => Sys2Proof.Machine.execFdivFRmFRn n m s
  | .fcmpeqFRmFRn n m => Sys2Proof.Machine.execFcmpeqFRmFRn n m s
  | .fcmpgtFRmFRn n m => Sys2Proof.Machine.execFcmpgtFRmFRn n m s
  | .fmovSAtR0RmFRn n m => Sys2Proof.Machine.execFmovSAtR0RmFRn n m s
  | .fmovSFRmAtR0Rn n m => Sys2Proof.Machine.execFmovSFRmAtR0Rn n m s
  | .fmovSAtRmFRn n m => Sys2Proof.Machine.execFmovSAtRmFRn n m s
  | .fmovSAtRmIncFRn n m => Sys2Proof.Machine.execFmovSAtRmIncFRn n m s
  | .fmovSFRmAtRn n m => Sys2Proof.Machine.execFmovSFRmAtRn n m s
  | .fmovSFRmAtDecRn n m => Sys2Proof.Machine.execFmovSFRmAtDecRn n m s
  | .fmovFRmFRn n m => Sys2Proof.Machine.execFmovFRmFRn n m s
  | .fstsFRn n => Sys2Proof.Machine.execFstsFRn n s
  | .fldsFRm m => Sys2Proof.Machine.execFldsFRm m s
  | .floatFRn n => Sys2Proof.Machine.execFloatFRn n s
  | .ftrcFRm m => Sys2Proof.Machine.execFtrcFRm m s
  | .fnegFRn n => Sys2Proof.Machine.execFnegFRn n s
  | .fabsFRn n => Sys2Proof.Machine.execFabsFRn n s
  | .fsqrtFRn n => Sys2Proof.Machine.execFsqrtFRn n s
  | .fldi0FRn n => Sys2Proof.Machine.execFldi0FRn n s
  | .fldi1FRn n => Sys2Proof.Machine.execFldi1FRn n s
  | .fcnvsdFRn n => Sys2Proof.Machine.execFcnvsdFRn n s
  | .fcnvdsFRm m => Sys2Proof.Machine.execFcnvdsFRm m s
  | .psetmdImm4 imm => Sys2Proof.Machine.execPsetmdImm4 imm s
  | .fschg => Sys2Proof.Machine.execFschg s
  | .fpchg => Sys2Proof.Machine.execFpchg s
  | .frchg => Sys2Proof.Machine.execFrchg s
  | .fmacFRmFRn n m => Sys2Proof.Machine.execFmacFRmFRn n m s
  | .xvFmovSAtRmRoFRn v o n m => Sys2Proof.Machine.execXvFmovSAtRmRoFRn v o n m s
  | .xvFmovSFRmAtRnRo v o n m => Sys2Proof.Machine.execXvFmovSFRmAtRnRo v o n m s
  | .xvFmovSAtRmDisp4FRn v disp n m => Sys2Proof.Machine.execXvFmovSAtRmDisp4FRn v disp n m s
  | .xvFmovSAtRmIncFRn v n m => Sys2Proof.Machine.execXvFmovSAtRmIncFRn v n m s
  | .xvFmovSFRmAtRnDisp4 v disp n m => Sys2Proof.Machine.execXvFmovSFRmAtRnDisp4 v disp n m s
  | .xvFmovSFRmAtDecRn v n m => Sys2Proof.Machine.execXvFmovSFRmAtDecRn v n m s
  | .xvFmovFRmFRn v n m => Sys2Proof.Machine.execXvFmovFRmFRn v n m s
  | .xPsetmdImm12 imm => Sys2Proof.Machine.execXPsetmdImm12 imm s
  | .xMovBRmAtRnRoDisp4 o disp n m => Sys2Proof.Machine.execXMovBRmAtRnRoDisp4 o disp n m s
  | .xMovWRmAtRnRoDisp4 o disp n m => Sys2Proof.Machine.execXMovWRmAtRnRoDisp4 o disp n m s
  | .xMovLRmAtRnRoDisp4 o disp n m => Sys2Proof.Machine.execXMovLRmAtRnRoDisp4 o disp n m s
  | .xMovQRmAtRnRoDisp4 o disp n m => Sys2Proof.Machine.execXMovQRmAtRnRoDisp4 o disp n m s
  | .xMovBAtRmRoDisp4Rn o disp n m => Sys2Proof.Machine.execXMovBAtRmRoDisp4Rn o disp n m s
  | .xMovWAtRmRoDisp4Rn o disp n m => Sys2Proof.Machine.execXMovWAtRmRoDisp4Rn o disp n m s
  | .xMovLAtRmRoDisp4Rn o disp n m => Sys2Proof.Machine.execXMovLAtRmRoDisp4Rn o disp n m s
  | .xMovQAtRmRoDisp4Rn o disp n m => Sys2Proof.Machine.execXMovQAtRmRoDisp4Rn o disp n m s
  | .xMovLRmAtRnRoDisp8s disp n m o => Sys2Proof.Machine.execXMovLRmAtRnRoDisp8s disp n m o s
  | .xMovLAtRmRoDisp8sRn disp n m o => Sys2Proof.Machine.execXMovLAtRmRoDisp8sRn disp n m o s
  | .xMovBRmAtRnDisp8s disp n m => Sys2Proof.Machine.execXMovBRmAtRnDisp8s disp n m s
  | .xMovWRmAtRnDisp8s disp n m => Sys2Proof.Machine.execXMovWRmAtRnDisp8s disp n m s
  | .xMovLRmAtRnDisp8s disp n m => Sys2Proof.Machine.execXMovLRmAtRnDisp8s disp n m s
  | .xMovQRmAtRnDisp8s disp n m => Sys2Proof.Machine.execXMovQRmAtRnDisp8s disp n m s
  | .xFmovSFRmAtRnDisp8s disp n m => Sys2Proof.Machine.execXFmovSFRmAtRnDisp8s disp n m s
  | .xFmovDDRmAtRnDisp8s disp n m => Sys2Proof.Machine.execXFmovDDRmAtRnDisp8s disp n m s
  | .xFmovSAtRmDisp8sFRn disp n m => Sys2Proof.Machine.execXFmovSAtRmDisp8sFRn disp n m s
  | .xFmovDAtRmDisp8sDRn disp n m => Sys2Proof.Machine.execXFmovDAtRmDisp8sDRn disp n m s
  | .xAndRmImm8Rn imm n m => Sys2Proof.Machine.execXAndRmImm8Rn imm n m s
  | .xXorRmImm8Rn imm n m => Sys2Proof.Machine.execXXorRmImm8Rn imm n m s
  | .xOrRmImm8Rn imm n m => Sys2Proof.Machine.execXOrRmImm8Rn imm n m s
  | .xMullRmImm8Rn imm n m => Sys2Proof.Machine.execXMullRmImm8Rn imm n m s
  | .xCmpeqImm12Rn imm n => Sys2Proof.Machine.execXCmpeqImm12Rn imm n s
  | .xCmphsImm12Rn imm n => Sys2Proof.Machine.execXCmphsImm12Rn imm n s
  | .xCmpgeImm12Rn imm n => Sys2Proof.Machine.execXCmpgeImm12Rn imm n s
  | .xCmphiImm12Rn imm n => Sys2Proof.Machine.execXCmphiImm12Rn imm n s
  | .xCmpgtImm12Rn imm n => Sys2Proof.Machine.execXCmpgtImm12Rn imm n s
  | .xSubRmImm8Rn imm n m => Sys2Proof.Machine.execXSubRmImm8Rn imm n m s
  | .xAddRmImm8Rn imm n m => Sys2Proof.Machine.execXAddRmImm8Rn imm n m s
  | .xMovBImmAtRn imm n => Sys2Proof.Machine.execXMovBImmAtRn imm n s
  | .xMovWImmAtRn imm n => Sys2Proof.Machine.execXMovWImmAtRn imm n s
  | .xMovLImmAtRn imm n => Sys2Proof.Machine.execXMovLImmAtRn imm n s
  | .xMovQImmAtRn imm n => Sys2Proof.Machine.execXMovQImmAtRn imm n s
  | .xMovBImmAtDecRn imm n => Sys2Proof.Machine.execXMovBImmAtDecRn imm n s
  | .xMovWImmAtDecRn imm n => Sys2Proof.Machine.execXMovWImmAtDecRn imm n s
  | .xMovLImmAtDecRn imm n => Sys2Proof.Machine.execXMovLImmAtDecRn imm n s
  | .xMovQImmAtDecRn imm n => Sys2Proof.Machine.execXMovQImmAtDecRn imm n s
  | .xShadRmImmRn imm n m => Sys2Proof.Machine.execXShadRmImmRn imm n m s
  | .xShldRmImmRn imm n m => Sys2Proof.Machine.execXShldRmImmRn imm n m s
  | .xMovBAtRmDisp8sRn disp n m => Sys2Proof.Machine.execXMovBAtRmDisp8sRn disp n m s
  | .xMovWAtRmDisp8sRn disp n m => Sys2Proof.Machine.execXMovWAtRmDisp8sRn disp n m s
  | .xMovLAtRmDisp8sRn disp n m => Sys2Proof.Machine.execXMovLAtRmDisp8sRn disp n m s
  | .xMovQAtRmDisp8sRn disp n m => Sys2Proof.Machine.execXMovQAtRmDisp8sRn disp n m s
  | .xLeaBAtRmRoDisp4Rn o disp n m => Sys2Proof.Machine.execXLeaBAtRmRoDisp4Rn o disp n m s
  | .xLeaWAtRmRoDisp4Rn o disp n m => Sys2Proof.Machine.execXLeaWAtRmRoDisp4Rn o disp n m s
  | .xLeaLAtRmRoDisp4Rn o disp n m => Sys2Proof.Machine.execXLeaLAtRmRoDisp4Rn o disp n m s
  | .xLeaQAtRmRoDisp4Rn o disp n m => Sys2Proof.Machine.execXLeaQAtRmRoDisp4Rn o disp n m s
  | .xLeaBAtRmDisp8sRn disp n m => Sys2Proof.Machine.execXLeaBAtRmDisp8sRn disp n m s
  | .xLeaWAtRmDisp8sRn disp n m => Sys2Proof.Machine.execXLeaWAtRmDisp8sRn disp n m s
  | .xLeaLAtRmDisp8sRn disp n m => Sys2Proof.Machine.execXLeaLAtRmDisp8sRn disp n m s
  | .xLeaQAtRmDisp8sRn disp n m => Sys2Proof.Machine.execXLeaQAtRmDisp8sRn disp n m s
  | .xMovuBAtRmDisp8sRn disp n m => Sys2Proof.Machine.execXMovuBAtRmDisp8sRn disp n m s
  | .xMovuWAtRmDisp8sRn disp n m => Sys2Proof.Machine.execXMovuWAtRmDisp8sRn disp n m s
  | .xMovuLAtRmDisp8sRn disp n m => Sys2Proof.Machine.execXMovuLAtRmDisp8sRn disp n m s
  | .xAddImm16Rn imm n => Sys2Proof.Machine.execXAddImm16Rn imm n s
  | .xBranDisp16 disp => Sys2Proof.Machine.execXBranDisp16 disp s
  | .xBsrnDisp16 disp => Sys2Proof.Machine.execXBsrnDisp16 disp s
  | .xCmpeqImm16R0 imm => Sys2Proof.Machine.execXCmpeqImm16R0 imm s
  | .xBtDisp16 disp => Sys2Proof.Machine.execXBtDisp16 disp s
  | .xLdhf16ImmFpul imm => Sys2Proof.Machine.execXLdhf16ImmFpul imm s
  | .xBfDisp16 disp => Sys2Proof.Machine.execXBfDisp16 disp s
  | .xLdsh16ImmR0 imm => Sys2Proof.Machine.execXLdsh16ImmR0 imm s
  | .xBtsDisp16 disp => Sys2Proof.Machine.execXBtsDisp16 disp s
  | .xBfsDisp16 disp => Sys2Proof.Machine.execXBfsDisp16 disp s
  | .xMovaAtPcDisp13Rn disp n => Sys2Proof.Machine.execXMovaAtPcDisp13Rn disp n s
  | .xMovuWAtPcDisp13Rn disp n => Sys2Proof.Machine.execXMovuWAtPcDisp13Rn disp n s
  | .xFmovSAtPcDisp13FRn disp n => Sys2Proof.Machine.execXFmovSAtPcDisp13FRn disp n s
  | .xMovuWAtPcDisp13RHn disp n => Sys2Proof.Machine.execXMovuWAtPcDisp13RHn disp n s
  | .xFmovSAtPcDisp13XFn disp n => Sys2Proof.Machine.execXFmovSAtPcDisp13XFn disp n s
  | .xMovuWAtPcDisp13RQn disp n => Sys2Proof.Machine.execXMovuWAtPcDisp13RQn disp n s
  | .xFmovDAtPcDisp13YDn disp n => Sys2Proof.Machine.execXFmovDAtPcDisp13YDn disp n s
  | .xFmovDAtPcDisp13DRn disp n => Sys2Proof.Machine.execXFmovDAtPcDisp13DRn disp n s
  | .xBraDisp20 disp => Sys2Proof.Machine.execXBraDisp20 disp s
  | .xBsrDisp20 disp => Sys2Proof.Machine.execXBsrDisp20 disp s
  | .xTstImm12Rn imm n => Sys2Proof.Machine.execXTstImm12Rn imm n s
  | .xAndImm12Rn imm n => Sys2Proof.Machine.execXAndImm12Rn imm n s
  | .xXorImm12Rn imm n => Sys2Proof.Machine.execXXorImm12Rn imm n s
  | .xOrImm12Rn imm n => Sys2Proof.Machine.execXOrImm12Rn imm n s
  | .xMovLAtPcDisp13Rn disp n => Sys2Proof.Machine.execXMovLAtPcDisp13Rn disp n s
  | .xMovWAtPcDisp13Rn disp n => Sys2Proof.Machine.execXMovWAtPcDisp13Rn disp n s
  | .xMovLAtPcDisp13RHn disp n => Sys2Proof.Machine.execXMovLAtPcDisp13RHn disp n s
  | .xMovWAtPcDisp13RHn disp n => Sys2Proof.Machine.execXMovWAtPcDisp13RHn disp n s
  | .xMovLAtPcDisp13RQn disp n => Sys2Proof.Machine.execXMovLAtPcDisp13RQn disp n s
  | .xMovWAtPcDisp13RQn disp n => Sys2Proof.Machine.execXMovWAtPcDisp13RQn disp n s
  | .xMovuLAtPcDisp13RQn disp n => Sys2Proof.Machine.execXMovuLAtPcDisp13RQn disp n s
  | .xMovQAtPcDisp13RQn disp n => Sys2Proof.Machine.execXMovQAtPcDisp13RQn disp n s
  | .xMovImm16Rn imm n => Sys2Proof.Machine.execXMovImm16Rn imm n s
  | .oMovLRmAtRnDisp5 nx mx bx n m disp => Sys2Proof.Machine.execOMovLRmAtRnDisp5 nx mx bx n m disp s
  | .oMovQRmAtRnDisp5 nx mx bx n m disp => Sys2Proof.Machine.execOMovQRmAtRnDisp5 nx mx bx n m disp s
  | .oMovBRmAtRn q nx mx bx n m => Sys2Proof.Machine.execOMovBRmAtRn q nx mx bx n m s
  | .oMovWRmAtRn q nx mx bx n m => Sys2Proof.Machine.execOMovWRmAtRn q nx mx bx n m s
  | .oMovLRmAtRn q nx mx bx n m => Sys2Proof.Machine.execOMovLRmAtRn q nx mx bx n m s
  | .oMovBRmAtDecRn q nx mx bx n m => Sys2Proof.Machine.execOMovBRmAtDecRn q nx mx bx n m s
  | .oMovWRmAtDecRn q nx mx bx n m => Sys2Proof.Machine.execOMovWRmAtDecRn q nx mx bx n m s
  | .oMovLRmAtDecRn q nx mx bx n m => Sys2Proof.Machine.execOMovLRmAtDecRn q nx mx bx n m s
  | .oTstRmRn q nx mx bx n m => Sys2Proof.Machine.execOTstRmRn q nx mx bx n m s
  | .oAndRmRn q nx mx bx n m => Sys2Proof.Machine.execOAndRmRn q nx mx bx n m s
  | .oXorRmRn q nx mx bx n m => Sys2Proof.Machine.execOXorRmRn q nx mx bx n m s
  | .oOrRmRn q nx mx bx n m => Sys2Proof.Machine.execOOrRmRn q nx mx bx n m s
  | .oCmpeqRmRn q nx mx bx n m => Sys2Proof.Machine.execOCmpeqRmRn q nx mx bx n m s
  | .oCmphsRmRn q nx mx bx n m => Sys2Proof.Machine.execOCmphsRmRn q nx mx bx n m s
  | .oCmpgeRmRn q nx mx bx n m => Sys2Proof.Machine.execOCmpgeRmRn q nx mx bx n m s
  | .oCmphiRmRn q nx mx bx n m => Sys2Proof.Machine.execOCmphiRmRn q nx mx bx n m s
  | .oCmpgtRmRn q nx mx bx n m => Sys2Proof.Machine.execOCmpgtRmRn q nx mx bx n m s
  | .oSubRmRn q nx mx bx n m => Sys2Proof.Machine.execOSubRmRn q nx mx bx n m s
  | .oSubcRmRn q nx mx bx n m => Sys2Proof.Machine.execOSubcRmRn q nx mx bx n m s
  | .oSubvRmRn q nx mx bx n m => Sys2Proof.Machine.execOSubvRmRn q nx mx bx n m s
  | .oAddRmRn q nx mx bx n m => Sys2Proof.Machine.execOAddRmRn q nx mx bx n m s
  | .oAddcRmRn q nx mx bx n m => Sys2Proof.Machine.execOAddcRmRn q nx mx bx n m s
  | .oAddvRmRn q nx mx bx n m => Sys2Proof.Machine.execOAddvRmRn q nx mx bx n m s
  | .oMovLAtRmDisp5Rn nx mx bx n m disp => Sys2Proof.Machine.execOMovLAtRmDisp5Rn nx mx bx n m disp s
  | .oMovQAtRmDisp5Rn nx mx bx n m disp => Sys2Proof.Machine.execOMovQAtRmDisp5Rn nx mx bx n m disp s
  | .oMovBAtRmRn q nx mx bx n m => Sys2Proof.Machine.execOMovBAtRmRn q nx mx bx n m s
  | .oMovWAtRmRn q nx mx bx n m => Sys2Proof.Machine.execOMovWAtRmRn q nx mx bx n m s
  | .oMovLAtRmRn q nx mx bx n m => Sys2Proof.Machine.execOMovLAtRmRn q nx mx bx n m s
  | .oMovRmRn q nx mx bx n m => Sys2Proof.Machine.execOMovRmRn q nx mx bx n m s
  | .oMovBAtRmIncRn q nx mx bx n m => Sys2Proof.Machine.execOMovBAtRmIncRn q nx mx bx n m s
  | .oMovWAtRmIncRn q nx mx bx n m => Sys2Proof.Machine.execOMovWAtRmIncRn q nx mx bx n m s
  | .oMovLAtRmIncRn q nx mx bx n m => Sys2Proof.Machine.execOMovLAtRmIncRn q nx mx bx n m s
  | .oNotRmRn q nx mx bx n m => Sys2Proof.Machine.execONotRmRn q nx mx bx n m s
  | .oNegcRmRn q nx mx bx n m => Sys2Proof.Machine.execONegcRmRn q nx mx bx n m s
  | .oNegRmRn q nx mx bx n m => Sys2Proof.Machine.execONegRmRn q nx mx bx n m s
  | .oExtuBRmRn q nx mx bx n m => Sys2Proof.Machine.execOExtuBRmRn q nx mx bx n m s
  | .oExtuWRmRn q nx mx bx n m => Sys2Proof.Machine.execOExtuWRmRn q nx mx bx n m s
  | .oExtsBRmRn q nx mx bx n m => Sys2Proof.Machine.execOExtsBRmRn q nx mx bx n m s
  | .oExtsWRmRn q nx mx bx n m => Sys2Proof.Machine.execOExtsWRmRn q nx mx bx n m s
  | .oMovImm10Rn q nx mx bx n imm => Sys2Proof.Machine.execOMovImm10Rn q nx mx bx n imm s
  | .tAddRsRtRn nx sx tx n rs rt => Sys2Proof.Machine.execTAddRsRtRn nx sx tx n rs rt s
  | .tAddRsRtRnQuad n rs rt => Sys2Proof.Machine.execTAddRsRtRnQuad n rs rt s
  | .tAddLRsImm5Rn tx n rs rt => Sys2Proof.Machine.execTAddLRsImm5Rn tx n rs rt s
  | .tAddQRsImm6Rn sx tx n rs rt => Sys2Proof.Machine.execTAddQRsImm6Rn sx tx n rs rt s
  | .tSubRsRtRn nx sx tx n rs rt => Sys2Proof.Machine.execTSubRsRtRn nx sx tx n rs rt s
  | .tSubRsRtRnQuad n rs rt => Sys2Proof.Machine.execTSubRsRtRnQuad n rs rt s
  | .tSubLRsImm5Rn tx n rs rt => Sys2Proof.Machine.execTSubLRsImm5Rn tx n rs rt s
  | .tSubQRsImm6Rn sx tx n rs rt => Sys2Proof.Machine.execTSubQRsImm6Rn sx tx n rs rt s
  | .tMulRsRtRn nx sx tx n rs rt => Sys2Proof.Machine.execTMulRsRtRn nx sx tx n rs rt s
  | .tMulRsRtRnQuad n rs rt => Sys2Proof.Machine.execTMulRsRtRnQuad n rs rt s
  | .tAndRsRtRn nx sx tx n rs rt => Sys2Proof.Machine.execTAndRsRtRn nx sx tx n rs rt s
  | .tAndRsRtRnQuad n rs rt => Sys2Proof.Machine.execTAndRsRtRnQuad n rs rt s
  | .tOrRsRtRn nx sx tx n rs rt => Sys2Proof.Machine.execTOrRsRtRn nx sx tx n rs rt s
  | .tOrRsRtRnQuad n rs rt => Sys2Proof.Machine.execTOrRsRtRnQuad n rs rt s
  | .tXorRsRtRn nx sx tx n rs rt => Sys2Proof.Machine.execTXorRsRtRn nx sx tx n rs rt s
  | .tXorRsRtRnQuad n rs rt => Sys2Proof.Machine.execTXorRsRtRnQuad n rs rt s
  | .tShllRsRtRn nx sx tx n rs rt => Sys2Proof.Machine.execTShllRsRtRn nx sx tx n rs rt s
  | .tShllRsRtRnQuad n rs rt => Sys2Proof.Machine.execTShllRsRtRnQuad n rs rt s
  | .tShllLRsImm5Rn tx n rs rt => Sys2Proof.Machine.execTShllLRsImm5Rn tx n rs rt s
  | .tShllQRsImm6Rn sx tx n rs rt => Sys2Proof.Machine.execTShllQRsImm6Rn sx tx n rs rt s
  | .tShlrRsRtRn nx sx tx n rs rt => Sys2Proof.Machine.execTShlrRsRtRn nx sx tx n rs rt s
  | .tShlrRsRtRnQuad n rs rt => Sys2Proof.Machine.execTShlrRsRtRnQuad n rs rt s
  | .tShlrLRsImm5Rn tx n rs rt => Sys2Proof.Machine.execTShlrLRsImm5Rn tx n rs rt s
  | .tShlrQRsImm6Rn sx tx n rs rt => Sys2Proof.Machine.execTShlrQRsImm6Rn sx tx n rs rt s
  | .tSharRsRtRn nx sx tx n rs rt => Sys2Proof.Machine.execTSharRsRtRn nx sx tx n rs rt s
  | .tSharRsRtRnQuad n rs rt => Sys2Proof.Machine.execTSharRsRtRnQuad n rs rt s
  | .tSharLRsImm5Rn tx n rs rt => Sys2Proof.Machine.execTSharLRsImm5Rn tx n rs rt s
  | .tSharQRsImm6Rn sx tx n rs rt => Sys2Proof.Machine.execTSharQRsImm6Rn sx tx n rs rt s
  | .tFaddFRsFRtFRn q nx sx tx n rs rt => Sys2Proof.Machine.execTFaddFRsFRtFRn q nx sx tx n rs rt s
  | .tFsubFRsFRtFRn q nx sx tx n rs rt => Sys2Proof.Machine.execTFsubFRsFRtFRn q nx sx tx n rs rt s
  | .tFmulFRsFRtFRn q nx sx tx n rs rt => Sys2Proof.Machine.execTFmulFRsFRtFRn q nx sx tx n rs rt s
  | .tFdivFRsFRtFRn q nx sx tx n rs rt => Sys2Proof.Machine.execTFdivFRsFRtFRn q nx sx tx n rs rt s
  | .movi24Imm24R0 imm => Sys2Proof.Machine.execMovi24Imm24R0 imm s
  | .movi20ImmRn n imm => Sys2Proof.Machine.execMovi20ImmRn n imm s
  | .movi20sImmRn n imm => Sys2Proof.Machine.execMovi20sImmRn n imm s
  | .wMovBRmAtRnDisp n m disp => Sys2Proof.Machine.execWMovBRmAtRnDisp n m disp s
  | .wMovWRmAtRnDisp n m disp => Sys2Proof.Machine.execWMovWRmAtRnDisp n m disp s
  | .wMovLRmAtRnDisp n m disp => Sys2Proof.Machine.execWMovLRmAtRnDisp n m disp s
  | .wFmovSFRmAtRnDisp n m disp => Sys2Proof.Machine.execWFmovSFRmAtRnDisp n m disp s
  | .wMovBAtRmDispRn n m disp => Sys2Proof.Machine.execWMovBAtRmDispRn n m disp s
  | .wMovWAtRmDispRn n m disp => Sys2Proof.Machine.execWMovWAtRmDispRn n m disp s
  | .wMovLAtRmDispRn n m disp => Sys2Proof.Machine.execWMovLAtRmDispRn n m disp s
  | .wFmovSAtRmDispFRn n m disp => Sys2Proof.Machine.execWFmovSAtRmDispFRn n m disp s
  | .wMovuBAtRmDispRn n m disp => Sys2Proof.Machine.execWMovuBAtRmDispRn n m disp s
  | .wMovuWAtRmDispRn n m disp => Sys2Proof.Machine.execWMovuWAtRmDispRn n m disp s
  | .zAddQImm48Rn n imm => Sys2Proof.Machine.execZAddQImm48Rn n imm s
  | .zBraDisp48 disp => Sys2Proof.Machine.execZBraDisp48 disp s
  | .zBsrDisp48 disp => Sys2Proof.Machine.execZBsrDisp48 disp s
  | .zMovQImm48Rn n imm => Sys2Proof.Machine.execZMovQImm48Rn n imm s
  | .resXpfx1 p => Sys2Proof.Machine.execResXpfx1 p s
  | .resXpfx3 p => Sys2Proof.Machine.execResXpfx3 p s
  | .resXpfx4 p => Sys2Proof.Machine.execResXpfx4 p s
  | .resXpfx5 p => Sys2Proof.Machine.execResXpfx5 p s
  | .resXpfy0 p => Sys2Proof.Machine.execResXpfy0 p s
  | .resXpfy1 p => Sys2Proof.Machine.execResXpfy1 p s
  | .resXpfz1 p => Sys2Proof.Machine.execResXpfz1 p s
  | .resXpfv0 p => Sys2Proof.Machine.execResXpfv0 p s
  | .res3xx9 p => Sys2Proof.Machine.execRes3xx9 p s
  | .res8C1x p => Sys2Proof.Machine.execRes8C1x p s
  | .res8C2x p => Sys2Proof.Machine.execRes8C2x p s
  | .res8C4x p => Sys2Proof.Machine.execRes8C4x p s
  | .res8C5x p => Sys2Proof.Machine.execRes8C5x p s
  | .res8C6x p => Sys2Proof.Machine.execRes8C6x p s
  | .res8C7x p => Sys2Proof.Machine.execRes8C7x p s
  | .res8C8x p => Sys2Proof.Machine.execRes8C8x p s
  | .resTacb9 p r => Sys2Proof.Machine.execResTacb9 p r s
  | .resTacbA p r => Sys2Proof.Machine.execResTacbA p r s
  | .resTacbB p r => Sys2Proof.Machine.execResTacbB p r s

end Sys2Proof.Machine
end

