-- ==== Sys2Proof/Machine/Fetch.lean ====
section
/-! DEFINITION. Machine/Fetch.lean: what a step does before it executes an instruction (rule R970, points 2 to 7):
accepting an interrupt, fetching and decoding; and how the host places an instruction where the next step fetches.
The functions that build an `Instr` are noncomputable: Lean's code generator has no room for so many constructors
(log 31). The kernel evaluates them. -/
namespace Sys2Proof.Machine

/-! ### Interrupts -/

/-- The highest set bit of `v` among bits 1 to `n`, 0 if none (rule R997). -/
def topLevel (v : BitVec 16) : Nat → Nat
  | 0 => 0
  | n + 1 => if v.getLsbD (n + 1) then n + 1 else topLevel v n

/-- The highest pending level: NMI counts as 16 (rules R995, R997). -/
def Irq.level (i : Irq) : Nat := if i.nmi then 16 else topLevel i.levels 15

/-- The level of the interrupt that is acceptable now, if any (rule R996). -/
def State.acceptable (s : State) : Option Nat :=
  if s.ds.isSome || s.bl then none
  else if s.im.toNat < s.irq.level then some s.irq.level
  else none

/-- The trap entry of an accepted interrupt (rules R982 (d), R996). -/
def State.takeInterrupt (s : State) (level : Nat) : State :=
  s.trapEntry (if level = 16 then .nmi else .interrupt) false (BitVec.ofNat 64 level) s.pcn

/-! ### Fetch and decode -/

/-- Whether a first word belongs to MOVI20, MOVI20S or the `3nm1` group (rule R967). -/
def isMisc32 (w : IWord) : Bool :=
  (nib w 3 == 0 && (nib w 0 == 0 || nib w 0 == 1)) || (nib w 3 == 3 && nib w 0 == 1)

/-- Whether a first word is an XPFZ0 prefix, for a core with JQ = 1 (rule R960). -/
def isXpfz0 (w : IWord) : Bool := nib w 3 == 0xC && nib w 2 == 0xE

/-- Whether the first word alone raises an illegal instruction, other than by a reserved prefix: a wide form in a
delay slot, or a form that no parameter enables (rule R970 (5), log 29). -/
def State.firstWordIllegal (s : State) (w : IWord) : Bool :=
  (s.ds.isSome && lengthOf s.jq w != 2) ||
    (!s.cfg.hasMisc32 && isMisc32 w) ||
    (s.jq && isXpfz0 w && (!s.cfg.hasXpfz0 || unallocatedXpfz0 w))

/-- A fetch that did not give an instruction: the first word if it was read, the state reached and why. -/
structure NoFetch where
  word : IWord
  state : State
  stop : Stop
  deriving DecidableEq, Repr

/-- The words of a wide form after its first, fetched in address order (rules R136, R970 (6)). -/
def State.fetchRest (s : State) (addr : Quad) : Nat → Except (State × Stop) (List IWord × State)
  | 0 => .ok ([], s)
  | n + 1 =>
    match s.fetch16 addr with
    | .error e => .error (s, e)
    | .ok (w, s') =>
      match State.fetchRest s' (addr + 2) n with
      | .error e => .error e
      | .ok (ws, s'') => .ok (w :: ws, s'')

/-- The instruction at PC, decoded, with the state after the fetches (rule R970, points 4 to 7). -/
noncomputable def State.fetchInstr (s : State) : Except NoFetch (Instr × State) :=
  match s.fetch16 s.pcn with
  | .error e => .error ⟨0, s, e⟩
  | .ok (w0, s1) =>
    if s.firstWordIllegal w0 then .error ⟨w0, s1, .exc .illegal⟩
    else
      match reservedFirst s.jq w0 with
      | some i => .ok (i, s1)
      | none =>
        match s1.fetchRest (s.pcn + 2) (lengthOf s.jq w0 / 2 - 1) with
        | .error (s2, e) => .error ⟨w0, s2, e⟩
        | .ok (ws, s2) =>
          match decodeWords s.jq (w0 :: ws) with
          | .ok i => .ok (i, s2)
          | .reject _ => .error ⟨w0, s2, .exc .illegal⟩

/-! ### Placing an instruction for the next step -/

/-- Bytes written at consecutive physical addresses. -/
def writeBytes (m : Memory) (p : Nat) : List Byte → Memory
  | [] => m
  | b :: rest => writeBytes (Memory.write m p b) (p + 1) rest

/-- Whether JQ decides what a 16-bit or wide first word means: `C0` to `C2`, `C4` to `C6`, `CC` to `CF`
(rule R187). -/
def dependsOnJq (w : IWord) : Bool :=
  nib w 3 == 0xC && nib w 2 != 3 && ((nib w 2).toNat < 7 || 11 < (nib w 2).toNat)

/-- The state in which the next step fetches and nothing is pending: no slot, no sleep, no reset request, no
interrupt; JQ as the table word needs it (rule R187, log 7). -/
def State.readyToFetch (s : State) (nbits : Nat) (w0 : IWord) : State :=
  let s' := { s with ds := none, sleeping := false, resetReq := false, irq := ⟨0, false⟩ }
  if dependsOnJq w0 && s.is64 then s'.setSrBit 31 (nbits != 16) else s'

/-- Whether a stored event is of one of the eight bytes at `p`. -/
def CacheEvent.inPlace (p : Nat) : CacheEvent → Bool
  | .stored q _ => decide (p ≤ q ∧ q < p + 8)
  | .icbi _ _ => false

/-- Four words loaded where the next step fetches, as if they had been there at reset: not stale, and no store to them
remembered. -/
def State.placeWords (s : State) (ws : List IWord) : State :=
  match s.resolve .fetch s.md 2 s.pcn with
  | .ok p =>
    { s with
      mem := writeBytes s.mem p (ws.flatMap (wordBytes s.cfg.endian))
      stale := s.stale.filter fun c => !(decide (s.pcn.toNat ≤ c ∧ c < s.pcn.toNat + 8))
      history := s.history.filter fun e => !e.inPlace p }
  | .error _ => s

end Sys2Proof.Machine
end

