-- ==== Sys2Proof/Machine/Step.lean ====
section
/-! DEFINITION. Machine/Step.lean: one step of the machine, and the state whose next step runs a given instruction. -/
namespace Sys2Proof.Machine

/-- One step of the machine (rule R970): reset, an acceptable interrupt, sleep, or one instruction. -/
noncomputable def step (s : State) : Host.Outcome State Fault Refusal :=
  if s.resetReq then .next (s.performReset)
  else
    match s.acceptable with
    | some level => .next (s.takeInterrupt level)
    | none =>
      if s.sleeping then .next s
      else
        match s.fetchInstr with
        | .ok (i, s') => exec i s'
        | .error x => settle x.word x.state (.error x.stop)

/-- The same state with the table word `w` of `nbits` bits where the next step fetches (logs 6, 7). -/
def State.withFetchWord (s : State) (nbits w : Nat) : State :=
  (s.readyToFetch nbits ((tableWords nbits w).headD 0)).placeWords (tableWords nbits w)

end Sys2Proof.Machine
end

