-- ==== Sys2Proof/WellFormed.lean ====
section
/-! DEFINITION. WellFormed.lean: which instructions have operands that the spec allows whatever the state is, and
which rows a mode selects. The field widths are in the types of Syntax.lean; what remains are the operand checks of
rules R690, R697, R698, R699 and R861, and the mode column of the opcode table (rules R187, R230). -/
namespace Sys2Proof

/-- Rule R861 (b), (e) for data registers: no extension bit at `Q = 1`, and `B = 0`. -/
def wfData (q nx mx bx : Bool) : Bool := !(q && (nx || mx)) && !bx

/-- Rule R861 (b), (d) for an address register with extension bit `ax` and a data register with `dx`. -/
def wfAddress (q ax dx : Bool) : Bool := !(q && dx) && !ax

/-- Rule R690: a transfer kind that exists, and bit 4 of the address register 0. -/
def wfTransfer (v : BitVec 4) (addressBit : Bool) : Bool := v.extractLsb' 2 2 != 3 && !addressBit

/-- Rules R697, R698: bit 5 of both registers 0, a row that exists, bit 4 of a whole general register 0. -/
def wfMove (v : BitVec 8) : Bool :=
  !v.getLsbD 3 && !v.getLsbD 1 &&
    match (v.extractLsb' 4 4).toNat with
    | 0x0 => true
    | 0x3 => true
    | 0x5 => true
    | 0x7 => !v.getLsbD 0
    | 0x8 => true
    | 0xA => !v.getLsbD 2 && !v.getLsbD 0
    | 0xC => true
    | 0xD => !v.getLsbD 2
    | _ => false

/-- Whether the operands of an instruction pass every operand check that does not depend on the state. -/
def wellFormed : Instr → Bool
  | .movRmRn _ _ => true
  | .movImmRn _ _ => true
  | .movBRmAtRn _ _ => true
  | .movWQRmAtRn _ _ => true
  | .movLRmAtRn _ _ => true
  | .movBAtRmRn _ _ => true
  | .movWQAtRmRn _ _ => true
  | .movLAtRmRn _ _ => true
  | .movBRmAtDecRn _ _ => true
  | .movWQRmAtDecRn _ _ => true
  | .movLRmAtDecRn _ _ => true
  | .movBAtRmIncRn _ _ => true
  | .movWQAtRmIncRn _ _ => true
  | .movLAtRmIncRn _ _ => true
  | .movBRmAtR0Rn _ _ => true
  | .movWQRmAtR0Rn _ _ => true
  | .movLRmAtR0Rn _ _ => true
  | .movBAtR0RmRn _ _ => true
  | .movWQAtR0RmRn _ _ => true
  | .movLAtR0RmRn _ _ => true
  | .movLRmAtRnDisp _ _ _ => true
  | .movLAtRmDispRn _ _ _ => true
  | .movBR0AtRnDisp _ _ => true
  | .movWQR0AtRnDisp _ _ => true
  | .movBAtRmDispR0 _ _ => true
  | .movWQAtRmDispR0 _ _ => true
  | .movWQAtPcDispRn _ _ => true
  | .movLAtPcDispRn _ _ => true
  | .movaAtPcDispR0 _ => true
  | .movBR0AtGbrDisp _ => true
  | .movWQR0AtGbrDisp _ => true
  | .movLR0AtGbrDisp _ => true
  | .movBAtGbrDispR0 _ => true
  | .movWQAtGbrDispR0 _ => true
  | .movLAtGbrDispR0 _ => true
  | .movBR0AtRnInc _ => true
  | .movWQR0AtRnInc _ => true
  | .movLR0AtRnInc _ => true
  | .movBAtDecRmR0 _ => true
  | .movWQAtDecRmR0 _ => true
  | .movLAtDecRmR0 _ => true
  | .pushLQRm _ => true
  | .popLQRn _ => true
  | .movQWAtR0Rn _ => true
  | .movQWRmAtR0 _ => true
  | .movuaLAtRmR0 _ => true
  | .movuaLAtRmIncR0 _ => true
  | .movuaLR0AtRm _ => true
  | .movuaLR0AtDecRm _ => true
  | .movtRn _ => true
  | .movrtRn _ => true
  | .swapBRmRn _ _ => true
  | .swapWRmRn _ _ => true
  | .xtrctRmRn _ _ => true
  | .movLAtPcIncRn _ => true
  | .movQAtPcIncRn _ => true
  | .addRmRn _ _ => true
  | .addImmRn _ _ => true
  | .addcRmRn _ _ => true
  | .addvRmRn _ _ => true
  | .subRmRn _ _ => true
  | .subcRmRn _ _ => true
  | .subvRmRn _ _ => true
  | .negRmRn _ _ => true
  | .negcRmRn _ _ => true
  | .cmpeqRmRn _ _ => true
  | .cmphsRmRn _ _ => true
  | .cmpgeRmRn _ _ => true
  | .cmphiRmRn _ _ => true
  | .cmpgtRmRn _ _ => true
  | .cmppzRn _ => true
  | .cmpplRn _ => true
  | .cmpstrRmRn _ _ => true
  | .cmpeqImmR0 _ => true
  | .dtRn _ => true
  | .extsBRmRn _ _ => true
  | .extsWRmRn _ _ => true
  | .extuBRmRn _ _ => true
  | .extuWRmRn _ _ => true
  | .mulLRmRn _ _ => true
  | .muluWQRmRn _ _ => true
  | .mulsWQRmRn _ _ => true
  | .dmuluLRmRn _ _ => true
  | .dmulsLRmRn _ _ => true
  | .div0sRmRn _ _ => true
  | .div0u => true
  | .div1RmRn _ _ => true
  | .divuR0Rn _ => true
  | .divsR0Rn _ => true
  | .macLAtRmIncAtRnInc _ _ => true
  | .macWQAtRmIncAtRnInc _ _ => true
  | .andRmRn _ _ => true
  | .andImmR0 _ => true
  | .andBImmAtGbrR0 _ => true
  | .orRmRn _ _ => true
  | .orImmR0 _ => true
  | .orBImmAtGbrR0 _ => true
  | .xorRmRn _ _ => true
  | .xorImmR0 _ => true
  | .xorBImmAtGbrR0 _ => true
  | .tstRmRn _ _ => true
  | .tstImmR0 _ => true
  | .tstBImmAtGbrR0 _ => true
  | .notRmRn _ _ => true
  | .tasBAtRn _ => true
  | .shadRmRn _ _ => true
  | .shldRmRn _ _ => true
  | .shllRn _ => true
  | .shalRn _ => true
  | .shlrRn _ => true
  | .sharRn _ => true
  | .rotlRn _ => true
  | .rotrRn _ => true
  | .rotclRn _ => true
  | .rotcrRn _ => true
  | .shll2Rn _ => true
  | .shll8Rn _ => true
  | .shll16Rn _ => true
  | .shlr2Rn _ => true
  | .shlr8Rn _ => true
  | .shlr16Rn _ => true
  | .shll4Rn _ => true
  | .shlr4Rn _ => true
  | .shll32Rn _ => true
  | .shlr32Rn _ => true
  | .rot32Rn _ => true
  | .movhiR0RHn _ => true
  | .movhiRHmR0 _ => true
  | .extuLRn _ => true
  | .extsLRn _ => true
  | .bt _ => true
  | .bf _ => true
  | .bts _ => true
  | .bfs _ => true
  | .bra _ => true
  | .bsr _ => true
  | .brafRm _ => true
  | .bsrfRm _ => true
  | .jmpAtRm _ => true
  | .jsrAtRm _ => true
  | .rts => true
  | .rtsn => true
  | .rtvnRm _ => true
  | .jsrnRm _ => true
  | .stcSrRn _ => true
  | .stcGbrRn _ => true
  | .stcVbrRn _ => true
  | .stcSsrRn _ => true
  | .stcSpcRn _ => true
  | .stcRmBRn _ _ => true
  | .stcSgrRn _ => true
  | .stcDbrRn _ => true
  | .stsMachRn _ => true
  | .stsMaclRn _ => true
  | .stsPrRn _ => true
  | .stsFpulRn _ => true
  | .stsFpscrRn _ => true
  | .ldcRmSr _ => true
  | .ldcRmGbr _ => true
  | .ldcRmVbr _ => true
  | .ldcRmSsr _ => true
  | .ldcRmSpc _ => true
  | .ldcRmRnB _ _ => true
  | .ldcRmSgr _ => true
  | .ldcRmDbr _ => true
  | .ldsRmMach _ => true
  | .ldsRmMacl _ => true
  | .ldsRmPr _ => true
  | .iclrmdDQ => true
  | .iclrmdJQ => true
  | .iclrmdJDQ => true
  | .isetmdDQ => true
  | .isetmdJQ => true
  | .isetmdJDQ => true
  | .ldsRmFpul _ => true
  | .ldsRmFpscr _ => true
  | .clrt => true
  | .sett => true
  | .clrs => true
  | .sets => true
  | .nott => true
  | .clrmac => true
  | .nop _ => true
  | .trapaImm _ => true
  | .rte => true
  | .sleep => true
  | .brk => true
  | .ldtlb => true
  | .resbank => true
  | .synco => true
  | .prefAtRn _ => true
  | .movcaLR0AtRn _ => true
  | .icbiAtRn _ => true
  | .casLRmRnAtR0 _ _ => true
  | .stsLQMachAtDecRn _ => true
  | .stsLQMaclAtDecRn _ => true
  | .stsLQPrAtDecRn _ => true
  | .stcLQSgrAtDecRn _ => true
  | .stsLQFpulAtDecRn _ => true
  | .stsLQFpscrAtDecRn _ => true
  | .stcLQDbrAtDecRn _ => true
  | .stcLQSrAtDecRn _ => true
  | .stcLQGbrAtDecRn _ => true
  | .stcLQVbrAtDecRn _ => true
  | .stcLQSsrAtDecRn _ => true
  | .stcLQSpcAtDecRn _ => true
  | .stcLQRmBAtDecRn _ _ => true
  | .ldsLQAtRmIncMach _ => true
  | .ldsLQAtRmIncMacl _ => true
  | .ldsLQAtRmIncPr _ => true
  | .ldcLQAtRmIncSgr _ => true
  | .ldsLQAtRmIncFpul _ => true
  | .ldsLQAtRmIncFpscr _ => true
  | .ldcLQAtRmIncDbr _ => true
  | .ldcLQAtRmIncSr _ => true
  | .ldcLQAtRmIncGbr _ => true
  | .ldcLQAtRmIncVbr _ => true
  | .ldcLQAtRmIncSsr _ => true
  | .ldcLQAtRmIncSpc _ => true
  | .ldcLQAtRmIncRnB _ _ => true
  | .faddFRmFRn _ _ => true
  | .fsubFRmFRn _ _ => true
  | .fmulFRmFRn _ _ => true
  | .fdivFRmFRn _ _ => true
  | .fcmpeqFRmFRn _ _ => true
  | .fcmpgtFRmFRn _ _ => true
  | .fmovSAtR0RmFRn _ _ => true
  | .fmovSFRmAtR0Rn _ _ => true
  | .fmovSAtRmFRn _ _ => true
  | .fmovSAtRmIncFRn _ _ => true
  | .fmovSFRmAtRn _ _ => true
  | .fmovSFRmAtDecRn _ _ => true
  | .fmovFRmFRn _ _ => true
  | .fstsFRn _ => true
  | .fldsFRm _ => true
  | .floatFRn _ => true
  | .ftrcFRm _ => true
  | .fnegFRn _ => true
  | .fabsFRn _ => true
  | .fsqrtFRn _ => true
  | .fldi0FRn _ => true
  | .fldi1FRn _ => true
  | .fcnvsdFRn _ => true
  | .fcnvdsFRm _ => true
  | .psetmdImm4 _ => true
  | .fschg => true
  | .fpchg => true
  | .frchg => true
  | .fmacFRmFRn _ _ => true
  | .xvFmovSAtRmRoFRn v _ _ _ => wfTransfer v (v.getLsbD 0)
  | .xvFmovSFRmAtRnRo v _ _ _ => wfTransfer v (v.getLsbD 1)
  | .xvFmovSAtRmDisp4FRn v _ _ _ => wfTransfer v (v.getLsbD 0)
  | .xvFmovSAtRmIncFRn v _ _ => wfTransfer v (v.getLsbD 0)
  | .xvFmovSFRmAtRnDisp4 v _ _ _ => wfTransfer v (v.getLsbD 1)
  | .xvFmovSFRmAtDecRn v _ _ => wfTransfer v (v.getLsbD 1)
  | .xvFmovFRmFRn v _ _ => wfMove v
  | .xPsetmdImm12 imm => imm.extractLsb' 6 6 == 0
  | .xMovBRmAtRnRoDisp4 _ _ _ _ => true
  | .xMovWRmAtRnRoDisp4 _ _ _ _ => true
  | .xMovLRmAtRnRoDisp4 _ _ _ _ => true
  | .xMovQRmAtRnRoDisp4 _ _ _ _ => true
  | .xMovBAtRmRoDisp4Rn _ _ _ _ => true
  | .xMovWAtRmRoDisp4Rn _ _ _ _ => true
  | .xMovLAtRmRoDisp4Rn _ _ _ _ => true
  | .xMovQAtRmRoDisp4Rn _ _ _ _ => true
  | .xMovLRmAtRnRoDisp8s _ _ _ _ => true
  | .xMovLAtRmRoDisp8sRn _ _ _ _ => true
  | .xMovBRmAtRnDisp8s _ _ _ => true
  | .xMovWRmAtRnDisp8s _ _ _ => true
  | .xMovLRmAtRnDisp8s _ _ _ => true
  | .xMovQRmAtRnDisp8s _ _ _ => true
  | .xFmovSFRmAtRnDisp8s _ _ _ => true
  | .xFmovDDRmAtRnDisp8s _ _ _ => true
  | .xFmovSAtRmDisp8sFRn _ _ _ => true
  | .xFmovDAtRmDisp8sDRn _ _ _ => true
  | .xAndRmImm8Rn _ _ _ => true
  | .xXorRmImm8Rn _ _ _ => true
  | .xOrRmImm8Rn _ _ _ => true
  | .xMullRmImm8Rn _ _ _ => true
  | .xCmpeqImm12Rn _ _ => true
  | .xCmphsImm12Rn _ _ => true
  | .xCmpgeImm12Rn _ _ => true
  | .xCmphiImm12Rn _ _ => true
  | .xCmpgtImm12Rn _ _ => true
  | .xSubRmImm8Rn _ _ _ => true
  | .xAddRmImm8Rn _ _ _ => true
  | .xMovBImmAtRn _ _ => true
  | .xMovWImmAtRn _ _ => true
  | .xMovLImmAtRn _ _ => true
  | .xMovQImmAtRn _ _ => true
  | .xMovBImmAtDecRn _ _ => true
  | .xMovWImmAtDecRn _ _ => true
  | .xMovLImmAtDecRn _ _ => true
  | .xMovQImmAtDecRn _ _ => true
  | .xShadRmImmRn _ _ _ => true
  | .xShldRmImmRn _ _ _ => true
  | .xMovBAtRmDisp8sRn _ _ _ => true
  | .xMovWAtRmDisp8sRn _ _ _ => true
  | .xMovLAtRmDisp8sRn _ _ _ => true
  | .xMovQAtRmDisp8sRn _ _ _ => true
  | .xLeaBAtRmRoDisp4Rn _ _ _ _ => true
  | .xLeaWAtRmRoDisp4Rn _ _ _ _ => true
  | .xLeaLAtRmRoDisp4Rn _ _ _ _ => true
  | .xLeaQAtRmRoDisp4Rn _ _ _ _ => true
  | .xLeaBAtRmDisp8sRn _ _ _ => true
  | .xLeaWAtRmDisp8sRn _ _ _ => true
  | .xLeaLAtRmDisp8sRn _ _ _ => true
  | .xLeaQAtRmDisp8sRn _ _ _ => true
  | .xMovuBAtRmDisp8sRn _ _ _ => true
  | .xMovuWAtRmDisp8sRn _ _ _ => true
  | .xMovuLAtRmDisp8sRn _ _ _ => true
  | .xAddImm16Rn _ _ => true
  | .xBranDisp16 _ => true
  | .xBsrnDisp16 _ => true
  | .xCmpeqImm16R0 _ => true
  | .xBtDisp16 _ => true
  | .xLdhf16ImmFpul _ => true
  | .xBfDisp16 _ => true
  | .xLdsh16ImmR0 _ => true
  | .xBtsDisp16 _ => true
  | .xBfsDisp16 _ => true
  | .xMovaAtPcDisp13Rn _ _ => true
  | .xMovuWAtPcDisp13Rn _ _ => true
  | .xFmovSAtPcDisp13FRn _ _ => true
  | .xMovuWAtPcDisp13RHn _ _ => true
  | .xFmovSAtPcDisp13XFn _ _ => true
  | .xMovuWAtPcDisp13RQn _ _ => true
  | .xFmovDAtPcDisp13YDn _ _ => true
  | .xFmovDAtPcDisp13DRn _ _ => true
  | .xBraDisp20 _ => true
  | .xBsrDisp20 _ => true
  | .xTstImm12Rn _ _ => true
  | .xAndImm12Rn _ _ => true
  | .xXorImm12Rn _ _ => true
  | .xOrImm12Rn _ _ => true
  | .xMovLAtPcDisp13Rn _ _ => true
  | .xMovWAtPcDisp13Rn _ _ => true
  | .xMovLAtPcDisp13RHn _ _ => true
  | .xMovWAtPcDisp13RHn _ _ => true
  | .xMovLAtPcDisp13RQn _ _ => true
  | .xMovWAtPcDisp13RQn _ _ => true
  | .xMovuLAtPcDisp13RQn _ _ => true
  | .xMovQAtPcDisp13RQn _ _ => true
  | .xMovImm16Rn _ _ => true
  | .oMovLRmAtRnDisp5 nx mx _ _ _ _ => wfAddress false nx mx
  | .oMovQRmAtRnDisp5 nx mx _ _ _ _ => wfAddress true nx mx
  | .oMovBRmAtRn q nx mx bx _ _ => wfAddress q nx mx && !bx && !q
  | .oMovWRmAtRn q nx mx bx _ _ => wfAddress q nx mx && !bx && !q
  | .oMovLRmAtRn q nx mx bx _ _ => wfAddress q nx mx && !bx && !q
  | .oMovBRmAtDecRn q nx mx bx _ _ => wfAddress q nx mx && !bx && !q
  | .oMovWRmAtDecRn q nx mx bx _ _ => wfAddress q nx mx && !bx && !q
  | .oMovLRmAtDecRn q nx mx bx _ _ => wfAddress q nx mx && !bx && !q
  | .oTstRmRn q nx mx bx _ _ => wfData q nx mx bx
  | .oAndRmRn q nx mx bx _ _ => wfData q nx mx bx
  | .oXorRmRn q nx mx bx _ _ => wfData q nx mx bx
  | .oOrRmRn q nx mx bx _ _ => wfData q nx mx bx
  | .oCmpeqRmRn q nx mx bx _ _ => wfData q nx mx bx
  | .oCmphsRmRn q nx mx bx _ _ => wfData q nx mx bx
  | .oCmpgeRmRn q nx mx bx _ _ => wfData q nx mx bx
  | .oCmphiRmRn q nx mx bx _ _ => wfData q nx mx bx
  | .oCmpgtRmRn q nx mx bx _ _ => wfData q nx mx bx
  | .oSubRmRn q nx mx bx _ _ => wfData q nx mx bx
  | .oSubcRmRn q nx mx bx _ _ => wfData q nx mx bx
  | .oSubvRmRn q nx mx bx _ _ => wfData q nx mx bx
  | .oAddRmRn q nx mx bx _ _ => wfData q nx mx bx
  | .oAddcRmRn q nx mx bx _ _ => wfData q nx mx bx
  | .oAddvRmRn q nx mx bx _ _ => wfData q nx mx bx
  | .oMovLAtRmDisp5Rn nx mx _ _ _ _ => wfAddress false mx nx
  | .oMovQAtRmDisp5Rn nx mx _ _ _ _ => wfAddress true mx nx
  | .oMovBAtRmRn q nx mx bx _ _ => wfAddress q mx nx && !bx
  | .oMovWAtRmRn q nx mx bx _ _ => wfAddress q mx nx && !bx
  | .oMovLAtRmRn q nx mx bx _ _ => wfAddress q mx nx && !bx
  | .oMovRmRn q nx mx bx _ _ => wfData q nx mx bx
  | .oMovBAtRmIncRn q nx mx bx _ _ => wfAddress q mx nx && !bx
  | .oMovWAtRmIncRn q nx mx bx _ _ => wfAddress q mx nx && !bx
  | .oMovLAtRmIncRn q nx mx bx _ _ => wfAddress q mx nx && !bx
  | .oNotRmRn q nx mx bx _ _ => wfData q nx mx bx
  | .oNegcRmRn q nx mx bx _ _ => wfData q nx mx bx
  | .oNegRmRn q nx mx bx _ _ => wfData q nx mx bx
  | .oExtuBRmRn q nx mx bx _ _ => wfData q nx mx bx
  | .oExtuWRmRn q nx mx bx _ _ => wfData q nx mx bx
  | .oExtsBRmRn q nx mx bx _ _ => wfData q nx mx bx
  | .oExtsWRmRn q nx mx bx _ _ => wfData q nx mx bx
  | .oMovImm10Rn q nx _ _ _ _ => wfData q nx false false
  | .tAddRsRtRn _ _ _ _ _ _ => true
  | .tAddRsRtRnQuad _ _ _ => true
  | .tAddLRsImm5Rn _ _ _ _ => true
  | .tAddQRsImm6Rn _ _ _ _ _ => true
  | .tSubRsRtRn _ _ _ _ _ _ => true
  | .tSubRsRtRnQuad _ _ _ => true
  | .tSubLRsImm5Rn _ _ _ _ => true
  | .tSubQRsImm6Rn _ _ _ _ _ => true
  | .tMulRsRtRn _ _ _ _ _ _ => true
  | .tMulRsRtRnQuad _ _ _ => true
  | .tAndRsRtRn _ _ _ _ _ _ => true
  | .tAndRsRtRnQuad _ _ _ => true
  | .tOrRsRtRn _ _ _ _ _ _ => true
  | .tOrRsRtRnQuad _ _ _ => true
  | .tXorRsRtRn _ _ _ _ _ _ => true
  | .tXorRsRtRnQuad _ _ _ => true
  | .tShllRsRtRn _ _ _ _ _ _ => true
  | .tShllRsRtRnQuad _ _ _ => true
  | .tShllLRsImm5Rn _ _ _ _ => true
  | .tShllQRsImm6Rn _ _ _ _ _ => true
  | .tShlrRsRtRn _ _ _ _ _ _ => true
  | .tShlrRsRtRnQuad _ _ _ => true
  | .tShlrLRsImm5Rn _ _ _ _ => true
  | .tShlrQRsImm6Rn _ _ _ _ _ => true
  | .tSharRsRtRn _ _ _ _ _ _ => true
  | .tSharRsRtRnQuad _ _ _ => true
  | .tSharLRsImm5Rn _ _ _ _ => true
  | .tSharQRsImm6Rn _ _ _ _ _ => true
  | .tFaddFRsFRtFRn _ _ _ _ _ _ _ => true
  | .tFsubFRsFRtFRn _ _ _ _ _ _ _ => true
  | .tFmulFRsFRtFRn _ _ _ _ _ _ _ => true
  | .tFdivFRsFRtFRn _ _ _ _ _ _ _ => true
  | .movi24Imm24R0 _ => true
  | .movi20ImmRn _ _ => true
  | .movi20sImmRn _ _ => true
  | .wMovBRmAtRnDisp _ _ _ => true
  | .wMovWRmAtRnDisp _ _ _ => true
  | .wMovLRmAtRnDisp _ _ _ => true
  | .wFmovSFRmAtRnDisp _ _ _ => true
  | .wMovBAtRmDispRn _ _ _ => true
  | .wMovWAtRmDispRn _ _ _ => true
  | .wMovLAtRmDispRn _ _ _ => true
  | .wFmovSAtRmDispFRn _ _ _ => true
  | .wMovuBAtRmDispRn _ _ _ => true
  | .wMovuWAtRmDispRn _ _ _ => true
  | .zAddQImm48Rn _ _ => true
  | .zBraDisp48 _ => true
  | .zBsrDisp48 _ => true
  | .zMovQImm48Rn _ _ => true
  | .resXpfx1 _ => true
  | .resXpfx3 _ => true
  | .resXpfx4 _ => true
  | .resXpfx5 _ => true
  | .resXpfy0 _ => true
  | .resXpfy1 _ => true
  | .resXpfz1 _ => true
  | .resXpfv0 _ => true
  | .res3xx9 _ => true
  | .res8C1x _ => true
  | .res8C2x _ => true
  | .res8C4x _ => true
  | .res8C5x _ => true
  | .res8C6x _ => true
  | .res8C7x _ => true
  | .res8C8x _ => true
  | .resTacb9 _ _ => true
  | .resTacbA _ _ => true
  | .resTacbB _ _ => true

/-- The effective JQ under which a row is tried (rule R230). -/
inductive RowMode where
  | any | jq0 | jq1
  deriving DecidableEq, Repr

/-- The mode column of the opcode table. -/
def Instr.mode : Instr → RowMode
  | .movRmRn _ _ => .any
  | .movImmRn _ _ => .any
  | .movBRmAtRn _ _ => .any
  | .movWQRmAtRn _ _ => .any
  | .movLRmAtRn _ _ => .any
  | .movBAtRmRn _ _ => .any
  | .movWQAtRmRn _ _ => .any
  | .movLAtRmRn _ _ => .any
  | .movBRmAtDecRn _ _ => .any
  | .movWQRmAtDecRn _ _ => .any
  | .movLRmAtDecRn _ _ => .any
  | .movBAtRmIncRn _ _ => .any
  | .movWQAtRmIncRn _ _ => .any
  | .movLAtRmIncRn _ _ => .any
  | .movBRmAtR0Rn _ _ => .any
  | .movWQRmAtR0Rn _ _ => .any
  | .movLRmAtR0Rn _ _ => .any
  | .movBAtR0RmRn _ _ => .any
  | .movWQAtR0RmRn _ _ => .any
  | .movLAtR0RmRn _ _ => .any
  | .movLRmAtRnDisp _ _ _ => .any
  | .movLAtRmDispRn _ _ _ => .any
  | .movBR0AtRnDisp _ _ => .any
  | .movWQR0AtRnDisp _ _ => .any
  | .movBAtRmDispR0 _ _ => .any
  | .movWQAtRmDispR0 _ _ => .any
  | .movWQAtPcDispRn _ _ => .any
  | .movLAtPcDispRn _ _ => .any
  | .movaAtPcDispR0 _ => .any
  | .movBR0AtGbrDisp _ => .jq0
  | .movWQR0AtGbrDisp _ => .jq0
  | .movLR0AtGbrDisp _ => .jq0
  | .movBAtGbrDispR0 _ => .jq0
  | .movWQAtGbrDispR0 _ => .jq0
  | .movLAtGbrDispR0 _ => .jq0
  | .movBR0AtRnInc _ => .any
  | .movWQR0AtRnInc _ => .any
  | .movLR0AtRnInc _ => .any
  | .movBAtDecRmR0 _ => .any
  | .movWQAtDecRmR0 _ => .any
  | .movLAtDecRmR0 _ => .any
  | .pushLQRm _ => .any
  | .popLQRn _ => .any
  | .movQWAtR0Rn _ => .any
  | .movQWRmAtR0 _ => .any
  | .movuaLAtRmR0 _ => .any
  | .movuaLAtRmIncR0 _ => .any
  | .movuaLR0AtRm _ => .any
  | .movuaLR0AtDecRm _ => .any
  | .movtRn _ => .any
  | .movrtRn _ => .any
  | .swapBRmRn _ _ => .any
  | .swapWRmRn _ _ => .any
  | .xtrctRmRn _ _ => .any
  | .movLAtPcIncRn _ => .any
  | .movQAtPcIncRn _ => .any
  | .addRmRn _ _ => .any
  | .addImmRn _ _ => .any
  | .addcRmRn _ _ => .any
  | .addvRmRn _ _ => .any
  | .subRmRn _ _ => .any
  | .subcRmRn _ _ => .any
  | .subvRmRn _ _ => .any
  | .negRmRn _ _ => .any
  | .negcRmRn _ _ => .any
  | .cmpeqRmRn _ _ => .any
  | .cmphsRmRn _ _ => .any
  | .cmpgeRmRn _ _ => .any
  | .cmphiRmRn _ _ => .any
  | .cmpgtRmRn _ _ => .any
  | .cmppzRn _ => .any
  | .cmpplRn _ => .any
  | .cmpstrRmRn _ _ => .any
  | .cmpeqImmR0 _ => .any
  | .dtRn _ => .any
  | .extsBRmRn _ _ => .any
  | .extsWRmRn _ _ => .any
  | .extuBRmRn _ _ => .any
  | .extuWRmRn _ _ => .any
  | .mulLRmRn _ _ => .any
  | .muluWQRmRn _ _ => .any
  | .mulsWQRmRn _ _ => .any
  | .dmuluLRmRn _ _ => .any
  | .dmulsLRmRn _ _ => .any
  | .div0sRmRn _ _ => .any
  | .div0u => .any
  | .div1RmRn _ _ => .any
  | .divuR0Rn _ => .any
  | .divsR0Rn _ => .any
  | .macLAtRmIncAtRnInc _ _ => .any
  | .macWQAtRmIncAtRnInc _ _ => .any
  | .andRmRn _ _ => .any
  | .andImmR0 _ => .any
  | .andBImmAtGbrR0 _ => .jq0
  | .orRmRn _ _ => .any
  | .orImmR0 _ => .any
  | .orBImmAtGbrR0 _ => .jq0
  | .xorRmRn _ _ => .any
  | .xorImmR0 _ => .any
  | .xorBImmAtGbrR0 _ => .jq0
  | .tstRmRn _ _ => .any
  | .tstImmR0 _ => .any
  | .tstBImmAtGbrR0 _ => .jq0
  | .notRmRn _ _ => .any
  | .tasBAtRn _ => .any
  | .shadRmRn _ _ => .any
  | .shldRmRn _ _ => .any
  | .shllRn _ => .any
  | .shalRn _ => .any
  | .shlrRn _ => .any
  | .sharRn _ => .any
  | .rotlRn _ => .any
  | .rotrRn _ => .any
  | .rotclRn _ => .any
  | .rotcrRn _ => .any
  | .shll2Rn _ => .any
  | .shll8Rn _ => .any
  | .shll16Rn _ => .any
  | .shlr2Rn _ => .any
  | .shlr8Rn _ => .any
  | .shlr16Rn _ => .any
  | .shll4Rn _ => .any
  | .shlr4Rn _ => .any
  | .shll32Rn _ => .any
  | .shlr32Rn _ => .any
  | .rot32Rn _ => .any
  | .movhiR0RHn _ => .any
  | .movhiRHmR0 _ => .any
  | .extuLRn _ => .any
  | .extsLRn _ => .any
  | .bt _ => .any
  | .bf _ => .any
  | .bts _ => .any
  | .bfs _ => .any
  | .bra _ => .any
  | .bsr _ => .any
  | .brafRm _ => .any
  | .bsrfRm _ => .any
  | .jmpAtRm _ => .any
  | .jsrAtRm _ => .any
  | .rts => .any
  | .rtsn => .any
  | .rtvnRm _ => .any
  | .jsrnRm _ => .any
  | .stcSrRn _ => .any
  | .stcGbrRn _ => .any
  | .stcVbrRn _ => .any
  | .stcSsrRn _ => .any
  | .stcSpcRn _ => .any
  | .stcRmBRn _ _ => .any
  | .stcSgrRn _ => .any
  | .stcDbrRn _ => .any
  | .stsMachRn _ => .any
  | .stsMaclRn _ => .any
  | .stsPrRn _ => .any
  | .stsFpulRn _ => .any
  | .stsFpscrRn _ => .any
  | .ldcRmSr _ => .any
  | .ldcRmGbr _ => .any
  | .ldcRmVbr _ => .any
  | .ldcRmSsr _ => .any
  | .ldcRmSpc _ => .any
  | .ldcRmRnB _ _ => .any
  | .ldcRmSgr _ => .any
  | .ldcRmDbr _ => .any
  | .ldsRmMach _ => .any
  | .ldsRmMacl _ => .any
  | .ldsRmPr _ => .any
  | .iclrmdDQ => .any
  | .iclrmdJQ => .any
  | .iclrmdJDQ => .any
  | .isetmdDQ => .any
  | .isetmdJQ => .any
  | .isetmdJDQ => .any
  | .ldsRmFpul _ => .any
  | .ldsRmFpscr _ => .any
  | .clrt => .any
  | .sett => .any
  | .clrs => .any
  | .sets => .any
  | .nott => .any
  | .clrmac => .any
  | .nop _ => .any
  | .trapaImm _ => .any
  | .rte => .any
  | .sleep => .any
  | .brk => .any
  | .ldtlb => .any
  | .resbank => .any
  | .synco => .any
  | .prefAtRn _ => .any
  | .movcaLR0AtRn _ => .any
  | .icbiAtRn _ => .any
  | .casLRmRnAtR0 _ _ => .any
  | .stsLQMachAtDecRn _ => .any
  | .stsLQMaclAtDecRn _ => .any
  | .stsLQPrAtDecRn _ => .any
  | .stcLQSgrAtDecRn _ => .any
  | .stsLQFpulAtDecRn _ => .any
  | .stsLQFpscrAtDecRn _ => .any
  | .stcLQDbrAtDecRn _ => .any
  | .stcLQSrAtDecRn _ => .any
  | .stcLQGbrAtDecRn _ => .any
  | .stcLQVbrAtDecRn _ => .any
  | .stcLQSsrAtDecRn _ => .any
  | .stcLQSpcAtDecRn _ => .any
  | .stcLQRmBAtDecRn _ _ => .any
  | .ldsLQAtRmIncMach _ => .any
  | .ldsLQAtRmIncMacl _ => .any
  | .ldsLQAtRmIncPr _ => .any
  | .ldcLQAtRmIncSgr _ => .any
  | .ldsLQAtRmIncFpul _ => .any
  | .ldsLQAtRmIncFpscr _ => .any
  | .ldcLQAtRmIncDbr _ => .any
  | .ldcLQAtRmIncSr _ => .any
  | .ldcLQAtRmIncGbr _ => .any
  | .ldcLQAtRmIncVbr _ => .any
  | .ldcLQAtRmIncSsr _ => .any
  | .ldcLQAtRmIncSpc _ => .any
  | .ldcLQAtRmIncRnB _ _ => .any
  | .faddFRmFRn _ _ => .any
  | .fsubFRmFRn _ _ => .any
  | .fmulFRmFRn _ _ => .any
  | .fdivFRmFRn _ _ => .any
  | .fcmpeqFRmFRn _ _ => .any
  | .fcmpgtFRmFRn _ _ => .any
  | .fmovSAtR0RmFRn _ _ => .any
  | .fmovSFRmAtR0Rn _ _ => .any
  | .fmovSAtRmFRn _ _ => .any
  | .fmovSAtRmIncFRn _ _ => .any
  | .fmovSFRmAtRn _ _ => .any
  | .fmovSFRmAtDecRn _ _ => .any
  | .fmovFRmFRn _ _ => .any
  | .fstsFRn _ => .any
  | .fldsFRm _ => .any
  | .floatFRn _ => .any
  | .ftrcFRm _ => .any
  | .fnegFRn _ => .any
  | .fabsFRn _ => .any
  | .fsqrtFRn _ => .any
  | .fldi0FRn _ => .any
  | .fldi1FRn _ => .any
  | .fcnvsdFRn _ => .any
  | .fcnvdsFRm _ => .any
  | .psetmdImm4 _ => .any
  | .fschg => .any
  | .fpchg => .any
  | .frchg => .any
  | .fmacFRmFRn _ _ => .any
  | .xvFmovSAtRmRoFRn _ _ _ _ => .any
  | .xvFmovSFRmAtRnRo _ _ _ _ => .any
  | .xvFmovSAtRmDisp4FRn _ _ _ _ => .any
  | .xvFmovSAtRmIncFRn _ _ _ => .any
  | .xvFmovSFRmAtRnDisp4 _ _ _ _ => .any
  | .xvFmovSFRmAtDecRn _ _ _ => .any
  | .xvFmovFRmFRn _ _ _ => .any
  | .xPsetmdImm12 _ => .any
  | .xMovBRmAtRnRoDisp4 _ _ _ _ => .any
  | .xMovWRmAtRnRoDisp4 _ _ _ _ => .any
  | .xMovLRmAtRnRoDisp4 _ _ _ _ => .any
  | .xMovQRmAtRnRoDisp4 _ _ _ _ => .any
  | .xMovBAtRmRoDisp4Rn _ _ _ _ => .any
  | .xMovWAtRmRoDisp4Rn _ _ _ _ => .any
  | .xMovLAtRmRoDisp4Rn _ _ _ _ => .any
  | .xMovQAtRmRoDisp4Rn _ _ _ _ => .any
  | .xMovLRmAtRnRoDisp8s _ _ _ _ => .any
  | .xMovLAtRmRoDisp8sRn _ _ _ _ => .any
  | .xMovBRmAtRnDisp8s _ _ _ => .any
  | .xMovWRmAtRnDisp8s _ _ _ => .any
  | .xMovLRmAtRnDisp8s _ _ _ => .any
  | .xMovQRmAtRnDisp8s _ _ _ => .any
  | .xFmovSFRmAtRnDisp8s _ _ _ => .any
  | .xFmovDDRmAtRnDisp8s _ _ _ => .any
  | .xFmovSAtRmDisp8sFRn _ _ _ => .any
  | .xFmovDAtRmDisp8sDRn _ _ _ => .any
  | .xAndRmImm8Rn _ _ _ => .any
  | .xXorRmImm8Rn _ _ _ => .any
  | .xOrRmImm8Rn _ _ _ => .any
  | .xMullRmImm8Rn _ _ _ => .any
  | .xCmpeqImm12Rn _ _ => .any
  | .xCmphsImm12Rn _ _ => .any
  | .xCmpgeImm12Rn _ _ => .any
  | .xCmphiImm12Rn _ _ => .any
  | .xCmpgtImm12Rn _ _ => .any
  | .xSubRmImm8Rn _ _ _ => .any
  | .xAddRmImm8Rn _ _ _ => .any
  | .xMovBImmAtRn _ _ => .any
  | .xMovWImmAtRn _ _ => .any
  | .xMovLImmAtRn _ _ => .any
  | .xMovQImmAtRn _ _ => .any
  | .xMovBImmAtDecRn _ _ => .any
  | .xMovWImmAtDecRn _ _ => .any
  | .xMovLImmAtDecRn _ _ => .any
  | .xMovQImmAtDecRn _ _ => .any
  | .xShadRmImmRn _ _ _ => .any
  | .xShldRmImmRn _ _ _ => .any
  | .xMovBAtRmDisp8sRn _ _ _ => .any
  | .xMovWAtRmDisp8sRn _ _ _ => .any
  | .xMovLAtRmDisp8sRn _ _ _ => .any
  | .xMovQAtRmDisp8sRn _ _ _ => .any
  | .xLeaBAtRmRoDisp4Rn _ _ _ _ => .any
  | .xLeaWAtRmRoDisp4Rn _ _ _ _ => .any
  | .xLeaLAtRmRoDisp4Rn _ _ _ _ => .any
  | .xLeaQAtRmRoDisp4Rn _ _ _ _ => .any
  | .xLeaBAtRmDisp8sRn _ _ _ => .any
  | .xLeaWAtRmDisp8sRn _ _ _ => .any
  | .xLeaLAtRmDisp8sRn _ _ _ => .any
  | .xLeaQAtRmDisp8sRn _ _ _ => .any
  | .xMovuBAtRmDisp8sRn _ _ _ => .any
  | .xMovuWAtRmDisp8sRn _ _ _ => .any
  | .xMovuLAtRmDisp8sRn _ _ _ => .any
  | .xAddImm16Rn _ _ => .any
  | .xBranDisp16 _ => .any
  | .xBsrnDisp16 _ => .any
  | .xCmpeqImm16R0 _ => .any
  | .xBtDisp16 _ => .any
  | .xLdhf16ImmFpul _ => .any
  | .xBfDisp16 _ => .any
  | .xLdsh16ImmR0 _ => .any
  | .xBtsDisp16 _ => .any
  | .xBfsDisp16 _ => .any
  | .xMovaAtPcDisp13Rn _ _ => .any
  | .xMovuWAtPcDisp13Rn _ _ => .any
  | .xFmovSAtPcDisp13FRn _ _ => .any
  | .xMovuWAtPcDisp13RHn _ _ => .any
  | .xFmovSAtPcDisp13XFn _ _ => .any
  | .xMovuWAtPcDisp13RQn _ _ => .any
  | .xFmovDAtPcDisp13YDn _ _ => .any
  | .xFmovDAtPcDisp13DRn _ _ => .any
  | .xBraDisp20 _ => .any
  | .xBsrDisp20 _ => .any
  | .xTstImm12Rn _ _ => .any
  | .xAndImm12Rn _ _ => .any
  | .xXorImm12Rn _ _ => .any
  | .xOrImm12Rn _ _ => .any
  | .xMovLAtPcDisp13Rn _ _ => .any
  | .xMovWAtPcDisp13Rn _ _ => .any
  | .xMovLAtPcDisp13RHn _ _ => .any
  | .xMovWAtPcDisp13RHn _ _ => .any
  | .xMovLAtPcDisp13RQn _ _ => .any
  | .xMovWAtPcDisp13RQn _ _ => .any
  | .xMovuLAtPcDisp13RQn _ _ => .any
  | .xMovQAtPcDisp13RQn _ _ => .any
  | .xMovImm16Rn _ _ => .any
  | .oMovLRmAtRnDisp5 _ _ _ _ _ _ => .any
  | .oMovQRmAtRnDisp5 _ _ _ _ _ _ => .any
  | .oMovBRmAtRn _ _ _ _ _ _ => .any
  | .oMovWRmAtRn _ _ _ _ _ _ => .any
  | .oMovLRmAtRn _ _ _ _ _ _ => .any
  | .oMovBRmAtDecRn _ _ _ _ _ _ => .any
  | .oMovWRmAtDecRn _ _ _ _ _ _ => .any
  | .oMovLRmAtDecRn _ _ _ _ _ _ => .any
  | .oTstRmRn _ _ _ _ _ _ => .any
  | .oAndRmRn _ _ _ _ _ _ => .any
  | .oXorRmRn _ _ _ _ _ _ => .any
  | .oOrRmRn _ _ _ _ _ _ => .any
  | .oCmpeqRmRn _ _ _ _ _ _ => .any
  | .oCmphsRmRn _ _ _ _ _ _ => .any
  | .oCmpgeRmRn _ _ _ _ _ _ => .any
  | .oCmphiRmRn _ _ _ _ _ _ => .any
  | .oCmpgtRmRn _ _ _ _ _ _ => .any
  | .oSubRmRn _ _ _ _ _ _ => .any
  | .oSubcRmRn _ _ _ _ _ _ => .any
  | .oSubvRmRn _ _ _ _ _ _ => .any
  | .oAddRmRn _ _ _ _ _ _ => .any
  | .oAddcRmRn _ _ _ _ _ _ => .any
  | .oAddvRmRn _ _ _ _ _ _ => .any
  | .oMovLAtRmDisp5Rn _ _ _ _ _ _ => .any
  | .oMovQAtRmDisp5Rn _ _ _ _ _ _ => .any
  | .oMovBAtRmRn _ _ _ _ _ _ => .any
  | .oMovWAtRmRn _ _ _ _ _ _ => .any
  | .oMovLAtRmRn _ _ _ _ _ _ => .any
  | .oMovRmRn _ _ _ _ _ _ => .any
  | .oMovBAtRmIncRn _ _ _ _ _ _ => .any
  | .oMovWAtRmIncRn _ _ _ _ _ _ => .any
  | .oMovLAtRmIncRn _ _ _ _ _ _ => .any
  | .oNotRmRn _ _ _ _ _ _ => .any
  | .oNegcRmRn _ _ _ _ _ _ => .any
  | .oNegRmRn _ _ _ _ _ _ => .any
  | .oExtuBRmRn _ _ _ _ _ _ => .any
  | .oExtuWRmRn _ _ _ _ _ _ => .any
  | .oExtsBRmRn _ _ _ _ _ _ => .any
  | .oExtsWRmRn _ _ _ _ _ _ => .any
  | .oMovImm10Rn _ _ _ _ _ _ => .any
  | .tAddRsRtRn _ _ _ _ _ _ => .any
  | .tAddRsRtRnQuad _ _ _ => .any
  | .tAddLRsImm5Rn _ _ _ _ => .any
  | .tAddQRsImm6Rn _ _ _ _ _ => .any
  | .tSubRsRtRn _ _ _ _ _ _ => .any
  | .tSubRsRtRnQuad _ _ _ => .any
  | .tSubLRsImm5Rn _ _ _ _ => .any
  | .tSubQRsImm6Rn _ _ _ _ _ => .any
  | .tMulRsRtRn _ _ _ _ _ _ => .any
  | .tMulRsRtRnQuad _ _ _ => .any
  | .tAndRsRtRn _ _ _ _ _ _ => .any
  | .tAndRsRtRnQuad _ _ _ => .any
  | .tOrRsRtRn _ _ _ _ _ _ => .any
  | .tOrRsRtRnQuad _ _ _ => .any
  | .tXorRsRtRn _ _ _ _ _ _ => .any
  | .tXorRsRtRnQuad _ _ _ => .any
  | .tShllRsRtRn _ _ _ _ _ _ => .any
  | .tShllRsRtRnQuad _ _ _ => .any
  | .tShllLRsImm5Rn _ _ _ _ => .any
  | .tShllQRsImm6Rn _ _ _ _ _ => .any
  | .tShlrRsRtRn _ _ _ _ _ _ => .any
  | .tShlrRsRtRnQuad _ _ _ => .any
  | .tShlrLRsImm5Rn _ _ _ _ => .any
  | .tShlrQRsImm6Rn _ _ _ _ _ => .any
  | .tSharRsRtRn _ _ _ _ _ _ => .any
  | .tSharRsRtRnQuad _ _ _ => .any
  | .tSharLRsImm5Rn _ _ _ _ => .any
  | .tSharQRsImm6Rn _ _ _ _ _ => .any
  | .tFaddFRsFRtFRn _ _ _ _ _ _ _ => .any
  | .tFsubFRsFRtFRn _ _ _ _ _ _ _ => .any
  | .tFmulFRsFRtFRn _ _ _ _ _ _ _ => .any
  | .tFdivFRsFRtFRn _ _ _ _ _ _ _ => .any
  | .movi24Imm24R0 _ => .any
  | .movi20ImmRn _ _ => .any
  | .movi20sImmRn _ _ => .any
  | .wMovBRmAtRnDisp _ _ _ => .any
  | .wMovWRmAtRnDisp _ _ _ => .any
  | .wMovLRmAtRnDisp _ _ _ => .any
  | .wFmovSFRmAtRnDisp _ _ _ => .any
  | .wMovBAtRmDispRn _ _ _ => .any
  | .wMovWAtRmDispRn _ _ _ => .any
  | .wMovLAtRmDispRn _ _ _ => .any
  | .wFmovSAtRmDispFRn _ _ _ => .any
  | .wMovuBAtRmDispRn _ _ _ => .any
  | .wMovuWAtRmDispRn _ _ _ => .any
  | .zAddQImm48Rn _ _ => .jq1
  | .zBraDisp48 _ => .jq1
  | .zBsrDisp48 _ => .jq1
  | .zMovQImm48Rn _ _ => .jq1
  | .resXpfx1 _ => .any
  | .resXpfx3 _ => .any
  | .resXpfx4 _ => .any
  | .resXpfx5 _ => .any
  | .resXpfy0 _ => .jq1
  | .resXpfy1 _ => .jq1
  | .resXpfz1 _ => .jq1
  | .resXpfv0 _ => .any
  | .res3xx9 _ => .any
  | .res8C1x _ => .any
  | .res8C2x _ => .any
  | .res8C4x _ => .any
  | .res8C5x _ => .any
  | .res8C6x _ => .any
  | .res8C7x _ => .any
  | .res8C8x _ => .any
  | .resTacb9 _ _ => .any
  | .resTacbA _ _ => .any
  | .resTacbB _ _ => .any

/-- Whether a row is tried under an effective JQ. -/
def Instr.legalIn (i : Instr) (jq : Bool) : Bool :=
  match i.mode with
  | .any => true
  | .jq0 => !jq
  | .jq1 => jq

end Sys2Proof
end

