-- ==== Sys2Proof/Safety.lean ====
section
/-! DEFINITION. Safety.lean: what counts as a safe run, the invariant of the machine, and the terms in which
statements about instructions are made. -/
namespace Sys2Proof.Machine

/-! ### Safe steps -/

/-- One step that neither faults nor is refused. -/
def SafeStep (s : State) : Prop := ∃ t, step s = .next t

/-- `n` steps that neither fault nor are refused. -/
def SafeRun : Nat → State → Prop
  | 0, _ => True
  | n + 1, s => ∃ t, step s = .next t ∧ SafeRun n t

/-! ### The invariant -/

/-- What every step keeps: memory and STALE in canonical form (log 5, rule R113), no bit of SR or FPSCR outside
its mask (rules R76, R88), and on BJX1-32 no register beyond its 32 bits (rule R51, log 24). -/
structure State.Inv (s : State) : Prop where
  mem : Memory.wf s.mem
  stale : staleWf s.stale
  sr : s.sr &&& ~~~srMask s.cfg = 0
  fpscr : s.fpscr &&& ~~~fpscrMask = 0
  narrow : s.is64 = false → ∀ v ∈ [s.pc, s.gbr, s.vbr, s.ssr, s.spc, s.sgr, s.dbr, s.mach, s.macl, s.pr], hi32 v = 0
  slot : s.is64 = false → ∀ d, s.ds = some d → hi32 d.target = 0 ∧ hi32 d.branchPc = 0
  halves : s.hasRh = false → ∀ b : BankReg, hi32 (get8 s.ga b) = 0 ∧ hi32 (get8 s.gb b) = 0 ∧ hi32 (get8 s.g b) = 0

/-! ### Terms of statements -/

/-- The words of `i` are `ws`, and `exec` answers the next state `u`. -/
def Does (ws : List IWord) (i : Instr) (s u : State) : Prop := encode i = ws ∧ exec i s = .next u

/-- `exec` takes the exception `e` at the instruction, from the state before it (rule R970 (10)). -/
def Raises (i : Instr) (s : State) (e : Exc) : Prop := exec i s = .next (s.takeException (firstWord i) e)

/-- `pc <- PCn + 2`, or the end of a delay slot (rules R250, R500). -/
def State.done16 (s u : State) : State := u.advance s.pcn 2

/-- `pc <- PCn + 4` (rule R720). -/
def State.done32 (s u : State) : State := u.advance s.pcn 4

/-- `R[n] <-{W} v` at W = OPW, with the value at each width (rules R14, R16). -/
def State.writeW (s : State) (n : Reg) (v64 : Quad) (v32 : Dword) : State :=
  if s.dq then s.setR n v64 else s.setHalf false n v32

/-- `R[n] <-{AW} v` (rule R131). -/
def State.writeA (s : State) (n : Reg) (v : Quad) : State :=
  if s.jq then s.setR n v else s.setHalf false n (lo32 v)

/-- Two states that differ at most in memory, STALE and the history of stores. -/
def State.AgreesOffMemory (t u : State) : Prop :=
  t.cfg = u.cfg ∧ t.ga = u.ga ∧ t.gb = u.gb ∧ t.g = u.g ∧ t.pc = u.pc ∧ t.sr = u.sr ∧ t.gbr = u.gbr ∧ t.vbr = u.vbr ∧
    t.ssr = u.ssr ∧ t.spc = u.spc ∧ t.sgr = u.sgr ∧ t.dbr = u.dbr ∧ t.mach = u.mach ∧ t.macl = u.macl ∧ t.pr = u.pr ∧
    t.fpul = u.fpul ∧ t.fpscr = u.fpscr ∧ t.fa = u.fa ∧ t.fb = u.fb ∧ t.ds = u.ds ∧ t.irq = u.irq ∧
    t.resetReq = u.resetReq ∧ t.sleeping = u.sleeping ∧ t.lastTrap = u.lastTrap ∧ t.freeCount = u.freeCount

/-- The memory of `t` is that of `s` after the low `n` bytes of `v` are stored at physical address `p`: those bytes
hold it, every other byte reads as before, STALE gains the logical addresses `ea` to `ea + n - 1` and nothing else
(rule R135), and what was there at the last ICBI of an address or at reset is what it was (rule R136). -/
def State.StoredIn (s t : State) (p n : Nat) (ea v : Quad) : Prop :=
  bytesAt t.mem p n = toBytes s.cfg.endian n v ∧
    (∀ x, x < p ∨ p + n ≤ x → Memory.read t.mem x = Memory.read s.mem x) ∧
    (∀ x, x ∈ t.stale ↔ x ∈ s.stale ∨ ∃ k < n, (s.addr (ea + BitVec.ofNat 64 k)).toNat = x) ∧
    ∀ c x, oldByte t.history c x (Memory.read t.mem x) = oldByte s.history c x (Memory.read s.mem x)

/-- The words of `i` are `ws`. Where the write of `n` bytes at `ea` is allowed and memory is in canonical form, `exec` stores the low `n` bytes of `v`
there and otherwise ends in `u`; where it raises an exception, `exec` takes that exception (rules R135, R250). -/
def DoesStore (ws : List IWord) (i : Instr) (s : State) (align n : Nat) (ea v : Quad) (u : State) : Prop :=
  encode i = ws ∧
    (∀ p, Memory.wf s.mem → s.resolve .write s.md align ea = .ok p →
      ∃ t, exec i s = .next t ∧ t.AgreesOffMemory u ∧ s.StoredIn t p n ea v) ∧
    ∀ e, s.resolve .write s.md align ea = .error (.exc e) → Raises i s e

/-- The words of `i` are `ws`. Where the read of `n` bytes at `ea` is allowed, `exec` ends in `f` of their value; where
it raises an exception, `exec` takes that exception (rules R134, R250). -/
def DoesLoad (ws : List IWord) (i : Instr) (s : State) (align n : Nat) (ea : Quad) (f : Quad → State) : Prop :=
  encode i = ws ∧
    (∀ p, s.resolve .read s.md align ea = .ok p →
      exec i s = .next (f (ofBytes s.cfg.endian (bytesAt s.mem p n)))) ∧
    ∀ e, s.resolve .read s.md align ea = .error (.exc e) → Raises i s e

/-- The words of `i` are `ws`. Where the byte at `ea` may be read and written and
memory is in canonical form, `exec` stores `f` of it there and
otherwise ends in `u` of it; where the read or then the write raises an exception, `exec` takes it. -/
def DoesModify (ws : List IWord) (i : Instr) (s : State) (ea : Quad) (f : Byte → Byte) (u : Byte → State) : Prop :=
  encode i = ws ∧
    (∀ p p', Memory.wf s.mem → s.resolve .read s.md 1 ea = .ok p → s.resolve .write s.md 1 ea = .ok p' →
      ∃ t, exec i s = .next t ∧ t.AgreesOffMemory (u (Memory.read s.mem p)) ∧
        s.StoredIn t p' 1 ea ((f (Memory.read s.mem p)).setWidth 64)) ∧
    (∀ e, s.resolve .read s.md 1 ea = .error (.exc e) → Raises i s e) ∧
    ∀ p e, s.resolve .read s.md 1 ea = .ok p → s.resolve .write s.md 1 ea = .error (.exc e) → Raises i s e

/-- `MACH` and `MACL`, low halves, become the halves of `v`; the upper halves keep their bits (rules R398, R399). -/
def State.putMac (s : State) (v : Quad) : State :=
  { s with mach := hi32 s.mach ++ hi32 v, macl := hi32 s.macl ++ lo32 v }

/-- The words of `i` are `ws`. A multiply-accumulate of two signed operands of `z` bytes, the first at `R[n]` and, once
`R[n]` is incremented, the second at `R[m]`, incremented in its turn: where both reads are allowed, `exec` ends in `u` of
the state with both registers updated and the product; where one raises an exception, `exec` takes it. -/
def DoesMac (ws : List IWord) (i : Instr) (s : State) (n m : Nib) (z : Nat) (u : State → Int → State) : Prop :=
  encode i = ws ∧
    (∀ p q, s.resolve .read s.md z (s.r n) = .ok p →
      s.resolve .read s.md z ((s.writeA n (s.r n + quadOf z)).r m) = .ok q →
      exec i s = .next (s.done16 (u
        ((s.writeA n (s.r n + quadOf z)).writeA m ((s.writeA n (s.r n + quadOf z)).r m + quadOf z))
        (((ofBytes s.cfg.endian (bytesAt s.mem p z)).setWidth (8 * z)).toInt *
          ((ofBytes s.cfg.endian (bytesAt s.mem q z)).setWidth (8 * z)).toInt)))) ∧
    (∀ e, s.resolve .read s.md z (s.r n) = .error (.exc e) → Raises i s e) ∧
    ∀ p e, s.resolve .read s.md z (s.r n) = .ok p →
      s.resolve .read s.md z ((s.writeA n (s.r n + quadOf z)).r m) = .error (.exc e) → Raises i s e

/-- The words `ws` stand at the logical address `a`: each may be fetched, its two bytes are in memory, and neither is
stale (rules R133, R136). -/
def State.CodeAt (s : State) : Quad → List IWord → Prop
  | _, [] => True
  | a, w :: ws =>
    (∃ p, s.resolve .fetch s.fetchMd 2 a = .ok p ∧ bytesAt s.mem p 2 = wordBytes s.cfg.endian w) ∧
      s.staleWord a = false ∧ State.CodeAt s (a + 2) ws

/-- An outcome with bank B of its next state replaced. -/
def withBankB (v : Vector Quad 8) : Host.Outcome State Fault Refusal → Host.Outcome State Fault Refusal
  | .next t => .next { t with gb := v }
  | .fault f => .fault f
  | .refused x => .refused x

/-- What a computation at width `w` writes: the destination and T, each only where it is there. -/
abbrev Result (w : Nat) := Option (BitVec w) × Option Bool

/-- A computation at any width: two operands and T. -/
abbrev Computation := (w : Nat) → BitVec w → BitVec w → Bool → Result w

/-- T written, if there is something to write. -/
def State.putT (s : State) : Option Bool → State
  | none => s
  | some b => s.setT b

/-- The result of a 64-bit computation written to `R[n]` and T. -/
def State.result64 (s : State) (n : Reg) (r : Result 64) : State :=
  match r.1 with
  | none => s.putT r.2
  | some v => (s.setR n v).putT r.2

/-- The result of a 32-bit computation written to `RL[n]`, or `RH[n]` when `x`, and T. -/
def State.result32 (s : State) (x : Bool) (n : Reg) (r : Result 32) : State :=
  match r.1 with
  | none => s.putT r.2
  | some v => (s.setHalf x n v).putT r.2

/-- `f` computed at W = OPW on the operands `a` and `b`, its result in `R[n]{W}` and T (rules R14, R16, R350 (b)). -/
def State.resultW (s : State) (n : Reg) (a b : Quad) (f : Computation) : State :=
  if s.dq then s.result64 n (f 64 a b s.t) else s.result32 false n (f 32 (lo32 a) (lo32 b) s.t)

/-- A system register after `X <-{W} v` at W = OPW (rule R540 (c)). -/
def State.mergeW (s : State) (old v : Quad) : Quad := if s.dq then v else hi32 old ++ lo32 v

/-- A system register after `X <-{W} v` at 64 bits when JQ = 1, else 32 (rules R61, R540 (b)). -/
def State.mergeA (s : State) (old v : Quad) : Quad := if s.jq then v else hi32 old ++ lo32 v

/-- The FPU cells after a transfer of kind `k` has read `v` (rule R660). -/
def State.fpLoaded (s : State) (k : Xfer) (b : Bool) (n : Reg) (v : Quad) : State :=
  match k with
  | .single => s.setFx b n (lo32 v)
  | .pair => s.setPair b n (pairOrder s.cfg.endian v)
  | .double => s.setPair b n v

/-- What a transfer of kind `k` writes (rule R660). -/
def State.fpStored (s : State) (k : Xfer) (b : Bool) (n : Reg) : Quad :=
  match k with
  | .single => (s.fx b n).setWidth 64
  | .pair => pairOrder s.cfg.endian (s.pair b n)
  | .double => s.pair b n

/-- A register row of OPREX at both widths (rules R861, R862). `op` and `sub` are the outer nibbles of its second
word. At Q = 0 the extension bits pick halves; at Q = 1 they are clear. A half that does not exist, or Q = 1 while
JQ = 0, is an illegal instruction. -/
def OprexRow (op sub : Nib) (i : Bool → Bool → Bool → Bool → Nib → Nib → Instr) (s : State) (f : Computation) : Prop :=
  ∀ n m : Nib,
    (∀ nx mx, s.ds = none → ((nx || mx) = true → s.hasRh = true) →
      Does [mk4 0x8#4 0xC#4 0x0#4 (bits4 false nx mx false), mk4 op n m sub] (i false nx mx false n m) s
        (s.done32 (s.result32 nx n (f 32 (s.half nx n) (s.half mx m) s.t)))) ∧
    (s.ds = none → s.jq = true →
      Does [mk4 0x8#4 0xC#4 0x0#4 0x8#4, mk4 op n m sub] (i true false false false n m) s
        (s.done32 (s.result64 n (f 64 (s.r n) (s.r m) s.t)))) ∧
    (∀ nx mx, (nx || mx) = true → s.hasRh = false → Raises (i false nx mx false n m) s .illegal) ∧
    (s.jq = false → Raises (i true false false false n m) s .illegal)

/-- A store row of OPREX: `z` bytes of `RL[m]` or `RH[m]` at `R[n]`, or at `R[n] - z` when `dec`; Q, B and the extension
bit of the address register must be clear (rules R861, R864 to R869). -/
def OprexStore (sub : Nib) (i : Bool → Bool → Bool → Bool → Nib → Nib → Instr) (s : State) (z : Nat) (dec : Bool) :
    Prop :=
  ∀ (n m : Nib) (mx : Bool),
    (s.ds = none → (mx = true → s.hasRh = true) →
      DoesStore [mk4 0x8#4 0xC#4 0x0#4 (bits4 false false mx false), mk4 0x2#4 n m sub] (i false false mx false n m) s
        z z (if dec then s.r n - quadOf z else s.r n) ((s.half mx m).setWidth 64)
        (s.done32 (if dec then s.writeA n (s.r n - quadOf z) else s))) ∧
    (mx = true → s.hasRh = false → Raises (i false false mx false n m) s .illegal) ∧
    ∀ q nx bx, (q || nx || bx) = true → Raises (i q nx mx bx n m) s .illegal

/-- A load row of OPREX: `z` bytes at `R[m]`, with `R[m]` incremented before the load write when `inc`. At Q = 0 the
value goes to one half and the other keeps its bits. B and the extension bit of the address register must be clear, and
that of the data register at Q = 1 (rules R861, R886 to R888, R890 to R892). -/
def OprexLoad (sub : Nib) (i : Bool → Bool → Bool → Bool → Nib → Nib → Instr) (s : State) (z : Nat) (inc : Bool) :
    Prop :=
  ∀ n m : Nib,
    (∀ nx, s.ds = none → (nx = true → s.hasRh = true) →
      DoesLoad [mk4 0x8#4 0xC#4 0x0#4 (bits4 false nx false false), mk4 0x6#4 n m sub] (i false nx false false n m) s
        z z (s.r m) fun v => s.done32
          ((if inc then s.writeA m (s.r m + quadOf z) else s).setHalf nx n ((v.setWidth (8 * z)).signExtend 32))) ∧
    (s.ds = none → s.jq = true →
      DoesLoad [mk4 0x8#4 0xC#4 0x0#4 0x8#4, mk4 0x6#4 n m sub] (i true false false false n m) s
        z z (s.r m) fun v => s.done32
          ((if inc then s.writeA m (s.r m + quadOf z) else s).setR n ((v.setWidth (8 * z)).signExtend 64))) ∧
    (s.hasRh = false → Raises (i false true false false n m) s .illegal) ∧
    (s.jq = false → Raises (i true false false false n m) s .illegal) ∧
    ∀ q nx mx bx, (mx || bx || q && nx) = true → Raises (i q nx mx bx n m) s .illegal

/-- A register row of TACB (rules R910, R911): `i32` at Q = 0, where the extension bits pick halves, `i64` for the prefix
`8C38`. `op` is the first nibble of its second word. The result is stated where `ok` holds of the second operand. -/
def TacbRow (op : Nib) (i32 : Bool → Bool → Bool → Nib → Nib → Nib → Instr) (i64 : Nib → Nib → Nib → Instr) (s : State)
    (ok : (w : Nat) → BitVec w → Prop) (f : (w : Nat) → BitVec w → BitVec w → BitVec w) : Prop :=
  ∀ n a b : Nib,
    (∀ nx sx tx, s.ds = none → ((nx || sx || tx) = true → s.hasRh = true) → ok 32 (s.half tx b) →
      Does [mk4 0x8#4 0xC#4 0x3#4 (bits4 false nx sx tx), mk4 op n a b] (i32 nx sx tx n a b) s
        (s.done32 (s.setHalf nx n (f 32 (s.half sx a) (s.half tx b))))) ∧
    (s.ds = none → s.jq = true → ok 64 (s.r b) →
      Does [mk4 0x8#4 0xC#4 0x3#4 0x8#4, mk4 op n a b] (i64 n a b) s (s.done32 (s.setR n (f 64 (s.r a) (s.r b))))) ∧
    (∀ nx sx tx, (nx || sx || tx) = true → s.hasRh = false → Raises (i32 nx sx tx n a b) s .illegal) ∧
    (s.jq = false → Raises (i64 n a b) s .illegal)

/-- The FPU is present and enabled (rule R641). -/
def State.FpuOn (s : State) : Prop := s.cfg.fpu = .basic ∧ s.fd = false

/-- SHAD as rule R461 writes it. -/
def shadRule (w : Nat) (x : BitVec w) (c : Int) : BitVec w :=
  if 0 ≤ c then x <<< (c % w).toNat
  else if c % w = 0 then (if x.msb then BitVec.allOnes w else 0)
  else x.sshiftRight (w - (c % w).toNat)

/-- SHLD as rule R462 writes it. -/
def shldRule (w : Nat) (x : BitVec w) (c : Int) : BitVec w :=
  if 0 ≤ c then x <<< (c % w).toNat
  else if c % w = 0 then 0
  else x >>> (w - (c % w).toNat)

end Sys2Proof.Machine

namespace Sys2Proof

/-- The instructions of rule R541. -/
def Instr.privileged : Instr → Bool
  | .stcSrRn _ | .stcVbrRn _ | .stcSsrRn _ | .stcSpcRn _ | .stcRmBRn _ _ | .stcSgrRn _ | .stcDbrRn _ => true
  | .ldcRmSr _ | .ldcRmVbr _ | .ldcRmSsr _ | .ldcRmSpc _ | .ldcRmRnB _ _ | .ldcRmSgr _ | .ldcRmDbr _ => true
  | .stcLQSgrAtDecRn _ | .stcLQDbrAtDecRn _ | .stcLQSrAtDecRn _ | .stcLQVbrAtDecRn _ | .stcLQSsrAtDecRn _
  | .stcLQSpcAtDecRn _ | .stcLQRmBAtDecRn _ _ => true
  | .ldcLQAtRmIncSgr _ | .ldcLQAtRmIncDbr _ | .ldcLQAtRmIncSr _ | .ldcLQAtRmIncVbr _ | .ldcLQAtRmIncSsr _
  | .ldcLQAtRmIncSpc _ | .ldcLQAtRmIncRnB _ _ => true
  | .rte | .sleep | .ldtlb => true
  | _ => false

/-- The 16-bit instructions that may not stand in a delay slot (rule R501). -/
def Instr.slotForbidden : Instr → Bool
  | .bt _ | .bf _ | .bts _ | .bfs _ | .bra _ | .bsr _ | .brafRm _ | .bsrfRm _ | .jmpAtRm _ | .jsrAtRm _ | .rts => true
  | .rte | .trapaImm _ | .brk | .sleep => true
  | .movWQAtPcDispRn _ _ | .movLAtPcDispRn _ _ | .movaAtPcDispR0 _ => true
  | _ => false

/-- The instructions that store to memory when they complete. -/
def Instr.stores : Instr → Bool
  | .movBRmAtRn _ _ | .movWQRmAtRn _ _ | .movLRmAtRn _ _ | .movBRmAtDecRn _ _ | .movWQRmAtDecRn _ _ => true
  | .movLRmAtDecRn _ _ | .movBRmAtR0Rn _ _ | .movWQRmAtR0Rn _ _ | .movLRmAtR0Rn _ _ | .movLRmAtRnDisp _ _ _ => true
  | .movBR0AtRnDisp _ _ | .movWQR0AtRnDisp _ _ | .movBR0AtGbrDisp _ | .movWQR0AtGbrDisp _ | .movLR0AtGbrDisp _ => true
  | .movBR0AtRnInc _ | .movWQR0AtRnInc _ | .movLR0AtRnInc _ | .pushLQRm _ | .movQWRmAtR0 _ | .movuaLR0AtRm _ => true
  | .movuaLR0AtDecRm _ | .andBImmAtGbrR0 _ | .orBImmAtGbrR0 _ | .xorBImmAtGbrR0 _ | .tasBAtRn _ => true
  | .movcaLR0AtRn _ | .casLRmRnAtR0 _ _ | .stsLQMachAtDecRn _ | .stsLQMaclAtDecRn _ | .stsLQPrAtDecRn _ => true
  | .stcLQSgrAtDecRn _ | .stsLQFpulAtDecRn _ | .stsLQFpscrAtDecRn _ | .stcLQDbrAtDecRn _ | .stcLQSrAtDecRn _ => true
  | .stcLQGbrAtDecRn _ | .stcLQVbrAtDecRn _ | .stcLQSsrAtDecRn _ | .stcLQSpcAtDecRn _ | .stcLQRmBAtDecRn _ _ => true
  | .fmovSFRmAtR0Rn _ _ | .fmovSFRmAtRn _ _ | .fmovSFRmAtDecRn _ _ | .xvFmovSFRmAtRnRo _ _ _ _ => true
  | .xvFmovSFRmAtRnDisp4 _ _ _ _ | .xvFmovSFRmAtDecRn _ _ _ | .xMovBRmAtRnRoDisp4 _ _ _ _ => true
  | .xMovWRmAtRnRoDisp4 _ _ _ _ | .xMovLRmAtRnRoDisp4 _ _ _ _ | .xMovQRmAtRnRoDisp4 _ _ _ _ => true
  | .xMovLRmAtRnRoDisp8s _ _ _ _ | .xMovBRmAtRnDisp8s _ _ _ | .xMovWRmAtRnDisp8s _ _ _ => true
  | .xMovLRmAtRnDisp8s _ _ _ | .xMovQRmAtRnDisp8s _ _ _ | .xFmovSFRmAtRnDisp8s _ _ _ => true
  | .xFmovDDRmAtRnDisp8s _ _ _ | .xMovBImmAtRn _ _ | .xMovWImmAtRn _ _ | .xMovLImmAtRn _ _ | .xMovQImmAtRn _ _ => true
  | .xMovBImmAtDecRn _ _ | .xMovWImmAtDecRn _ _ | .xMovLImmAtDecRn _ _ | .xMovQImmAtDecRn _ _ => true
  | .oMovLRmAtRnDisp5 _ _ _ _ _ _ | .oMovQRmAtRnDisp5 _ _ _ _ _ _ | .oMovBRmAtRn _ _ _ _ _ _ => true
  | .oMovWRmAtRn _ _ _ _ _ _ | .oMovLRmAtRn _ _ _ _ _ _ | .oMovBRmAtDecRn _ _ _ _ _ _ => true
  | .oMovWRmAtDecRn _ _ _ _ _ _ | .oMovLRmAtDecRn _ _ _ _ _ _ | .wMovBRmAtRnDisp _ _ _ => true
  | .wMovWRmAtRnDisp _ _ _ | .wMovLRmAtRnDisp _ _ _ | .wFmovSFRmAtRnDisp _ _ _ => true
  | _ => false

/-- The instructions that act on the FPU or transfer FPUL or FPSCR (rules R540 (e), R641). -/
def Instr.usesFpu : Instr → Bool
  | .stsFpulRn _ | .stsFpscrRn _ | .ldsRmFpul _ | .ldsRmFpscr _ | .stsLQFpulAtDecRn _ | .stsLQFpscrAtDecRn _ => true
  | .ldsLQAtRmIncFpul _ | .ldsLQAtRmIncFpscr _ | .faddFRmFRn _ _ | .fsubFRmFRn _ _ | .fmulFRmFRn _ _ => true
  | .fdivFRmFRn _ _ | .fcmpeqFRmFRn _ _ | .fcmpgtFRmFRn _ _ | .fmovSAtR0RmFRn _ _ | .fmovSFRmAtR0Rn _ _ => true
  | .fmovSAtRmFRn _ _ | .fmovSAtRmIncFRn _ _ | .fmovSFRmAtRn _ _ | .fmovSFRmAtDecRn _ _ | .fmovFRmFRn _ _ => true
  | .fstsFRn _ | .fldsFRm _ | .floatFRn _ | .ftrcFRm _ | .fnegFRn _ | .fabsFRn _ | .fsqrtFRn _ | .fldi0FRn _ => true
  | .fldi1FRn _ | .fcnvsdFRn _ | .fcnvdsFRm _ | .psetmdImm4 _ | .fschg | .fpchg | .frchg | .fmacFRmFRn _ _ => true
  | .xvFmovSAtRmRoFRn _ _ _ _ | .xvFmovSFRmAtRnRo _ _ _ _ | .xvFmovSAtRmDisp4FRn _ _ _ _ => true
  | .xvFmovSAtRmIncFRn _ _ _ | .xvFmovSFRmAtRnDisp4 _ _ _ _ | .xvFmovSFRmAtDecRn _ _ _ | .xvFmovFRmFRn _ _ _ => true
  | .xPsetmdImm12 _ | .xFmovSFRmAtRnDisp8s _ _ _ | .xFmovDDRmAtRnDisp8s _ _ _ | .xFmovSAtRmDisp8sFRn _ _ _ => true
  | .xFmovDAtRmDisp8sDRn _ _ _ | .xLdhf16ImmFpul _ | .xFmovSAtPcDisp13FRn _ _ | .xFmovSAtPcDisp13XFn _ _ => true
  | .xFmovDAtPcDisp13DRn _ _ | .tFaddFRsFRtFRn _ _ _ _ _ _ _ | .tFsubFRsFRtFRn _ _ _ _ _ _ _ => true
  | .tFmulFRsFRtFRn _ _ _ _ _ _ _ | .tFdivFRsFRtFRn _ _ _ _ _ _ _ | .wFmovSFRmAtRnDisp _ _ _ => true
  | .wFmovSAtRmDispFRn _ _ _ => true
  | _ => false

/-- Whether a move of the VV byte (rule R698) names a high half of a general register or a whole one. -/
def moveNamesHigh (v : BitVec 8) : Bool :=
  match (v.extractLsb' 4 4).toNat with
  | 0x3 => v.getLsbD 0
  | 0x7 => true
  | 0x8 => v.getLsbD 2 || v.getLsbD 0
  | 0xA => true
  | 0xC => v.getLsbD 2
  | 0xD => true
  | _ => false

/-- What an FPU instruction asks of the core beside the FPU: the parameter that its row is gated by (rules R8, R967), and
the high halves where it names one (rule R698). Every other FPU instruction asks nothing. -/
def Instr.fpuRowLegal (i : Instr) (s : Machine.State) : Bool :=
  match i with
  | .xFmovDDRmAtRnDisp8s _ _ _ | .xFmovDAtRmDisp8sDRn _ _ _ => s.cfg.hasFmovdDisp
  | .wFmovSFRmAtRnDisp _ _ _ | .wFmovSAtRmDispFRn _ _ _ => s.cfg.hasMisc32
  | .xvFmovFRmFRn v _ _ => !moveNamesHigh v || s.hasRh
  | _ => true

end Sys2Proof
end

