-- ==== Sys2Proof/Certificates/Slice0/Obligations.lean ====
section
/-! DEFINITION. Certificates/Slice0/Obligations.lean: the statements. The first part is about the machine as a whole; the
second has one statement for each group of instructions, one clause for each instruction, and covers every constructor
of `Instr`. The forms of the clauses (`Does`, `DoesLoad`, `DoesStore`, ...) are defined in Safety.lean. -/
section
open Sys2Proof Sys2Proof.Machine

/-! ### The machine -/

/-- Decoding gives back every encoded instruction in each mode that selects its row, whatever words or bytes follow.
No bit of an encoding is dropped. -/
def Obligations.RoundTrip : Prop :=
  ∀ (i : Instr) (jq : Bool), wellFormed i = true → i.legalIn jq = true →
    (∀ ws, decodeWords jq (encode i ++ ws) = .ok i) ∧ ∀ e bs, decode e jq (encodeBytes e i ++ bs) = .ok i

/-- Words written out from the patterns of rule R230, at least one of every block of the opcode table, decode to the
instructions they stand for. -/
def Obligations.DecodeExamples : Prop :=
  decodeWords true [0x6123] = .ok (.movRmRn 1 2) ∧
    decodeWords true [0x312C] = .ok (.addRmRn 1 2) ∧
    decodeWords true [0x2349] = .ok (.andRmRn 3 4) ∧
    decodeWords true [0x4500] = .ok (.shllRn 5) ∧
    decodeWords true [0x8905] = .ok (.bt 5) ∧
    decodeWords true [0x0702] = .ok (.stcSrRn 7) ∧
    decodeWords true [0xF120] = .ok (.faddFRmFRn 1 2) ∧
    decodeWords false [0xC6FF] = .ok (.movLAtGbrDispR0 0xFF) ∧
    decodeWords true [0x8E32, 0x0126] = .ok (.xMovLRmAtRnRoDisp4 3 2 1 2) ∧
    decodeWords true [0x8C06, 0x312C] = .ok (.oAddRmRn false true true false 1 2) ∧
    decodeWords true [0x8C34, 0x0123] = .ok (.tAddRsRtRn true false false 1 2 3) ∧
    decodeWords true [0x3121, 0x4010] = .ok (.wMovBAtRmDispRn 1 2 0x010) ∧
    decodeWords true [0xCE71, 0x0123, 0x4567, 0x89AB] = .ok (.zAddQImm48Rn 1 0x0123456789AB)

/-- When nothing comes before it (no reset, no acceptable interrupt, no sleep), a step fetches and decodes the
instruction at PC and is `exec` of it, on the state after the fetch (rule R970, points 1 to 8). -/
def Obligations.StepRunsFetched : Prop :=
  ∀ (s s' : State) (i : Instr), s.resetReq = false → s.acceptable = none → s.sleeping = false →
    s.fetchInstr = .ok (i, s') → step s = exec i s'

/-- When the words of a well-formed instruction stand at PC and the mode selects its row, the step is `exec` of it at
that very state: moving PC, a delay slot and every check are in `exec` (rule R970, points 4 to 9). -/
def Obligations.StepRunsDecoded : Prop :=
  ∀ (s : State) (i : Instr), s.resetReq = false → s.acceptable = none → s.sleeping = false →
    wellFormed i = true → i.legalIn s.jq = true → s.CodeAt s.pcn (encode i) → step s = exec i s

/-- What the reset procedure writes, and that it writes nothing else; and the mode in which both default cores start
(rules R120, R1030). The values of `RESET_PC` and of the bits T, S, Q, M, TR_JQ and TR_DQ are the model's (logs 3, 4). So is
the clause that reset writes nothing else: that a register which rules R120 and R1031 leave with an arbitrary value keeps
the one it has is the model's choice (log 17). -/
def Obligations.ResetValues : Prop :=
  (∀ s t : State, t = s.performReset →
    t.pc = xlen s.cfg s.cfg.resetPc ∧ t.sr = s.cfg.resetSr &&& srMask s.cfg ∧ t.vbr = xlen s.cfg s.cfg.resetVbr ∧
      t.fpscr = s.cfg.resetFpscr &&& fpscrMask ∧ t.ds = none ∧ t.sleeping = false ∧
      t.lastTrap = ⟨.reset, resetCause s.cfg, 0⟩ ∧ t.stale = [] ∧ t.history = [] ∧
      { t with
        pc := s.pc, sr := s.sr, vbr := s.vbr, fpscr := s.fpscr, ds := s.ds, sleeping := s.sleeping,
        lastTrap := s.lastTrap, stale := s.stale, history := s.history } = s) ∧
    (∀ s ∈ [State.reset, (State.blank Config.default32).performReset],
      s.md = true ∧ s.rb = true ∧ s.bl = true ∧ s.im = 15 ∧ s.fd = false ∧ s.dq = false ∧ s.vbr = 0 ∧
        s.fpscr = 0x00040001 ∧ s.lastTrap = ⟨.reset, 0, 0⟩) ∧
    State.reset.jq = true ∧ State.reset.mapKind = .bjx48 ∧
    (State.blank Config.default32).performReset.jq = false ∧
    (State.blank Config.default32).performReset.mapKind = .legacy29

/-- The invariant holds right after reset. -/
def Obligations.InvAtReset : Prop := State.reset.Inv

/-- Every step keeps the invariant: memory and STALE in canonical form, the reserved bits of SR and FPSCR clear, no
register of a BJX1-32 core beyond its 32 bits, no high half where the core has none. -/
def Obligations.StepKeepsInv : Prop :=
  ∀ s t : State, s.Inv → step s = .next t → t.Inv

/-- No step writes a parameter or an input: the configuration, the interrupt input and the reset request are the
platform's (rules R8, R111, R995). -/
def Obligations.StepKeepsConfigAndInputs : Prop :=
  ∀ s t : State, step s = .next t → t.cfg = s.cfg ∧ t.irq = s.irq ∧ t.resetReq = s.resetReq

/-- The eight steps of trap entry (rule R980), and that nothing else is written (rule R984). -/
def Obligations.TrapEntryEffect : Prop :=
  ∀ (s t : State) (kind : TrapKind) (w : Bool) (value spc : Quad), t = s.trapEntry kind w value spc →
    t.spc = spc ∧ t.ssr = s.sr ∧ t.sgr = (if s.is64 then s.r 15 else (lo32 (s.r 15)).setWidth 64) ∧
      t.md = true ∧ t.rb = true ∧ t.bl = true ∧ t.bankB = true ∧
      (s.is64 = true → t.sr.getLsbD 31 = s.sr.getLsbD 63 ∧ t.sr.getLsbD 12 = s.sr.getLsbD 44) ∧
      (∀ k, k ∉ [28, 29, 30] → (s.is64 = true → k ∉ [12, 31]) → t.sr.getLsbD k = s.sr.getLsbD k) ∧
      t.lastTrap = ⟨kind, causeCode s.cfg kind w value, value⟩ ∧ t.ds = none ∧ t.sleeping = false ∧
      t.pc = t.addr (s.vbr + vectorOf s.cfg kind) ∧
      { t with
        spc := s.spc, ssr := s.ssr, sgr := s.sgr, sr := s.sr, lastTrap := s.lastTrap, ds := s.ds,
        sleeping := s.sleeping, pc := s.pc } = s

/-- Which trap each synchronous exception takes, what it records and what it saves in SPC (rules R971, R974 to R979,
R982), the vectors (rule R981) and the suggested cause codes (rule R971). -/
def Obligations.SynchronousTraps : Prop :=
  (∀ (s : State) (w0 : IWord), s.ds = none →
    (∀ a, s.takeException w0 (.addrRead a) = s.trapEntry .addressErrorRead false a s.pcn) ∧
      (∀ a, s.takeException w0 (.addrWrite a) = s.trapEntry .addressErrorWrite true a s.pcn) ∧
      s.takeException w0 .illegal = s.trapEntry .illegalInstruction false (w0.setWidth 64) s.pcn ∧
      s.takeException w0 .fpuDisable = s.trapEntry .fpuDisable false (w0.setWidth 64) s.pcn ∧
      (∀ a w, s.takeException w0 (.tlbMiss a w) = s.trapEntry .tlbMiss w a s.pcn) ∧
      (∀ a w, s.takeException w0 (.tlbProtection a w) = s.trapEntry .tlbProtection w a s.pcn) ∧
      (∀ k, s.takeException w0 (.trapa k) = s.trapEntry .trapa false (k.setWidth 64) (s.addr (s.pcn + 2))) ∧
      s.takeException w0 .brk = s.trapEntry .breakpoint false 0 (s.addr (s.pcn + 2))) ∧
    (∀ (s : State) (w0 : IWord) (d : DelaySlot), s.ds = some d →
      (∀ a, s.takeException w0 (.addrRead a) = s.trapEntry .addressErrorRead false a d.branchPc) ∧
        (∀ a, s.takeException w0 (.addrWrite a) = s.trapEntry .addressErrorWrite true a d.branchPc) ∧
        s.takeException w0 .illegal = s.trapEntry .slotIllegalInstruction false (w0.setWidth 64) d.branchPc ∧
        s.takeException w0 .fpuDisable = s.trapEntry .slotFpuDisable false (w0.setWidth 64) d.branchPc ∧
        (∀ a w, s.takeException w0 (.tlbMiss a w) = s.trapEntry .tlbMiss w a d.branchPc) ∧
        ∀ a w, s.takeException w0 (.tlbProtection a w) = s.trapEntry .tlbProtection w a d.branchPc) ∧
    (∀ c : Config,
      vectorOf c .tlbMiss = c.vecTlb ∧ vectorOf c .interrupt = c.vecIntr ∧ vectorOf c .nmi = c.vecIntr ∧
        ∀ k ∈ [TrapKind.addressErrorRead, .addressErrorWrite, .illegalInstruction, .slotIllegalInstruction, .fpuDisable,
          .slotFpuDisable, .tlbProtection, .trapa, .breakpoint], vectorOf c k = c.vecGeneral) ∧
    ∀ (c : Config) (w : Bool) (v : Quad), c.cause = .suggested →
      causeCode c .addressErrorRead w v = 0x0E0 ∧ causeCode c .addressErrorWrite w v = 0x100 ∧
        causeCode c .illegalInstruction w v = 0x180 ∧ causeCode c .slotIllegalInstruction w v = 0x1A0 ∧
        causeCode c .fpuDisable w v = 0x800 ∧ causeCode c .slotFpuDisable w v = 0x820 ∧
        causeCode c .tlbMiss w v = (if w then 0x060 else 0x040) ∧
        causeCode c .tlbProtection w v = (if w then 0x0C0 else 0x0A0) ∧ causeCode c .trapa w v = 0x160 ∧
        causeCode c .breakpoint w v = 0x1E0 ∧ causeCode c .nmi w v = 0x1C0 ∧
        ∀ k : Nat, 1 ≤ k → k ≤ 15 →
          causeCode c .interrupt w (BitVec.ofNat 64 k) = BitVec.ofNat 32 (0x200 + 0x20 * (15 - k))

/-- When an interrupt is acceptable, of which level, and that the step then takes it (rules R995, R996, R997). That the
step takes it at once, where rule R996 lets a model decline to sample, is the model's choice (log 16). -/
def Obligations.InterruptsTaken : Prop :=
  (∀ (s : State) (l : Nat),
    s.acceptable = some l ↔ s.ds = none ∧ s.bl = false ∧ s.im.toNat < s.irq.level ∧ l = s.irq.level) ∧
    (∀ q : Irq, q.nmi = true → q.level = 16) ∧
    (∀ q : Irq, q.nmi = false →
      q.level ≤ 15 ∧ (q.level ≠ 0 → q.levels.getLsbD q.level = true) ∧
        ∀ k, 1 ≤ k → k ≤ 15 → q.levels.getLsbD k = true → k ≤ q.level) ∧
    ∀ (s : State) (l : Nat), s.resetReq = false → s.acceptable = some l →
      step s = .next (s.trapEntry (if l = 16 then .nmi else .interrupt) false (BitVec.ofNat 64 l) s.pcn)

/-- Every privileged instruction in user mode is an illegal instruction (rules R541, R1010). -/
def Obligations.PrivilegedInUserMode : Prop :=
  ∀ (i : Instr) (s : State), i.privileged = true → s.md = false → Raises i s .illegal

/-- A step leads from user mode to supervisor mode only by reset, by an accepted interrupt or by an exception
(rule R1010). -/
def Obligations.UserModeStays : Prop :=
  ∀ s t : State, s.md = false → step s = .next t → t.md = true →
    (s.resetReq = true ∧ t = s.performReset) ∨ (∃ l, s.acceptable = some l ∧ t = s.takeInterrupt l) ∨
      ∃ k w e, t = { s with freeCount := k }.takeException w e

/-- In user mode no instruction reads or writes bank B: with other contents of bank B the outcome is the same but for
those contents (rule R1011 (c)). -/
def Obligations.BankBIsolated : Prop :=
  ∀ (i : Instr) (s : State) (v : Vector Quad 8), s.md = false → exec i { s with gb := v } = withBankB v (exec i s)

/-- The checks of an access in their order: canonical address, alignment, range, user access (rules R131, R134, R137,
R144), where an access then goes by the kind of its range, that none leads into a device region (rule R134, step 5),
and which addresses each map gives to user mode (rules R141, R142, R143). That the range is the one of the first byte
and the other bytes follow it is log 9, that the identity translation reduces an address modulo the size of the map is
log 22, and that a device range, and a physical address in a device region, is refused, and which regions those are
under bjx48, is log 8. -/
def Obligations.AccessChecks : Prop :=
  (∀ a : Quad, canonical a = true ↔ ∀ k, 48 ≤ k → k < 64 → a.getLsbD k = a.getLsbD 47) ∧
    (∀ (s : State) (kind : Access) (md : Bool) (align : Nat) (x a : Quad), a = s.addr x →
      (s.jq = true → canonical a = false → s.resolve kind md align x = .error (addrError kind a)) ∧
        (a.toNat % align ≠ 0 → s.resolve kind md align x = .error (addrError kind a)) ∧
        (findRange (mapIndex s.mapKind a) (mapRows s.mapKind) = none →
          s.resolve kind md align x = .error (addrError kind a)) ∧
        ∀ row, findRange (mapIndex s.mapKind a) (mapRows s.mapKind) = some row →
          (md = false → row.user = false → s.resolve kind md align x = .error (addrError kind a)) ∧
            ((s.jq = true → canonical a = true) → a.toNat % align = 0 → (md = true ∨ row.user = true) →
              (row.kind = .direct ∨ row.kind = .mmu ∧ s.cfg.translate = .suggested →
                s.resolve kind md align x =
                  if isDevice s.mapKind (a.toNat % physicalSize s.mapKind) then .error (.refuse (.deviceAccess a))
                  else .ok (a.toNat % physicalSize s.mapKind)) ∧
              (row.kind = .mmu → s.cfg.translate = .opened →
                (∀ q, Config.openTranslate a kind md = .physical q →
                  s.resolve kind md align x =
                    if isDevice s.mapKind (physicalOf s.mapKind q) then .error (.refuse (.deviceAccess a))
                    else .ok (physicalOf s.mapKind q)) ∧
                (Config.openTranslate a kind md = .miss →
                  s.resolve kind md align x = .error (.exc (.tlbMiss a (kind = .write)))) ∧
                (Config.openTranslate a kind md = .protection →
                  s.resolve kind md align x = .error (.exc (.tlbProtection a (kind = .write))))) ∧
              (row.kind = .device → s.resolve kind md align x = .error (.refuse (.deviceAccess a))))) ∧
    (∀ (s : State) (kind : Access) (md : Bool) (align : Nat) (x : Quad) (p : Nat),
      s.resolve kind md align x = .ok p → isDevice s.mapKind p = false) ∧
    (∀ p, isDevice .bjx32 p = true ↔ 0xE0000000 ≤ p ∧ p ≤ 0xFFFFFFFF) ∧
    (∀ x, x < 2 ^ 32 → ∃ row, findRange x (mapRows .legacy29) = some row ∧ (row.user = true ↔ x < 0x80000000)) ∧
    (∀ x, x < 2 ^ 32 → ∃ row, findRange x (mapRows .bjx32) = some row ∧ (row.user = true ↔ x < 0xC0000000)) ∧
    ∀ x, x < 2 ^ 48 → ∀ row, findRange x (mapRows .bjx48) = some row → (row.user = true ↔ x < 0x800000000000)

/-- What may not stand in a delay slot: a form longer than 16 bits, a branch, RTE, TRAPA, BRK, SLEEP and the PC-relative
rows (rules R501, R975). -/
def Obligations.SlotRules : Prop :=
  ∀ (i : Instr) (s : State), s.ds.isSome = true → (i.length ≠ 2 ∨ i.slotForbidden = true) → Raises i s .illegal

/-- How an instruction that does not branch ends: after itself, or in a delay slot at the branch's target (rules R60,
R61, R500). -/
def Obligations.EndOfInstruction : Prop :=
  ∀ (s : State) (p l : Quad),
    (s.ds = none → s.advance p l = { s with pc := s.addr (p + l) }) ∧
      ∀ d, s.ds = some d → s.advance p l = { s with pc := s.addr d.target, ds := none }

/-- An instruction whose operands no state allows is an illegal instruction (rules R690, R697, R698, R699, R861). It is one
with SR.FD set too: that these checks come before FpuDisable, by the order of rule R1000 where rules R698 and R699 list
FpuCheck first, is log 26. -/
def Obligations.IllFormedTrap : Prop :=
  ∀ (i : Instr) (s : State), wellFormed i = false → Raises i s .illegal

/-- A load of the bytes just stored gives the value stored, cut to its width, in either byte order (rules R132, R134,
R135). -/
def Obligations.StoreThenLoad : Prop :=
  ∀ (s : State) (a v : Quad) (n p : Nat), n ∈ [1, 2, 4, 8] → Memory.wf s.mem →
    s.resolve .write s.md (alignOf n) a = .ok p → s.resolve .read s.md (alignOf n) a = .ok p →
    ∃ t, s.store a n v = .ok t ∧ t.load a n = .ok ((v.setWidth (8 * n)).setWidth 64)

/-- Memories in canonical form that read alike are equal: memory as data says no more than its bytes (log 5). -/
def Obligations.MemoryExtensional : Prop :=
  ∀ m m' : Memory, Memory.wf m → Memory.wf m' → (∀ a, Memory.read m a = Memory.read m' a) → m = m'

/-- The general registers: which cell a number names, and that a write changes that cell, or that half of it, alone
(rules R16, R51, R52, R53). -/
def Obligations.RegisterFile : Prop :=
  ∀ s : State,
    (∀ n m v, (s.setR n v).r m = if m = n then v else s.r m) ∧
      (∀ x y n m v, (s.setHalf x n v).half y m = if m = n ∧ y = x then v else s.half y m) ∧
      (∀ n b v, (s.setR n v).ob b = s.ob b) ∧
      (∀ b c v, (s.setOb b v).ob c = if c = b then v else s.ob c) ∧
      (∀ b n v, (s.setOb b v).r n = s.r n) ∧
      (∀ k : BankReg, s.md = true → s.rb = true → s.r (0#1 ++ k) = get8 s.gb k ∧ s.ob k = get8 s.ga k) ∧
      (∀ k : BankReg, (s.md = false ∨ s.rb = false) → s.r (0#1 ++ k) = get8 s.ga k ∧ s.ob k = get8 s.gb k) ∧
      ∀ k : BankReg, s.r (1#1 ++ k) = get8 s.g k

/-- The FPU registers: a write changes one cell alone, FPSCR.FR exchanges the banks, and a double register is the pair of
cells that its number names, an odd number naming a pair of the other bank (rules R100, R101, R642). -/
def Obligations.FpRegisterFile : Prop :=
  ∀ s : State,
    (∀ x y i j v, (s.setFx x i v).fx y j = if y = x ∧ j = i then v else s.fx y j) ∧
      (∀ x i, { s with fpscr := s.fpscr ^^^ 0x00200000 }.fx x i = s.fx (!x) i) ∧
      (∀ b n, n.getLsbD 0 = false → s.pair b n = s.fx b n ++ s.fx b (n + 1)) ∧
      (∀ b n, n.getLsbD 0 = true → s.pair b n = s.fx (!b) (n - 1) ++ s.fx (!b) n) ∧
      ∀ b n v c m, (s.setPair b n v).pair c m =
        if (c ^^ m.getLsbD 0) = (b ^^ n.getLsbD 0) ∧ m &&& 0xE = n &&& 0xE then v else s.pair c m

/-- A result without a size suffix: the low half is the result, and at DQ = 1 the upper half is what `NOSUFFIX_HI` says:
a free value, unchanged, or the natural extension where one is stated (rule R57). -/
def Obligations.NoSuffixWrite : Prop :=
  ∀ (s : State) (n : Reg) (v : Dword),
    (∀ e, (s.wrNoSuffix n e v).half false n = v) ∧
      (∀ e, s.dq = false → s.wrNoSuffix n e v = s.setHalf false n v) ∧
      (∀ e, s.dq = true → s.cfg.noSuffixHi = .preserve → s.wrNoSuffix n e v = s.setHalf false n v) ∧
      (s.dq = true → s.cfg.noSuffixHi = .extend → s.wrNoSuffix n .sign v = s.setR n (v.signExtend 64)) ∧
      (s.dq = true → s.cfg.noSuffixHi = .extend → s.wrNoSuffix n .zero v = s.setR n (v.setWidth 64)) ∧
      ∀ e, s.dq = true → s.cfg.noSuffixHi = .any →
        s.wrNoSuffix n e v =
          { s with freeCount := s.freeCount + 1 }.setR n (hi32 (Config.freeValue s.freeCount) ++ v)

/-- An instruction that is none of the storing ones leaves every byte of memory as it is, trap or no trap. -/
def Obligations.MemoryKept : Prop :=
  ∀ (i : Instr) (s t : State), i.stores = false → exec i s = .next t → t.mem = s.mem

/-- What a fetch reads: the bytes in memory, or, where one of the two is stale and the cache is not coherent, either those
or the ones that were there at the last ICBI of the address or at reset (rules R113, R136, R160); which bytes those are
after a reset and after an ICBI (after a store, `StoredIn` says it in every statement about a store). That these are read at
the physical address of the fetch, that both stale bytes
of a word are old or both new, and that STALE holds logical addresses, so that a store through another logical address of
the same byte does not make it stale, is log 11. -/
def Obligations.StaleFetch : Prop :=
  (∀ (s : State) (a : Quad) (p : Nat), s.resolve .fetch s.fetchMd 2 a = .ok p →
    (s.cfg.icacheCoherent = true ∨ (s.addr a).toNat ∉ s.stale ∧ (s.addr (a + 1)).toNat ∉ s.stale →
      s.fetch16 a = .ok (wordOfBytes s.cfg.endian (Memory.read s.mem p) (Memory.read s.mem (p + 1)), s)) ∧
      (s.cfg.icacheCoherent = false → ((s.addr a).toNat ∈ s.stale ∨ (s.addr (a + 1)).toNat ∈ s.stale) →
        ∃ w, s.fetch16 a = .ok (w, { s with freeCount := s.freeCount + 1 }) ∧
          (w = wordOfBytes s.cfg.endian (Memory.read s.mem p) (Memory.read s.mem (p + 1)) ∨
            w = wordOfBytes s.cfg.endian
              (if (s.addr a).toNat ∈ s.stale then oldByte s.history (s.addr a).toNat p (Memory.read s.mem p)
                else Memory.read s.mem p)
              (if (s.addr (a + 1)).toNat ∈ s.stale then
                  oldByte s.history (s.addr (a + 1)).toNat (p + 1) (Memory.read s.mem (p + 1))
                else Memory.read s.mem (p + 1))))) ∧
    ∀ (s : State) (c p : Nat),
      oldByte s.performReset.history c p (Memory.read s.performReset.mem p) = Memory.read s.mem p ∧
        ∀ a : Quad, oldByte (s.icbi a).history c p (Memory.read (s.icbi a).mem p) =
          if icbiCovers s.freeCount (s.addr a) c then Memory.read s.mem p
          else oldByte s.history c p (Memory.read s.mem p)

/-- FpuCheck: without an FPU every FPU instruction is an illegal instruction; with SR.FD set every one that is otherwise
legal raises FpuDisable, whether its optional row is enabled and its high half there being asked only of the rows that
have such a condition; where that condition fails it is an illegal instruction (rules R640, R641, R976, R1000). -/
def Obligations.FpuCheck : Prop :=
  ∀ (i : Instr) (s : State), i.usesFpu = true →
    (s.cfg.fpu = .absent → Raises i s .illegal) ∧
      (s.cfg.fpu = .basic → s.fd = true → wellFormed i = true → i.fpuRowLegal s = true →
        (i.length = 2 ∨ s.ds = none) → Raises i s .fpuDisable) ∧
      (i.fpuRowLegal s = false → Raises i s .illegal)

/-- A step under reset is the reset procedure; a sleeping core without an acceptable interrupt stays as it is (rules
R970, R1019). -/
def Obligations.SleepAndResetStep : Prop :=
  ∀ s : State,
    (s.resetReq = true → step s = .next s.performReset) ∧
      (s.resetReq = false → s.acceptable = none → s.sleeping = true → step s = .next s)

/-! ### The instructions -/

/-- MOV, MOV immediate, MOVT, MOVRT, SWAP.B, SWAP.W, XTRCT: the register each leaves. Each line gives the words of the
instruction, its whole next state (so nothing else changes), and where it raises an exception, which one. MOVRT is
the spec's own reading (the SH-2A operation). The upper half that a no-suffix write leaves at DQ = 1, and that SWAP
and XTRCT have no natural extension, are the model's (log 13). -/
def Obligations.MovesAndExtracts : Prop :=
  ∀ s : State,
    (∀ n m, Does [mk4 0x6#4 n m 0x3#4] (.movRmRn n m) s (s.done16 (s.writeW n (s.r m) (lo32 (s.r m))))) ∧
    (∀ n imm,
       Does [mk4 0xE#4 n (imm.extractLsb' 4 4) (imm.extractLsb' 0 4)] (.movImmRn n imm) s
         (s.done16 (s.writeW n (imm.signExtend 64) (imm.signExtend 32)))) ∧
    (∀ n, Does [mk4 0x0#4 n 0x2#4 0x9#4] (.movtRn n) s (s.done16 (s.wrNoSuffix n .zero (if s.t then 1 else 0)))) ∧
    (∀ n, Does [mk4 0x0#4 n 0x3#4 0x9#4] (.movrtRn n) s (s.done16 (s.wrNoSuffix n .zero (if s.t then 0 else 1)))) ∧
    (∀ n m,
       Does [mk4 0x6#4 n m 0x8#4] (.swapBRmRn n m) s
         (s.done16
            (s.wrNoSuffix n .unstated
               ((s.r m).extractLsb' 16 16 ++ (s.r m).extractLsb' 0 8 ++ (s.r m).extractLsb' 8 8)))) ∧
    (∀ n m,
       Does [mk4 0x6#4 n m 0x9#4] (.swapWRmRn n m) s
         (s.done16 (s.wrNoSuffix n .unstated ((s.r m).extractLsb' 0 16 ++ (s.r m).extractLsb' 16 16)))) ∧
    (∀ n m,
       Does [mk4 0x2#4 n m 0xD#4] (.xtrctRmRn n m) s
         (s.done16 (s.wrNoSuffix n .unstated ((s.r m).extractLsb' 0 16 ++ (s.r n).extractLsb' 16 16))))

/-- The 16-bit MOV stores: address, width, bytes, pre-decrement, frame, exceptions. A store line names the alignment,
the byte count, the address and the value: where the write is allowed exactly those bytes hold the value, every
other byte reads as before and the rest of the state is the one named; where the access raises an exception, that
exception is taken. A load line gives the next state from the bytes at the address, and the same for its exceptions.
Covers @Rn, @-Rn, @(R0,Rn), @(Rn,disp) for Long and R0 to @(Rn,disp) for Byte. -/
def Obligations.PlainStores : Prop :=
  ∀ s : State,
    (∀ n m, DoesStore [mk4 0x2#4 n m 0x0#4] (.movBRmAtRn n m) s 1 1 (s.r n) (s.r m) (s.done16 s)) ∧
    (∀ n m,
       DoesStore [mk4 0x2#4 n m 0x1#4] (.movWQRmAtRn n m) s (if s.dq then 4 else 2) (if s.dq then 8 else 2) (s.r n)
         (s.r m) (s.done16 s)) ∧
    (∀ n m, DoesStore [mk4 0x2#4 n m 0x2#4] (.movLRmAtRn n m) s 4 4 (s.r n) (s.r m) (s.done16 s)) ∧
    (∀ n m,
       DoesStore [mk4 0x2#4 n m 0x4#4] (.movBRmAtDecRn n m) s 1 1 (s.r n - 1) (s.r m)
         (s.done16 (s.writeA n (s.r n - 1)))) ∧
    (∀ n m,
       DoesStore [mk4 0x2#4 n m 0x5#4] (.movWQRmAtDecRn n m) s (if s.dq then 4 else 2) (if s.dq then 8 else 2)
         (s.r n - (if s.dq then 8 else 2)) (s.r m) (s.done16 (s.writeA n (s.r n - (if s.dq then 8 else 2))))) ∧
    (∀ n m,
       DoesStore [mk4 0x2#4 n m 0x6#4] (.movLRmAtDecRn n m) s 4 4 (s.r n - 4) (s.r m)
         (s.done16 (s.writeA n (s.r n - 4)))) ∧
    (∀ n m, DoesStore [mk4 0x0#4 n m 0x4#4] (.movBRmAtR0Rn n m) s 1 1 (s.r 0 + s.r n) (s.r m) (s.done16 s)) ∧
    (∀ n m,
       DoesStore [mk4 0x0#4 n m 0x5#4] (.movWQRmAtR0Rn n m) s (if s.dq then 4 else 2) (if s.dq then 8 else 2)
         (s.r 0 + s.r n) (s.r m) (s.done16 s)) ∧
    (∀ n m, DoesStore [mk4 0x0#4 n m 0x6#4] (.movLRmAtR0Rn n m) s 4 4 (s.r 0 + s.r n) (s.r m) (s.done16 s)) ∧
    (∀ n m disp,
       DoesStore [mk4 0x1#4 n m disp] (.movLRmAtRnDisp n m disp) s 4 4 (s.r n + disp.setWidth 64 * 4) (s.r m)
         (s.done16 s)) ∧
    (∀ n disp,
       DoesStore [mk4 0x8#4 0x0#4 n disp] (.movBR0AtRnDisp n disp) s 1 1 (s.r n + disp.setWidth 64) (s.r 0)
         (s.done16 s))

/-- The 16-bit MOV loads: address, width, extension, post-increment, frame, exceptions. A store line names the
alignment, the byte count, the address and the value: where the write is allowed exactly those bytes hold the value,
every other byte reads as before and the rest of the state is the one named; where the access raises an exception,
that exception is taken. A load line gives the next state from the bytes at the address, and the same for its
exceptions. Covers @Rm, @Rm+, @(R0,Rm), @(Rm,disp) for Long and Byte to R0. The load write is last, so it wins when
both registers are one. -/
def Obligations.PlainLoads : Prop :=
  ∀ s : State,
    (∀ n m,
       DoesLoad [mk4 0x6#4 n m 0x0#4] (.movBAtRmRn n m) s 1 1 (s.r m) fun v =>
         s.done16 (s.writeW n ((v.setWidth 8).signExtend 64) ((v.setWidth 8).signExtend 32))) ∧
    (∀ n m,
       DoesLoad [mk4 0x6#4 n m 0x1#4] (.movWQAtRmRn n m) s (if s.dq then 4 else 2) (if s.dq then 8 else 2) (s.r m) fun
         v =>
         s.done16 (s.writeW n v ((v.setWidth 16).signExtend 32))) ∧
    (∀ n m,
       DoesLoad [mk4 0x6#4 n m 0x2#4] (.movLAtRmRn n m) s 4 4 (s.r m) fun v =>
         s.done16 (s.writeW n ((v.setWidth 32).signExtend 64) ((v.setWidth 32).signExtend 32))) ∧
    (∀ n m,
       DoesLoad [mk4 0x6#4 n m 0x4#4] (.movBAtRmIncRn n m) s 1 1 (s.r m) fun v =>
         s.done16 ((s.writeA m (s.r m + 1)).writeW n ((v.setWidth 8).signExtend 64) ((v.setWidth 8).signExtend 32))) ∧
    (∀ n m,
       DoesLoad [mk4 0x6#4 n m 0x5#4] (.movWQAtRmIncRn n m) s (if s.dq then 4 else 2) (if s.dq then 8 else 2) (s.r m)
         fun v =>
         s.done16 ((s.writeA m (s.r m + (if s.dq then 8 else 2))).writeW n v ((v.setWidth 16).signExtend 32))) ∧
    (∀ n m,
       DoesLoad [mk4 0x6#4 n m 0x6#4] (.movLAtRmIncRn n m) s 4 4 (s.r m) fun v =>
         s.done16 ((s.writeA m (s.r m + 4)).writeW n ((v.setWidth 32).signExtend 64) ((v.setWidth 32).signExtend 32))) ∧
    (∀ n m,
       DoesLoad [mk4 0x0#4 n m 0xC#4] (.movBAtR0RmRn n m) s 1 1 (s.r 0 + s.r m) fun v =>
         s.done16 (s.writeW n ((v.setWidth 8).signExtend 64) ((v.setWidth 8).signExtend 32))) ∧
    (∀ n m,
       DoesLoad [mk4 0x0#4 n m 0xD#4] (.movWQAtR0RmRn n m) s (if s.dq then 4 else 2) (if s.dq then 8 else 2)
         (s.r 0 + s.r m) fun v =>
         s.done16 (s.writeW n v ((v.setWidth 16).signExtend 32))) ∧
    (∀ n m,
       DoesLoad [mk4 0x0#4 n m 0xE#4] (.movLAtR0RmRn n m) s 4 4 (s.r 0 + s.r m) fun v =>
         s.done16 (s.writeW n ((v.setWidth 32).signExtend 64) ((v.setWidth 32).signExtend 32))) ∧
    (∀ n m disp,
       DoesLoad [mk4 0x5#4 n m disp] (.movLAtRmDispRn n m disp) s 4 4 (s.r m + disp.setWidth 64 * 4) fun v =>
         s.done16 (s.writeW n ((v.setWidth 32).signExtend 64) ((v.setWidth 32).signExtend 32))) ∧
    (∀ m disp,
       DoesLoad [mk4 0x8#4 0x4#4 m disp] (.movBAtRmDispR0 m disp) s 1 1 (s.r m + disp.setWidth 64) fun v =>
         s.done16 (s.writeW 0 ((v.setWidth 8).signExtend 64) ((v.setWidth 8).signExtend 32)))

/-- PC-relative loads, MOVA and the GBR transfers, with the slot and JQ conditions that make them illegal. A store line
names the alignment, the byte count, the address and the value: where the write is allowed exactly those bytes hold
the value, every other byte reads as before and the rest of the state is the one named; where the access raises an
exception, that exception is taken. A load line gives the next state from the bytes at the address, and the same for
its exceptions. A PC-relative row in a delay slot is a slot illegal instruction; a GBR row is legal only at JQ = 0. -/
def Obligations.PcAndGbrTransfers : Prop :=
  ∀ s : State,
    (∀ n disp,
       s.ds = none →
         DoesLoad [mk4 0x9#4 n (disp.extractLsb' 4 4) (disp.extractLsb' 0 4)] (.movWQAtPcDispRn n disp) s
           (if s.dq then 4 else 2) (if s.dq then 8 else 2)
           (if s.dq then (s.addr (s.pcn + 4) &&& ~~~3#64) + disp.setWidth 64 * 8
            else s.addr (s.pcn + 4) + disp.setWidth 64 * 2) fun v =>
           s.done16 (s.writeW n v ((v.setWidth 16).signExtend 32))) ∧
    (∀ n disp,
       s.ds = none →
         DoesLoad [mk4 0xD#4 n (disp.extractLsb' 4 4) (disp.extractLsb' 0 4)] (.movLAtPcDispRn n disp) s 4 4
           ((s.addr (s.pcn + 4) &&& ~~~3#64) + disp.setWidth 64 * 4) fun v =>
           s.done16 (s.writeW n ((v.setWidth 32).signExtend 64) ((v.setWidth 32).signExtend 32))) ∧
    (∀ disp,
       s.ds = none →
         Does [mk4 0xC#4 0x7#4 (disp.extractLsb' 4 4) (disp.extractLsb' 0 4)] (.movaAtPcDispR0 disp) s
           (s.done16 (s.writeA 0 ((s.addr (s.pcn + 4) &&& ~~~3#64) + disp.setWidth 64 * 4)))) ∧
    (∀ n disp, s.ds.isSome = true → Raises (.movWQAtPcDispRn n disp) s .illegal) ∧
    (∀ n disp, s.ds.isSome = true → Raises (.movLAtPcDispRn n disp) s .illegal) ∧
    (∀ disp, s.ds.isSome = true → Raises (.movaAtPcDispR0 disp) s .illegal) ∧
    (∀ disp,
       s.jq = false →
         DoesStore [mk4 0xC#4 0x0#4 (disp.extractLsb' 4 4) (disp.extractLsb' 0 4)] (.movBR0AtGbrDisp disp) s 1 1
           (s.gbr + disp.setWidth 64 * 1) (s.r 0) (s.done16 s)) ∧
    (∀ disp, s.jq = true → Raises (.movBR0AtGbrDisp disp) s .illegal) ∧
    (∀ disp,
       s.jq = false →
         DoesStore [mk4 0xC#4 0x1#4 (disp.extractLsb' 4 4) (disp.extractLsb' 0 4)] (.movWQR0AtGbrDisp disp) s 2 2
           (s.gbr + disp.setWidth 64 * 2) (s.r 0) (s.done16 s)) ∧
    (∀ disp, s.jq = true → Raises (.movWQR0AtGbrDisp disp) s .illegal) ∧
    (∀ disp,
       s.jq = false →
         DoesStore [mk4 0xC#4 0x2#4 (disp.extractLsb' 4 4) (disp.extractLsb' 0 4)] (.movLR0AtGbrDisp disp) s 4 4
           (s.gbr + disp.setWidth 64 * 4) (s.r 0) (s.done16 s)) ∧
    (∀ disp, s.jq = true → Raises (.movLR0AtGbrDisp disp) s .illegal) ∧
    (∀ disp,
       s.jq = false →
         DoesLoad [mk4 0xC#4 0x4#4 (disp.extractLsb' 4 4) (disp.extractLsb' 0 4)] (.movBAtGbrDispR0 disp) s 1 1
           (s.gbr + disp.setWidth 64 * 1) fun v =>
           s.done16 (s.writeW 0 ((v.setWidth 8).signExtend 64) ((v.setWidth 8).signExtend 32))) ∧
    (∀ disp, s.jq = true → Raises (.movBAtGbrDispR0 disp) s .illegal) ∧
    (∀ disp,
       s.jq = false →
         DoesLoad [mk4 0xC#4 0x5#4 (disp.extractLsb' 4 4) (disp.extractLsb' 0 4)] (.movWQAtGbrDispR0 disp) s 2 2
           (s.gbr + disp.setWidth 64 * 2) fun v =>
           s.done16 (s.writeW 0 ((v.setWidth 16).signExtend 64) ((v.setWidth 16).signExtend 32))) ∧
    (∀ disp, s.jq = true → Raises (.movWQAtGbrDispR0 disp) s .illegal) ∧
    (∀ disp,
       s.jq = false →
         DoesLoad [mk4 0xC#4 0x6#4 (disp.extractLsb' 4 4) (disp.extractLsb' 0 4)] (.movLAtGbrDispR0 disp) s 4 4
           (s.gbr + disp.setWidth 64 * 4) fun v =>
           s.done16 (s.writeW 0 ((v.setWidth 32).signExtend 64) ((v.setWidth 32).signExtend 32))) ∧
    (∀ disp, s.jq = true → Raises (.movLAtGbrDispR0 disp) s .illegal)

/-- R0 transfers with increment or decrement, PUSH, POP, MOV.Q/W, MOVUA.L, MOVCA.L, MOV.W/Q with displacement. A store
line names the alignment, the byte count, the address and the value: where the write is allowed exactly those bytes
hold the value, every other byte reads as before and the rest of the state is the one named; where the access raises
an exception, that exception is taken. A load line gives the next state from the bytes at the address, and the same
for its exceptions. MOV.Q/W is illegal at JQ = 0. MOV.W/Q with displacement 0 is always a word (the spec's
decision). -/
def Obligations.StackAndR0Transfers : Prop :=
  ∀ s : State,
    (∀ n disp,
       DoesStore [mk4 0x8#4 0x1#4 n disp] (.movWQR0AtRnDisp n disp) s (if s.dq ∧ disp ≠ 0 then 4 else 2)
         (if s.dq ∧ disp ≠ 0 then 8 else 2) (s.r n + disp.setWidth 64 * (if s.dq ∧ disp ≠ 0 then 8 else 2)) (s.r 0)
         (s.done16 s)) ∧
    (∀ m disp,
       DoesLoad [mk4 0x8#4 0x5#4 m disp] (.movWQAtRmDispR0 m disp) s (if s.dq ∧ disp ≠ 0 then 4 else 2)
         (if s.dq ∧ disp ≠ 0 then 8 else 2) (s.r m + disp.setWidth 64 * (if s.dq ∧ disp ≠ 0 then 8 else 2)) fun v =>
         s.done16 (s.writeW 0 (if disp = 0 then (v.setWidth 16).signExtend 64 else v) ((v.setWidth 16).signExtend 32))) ∧
    (∀ n,
       DoesStore [mk4 0x4#4 n 0x8#4 0xB#4] (.movBR0AtRnInc n) s 1 1 (s.r n) (s.r 0)
         (s.done16 (s.writeA n (s.r n + 1)))) ∧
    (∀ n,
       DoesStore [mk4 0x4#4 n 0x9#4 0xB#4] (.movWQR0AtRnInc n) s (if s.dq then 4 else 2) (if s.dq then 8 else 2)
         (s.r n) (s.r 0) (s.done16 (s.writeA n (s.r n + (if s.dq then 8 else 2))))) ∧
    (∀ n,
       DoesStore [mk4 0x4#4 n 0xA#4 0xB#4] (.movLR0AtRnInc n) s 4 4 (s.r n) (s.r 0)
         (s.done16 (s.writeA n (s.r n + 4)))) ∧
    (∀ m,
       DoesLoad [mk4 0x4#4 m 0xC#4 0xB#4] (.movBAtDecRmR0 m) s 1 1 (s.r m - 1) fun v =>
         s.done16 ((s.writeA m (s.r m - 1)).writeW 0 ((v.setWidth 8).signExtend 64) ((v.setWidth 8).signExtend 32))) ∧
    (∀ m,
       DoesLoad [mk4 0x4#4 m 0xD#4 0xB#4] (.movWQAtDecRmR0 m) s (if s.dq then 4 else 2) (if s.dq then 8 else 2)
         (s.r m - (if s.dq then 8 else 2)) fun v =>
         s.done16 ((s.writeA m (s.r m - (if s.dq then 8 else 2))).writeW 0 v ((v.setWidth 16).signExtend 32))) ∧
    (∀ m,
       DoesLoad [mk4 0x4#4 m 0xE#4 0xB#4] (.movLAtDecRmR0 m) s 4 4 (s.r m - 4) fun v =>
         s.done16 ((s.writeA m (s.r m - 4)).writeW 0 ((v.setWidth 32).signExtend 64) ((v.setWidth 32).signExtend 32))) ∧
    (∀ m,
       DoesStore [mk4 0x4#4 m 0x4#4 0x8#4] (.pushLQRm m) s 4 (if s.jq then 8 else 4)
         (s.r 15 - (if s.jq then 8 else 4)) (s.r m) (s.done16 (s.writeA 15 (s.r 15 - (if s.jq then 8 else 4))))) ∧
    (∀ n,
       DoesLoad [mk4 0x4#4 n 0x5#4 0x8#4] (.popLQRn n) s 4 (if s.jq then 8 else 4) (s.r 15) fun v =>
         s.done16 ((s.writeA 15 (s.r 15 + (if s.jq then 8 else 4))).writeA n v)) ∧
    (∀ n,
       s.jq = true →
         DoesLoad [mk4 0x4#4 n 0x6#4 0x4#4] (.movQWAtR0Rn n) s (if s.dq then 2 else 4) (if s.dq then 2 else 8) (s.r 0)
           fun v =>
           s.done16 (s.setR n (if s.dq then (v.setWidth 16).signExtend 64 else v))) ∧
    (∀ m,
       s.jq = true →
         DoesStore [mk4 0x4#4 m 0x7#4 0x4#4] (.movQWRmAtR0 m) s (if s.dq then 2 else 4) (if s.dq then 2 else 8)
           (s.r 0) (s.r m) (s.done16 s)) ∧
    (∀ n, s.jq = false → Raises (.movQWAtR0Rn n) s .illegal) ∧
    (∀ m, s.jq = false → Raises (.movQWRmAtR0 m) s .illegal) ∧
    (∀ m,
       DoesLoad [mk4 0x4#4 m 0xA#4 0x9#4] (.movuaLAtRmR0 m) s 1 4 (s.r m) fun v =>
         s.done16 (s.writeW 0 ((v.setWidth 32).signExtend 64) ((v.setWidth 32).signExtend 32))) ∧
    (∀ m,
       DoesLoad [mk4 0x4#4 m 0xE#4 0x9#4] (.movuaLAtRmIncR0 m) s 1 4 (s.r m) fun v =>
         s.done16 ((s.writeA m (s.r m + 4)).writeW 0 ((v.setWidth 32).signExtend 64) ((v.setWidth 32).signExtend 32))) ∧
    (∀ m, DoesStore [mk4 0x0#4 m 0xA#4 0x9#4] (.movuaLR0AtRm m) s 1 4 (s.r m) (s.r 0) (s.done16 s)) ∧
    (∀ m,
       DoesStore [mk4 0x0#4 m 0xE#4 0x9#4] (.movuaLR0AtDecRm m) s 1 4 (s.r m - 4) (s.r 0)
         (s.done16 (s.writeA m (s.r m - 4)))) ∧
    (∀ n, DoesStore [mk4 0x0#4 n 0xC#4 0x3#4] (.movcaLR0AtRn n) s 4 4 (s.r n) (s.r 0) (s.done16 s))

/-- TAS.B, the byte operations on @(GBR,R0) and CAS.L: the byte or dword written, T, and each exception. Where the read
and then the write are allowed, memory holds the new value and T is as the rule says; where the read, or after it
the write, raises an exception, that is taken and nothing is changed. Of TAS.B and CAS.L both checks come before
either access, so the write raises its exception even where what is read is a device; CAS.L writes only where the
values are equal, so elsewhere it needs no place to write to. TAS.B's address form and CAS.L are the spec's
decisions. -/
def Obligations.ReadModifyWrite : Prop :=
  ∀ s : State,
    (∀ n,
       DoesModify [mk4 0x4#4 n 0x1#4 0xB#4] (.tasBAtRn n) s (s.r n) (fun b => b ||| 0x80) fun b =>
         s.done16 (s.setT (b = 0))) ∧
    (∀ imm,
       s.jq = false →
         DoesModify [mk4 0xC#4 0xD#4 (imm.extractLsb' 4 4) (imm.extractLsb' 0 4)] (.andBImmAtGbrR0 imm) s
           (s.gbr + s.r 0) (fun b => b &&& imm) fun _ =>
           s.done16 s) ∧
    (∀ imm, s.jq = true → Raises (.andBImmAtGbrR0 imm) s .illegal) ∧
    (∀ imm,
       s.jq = false →
         DoesModify [mk4 0xC#4 0xF#4 (imm.extractLsb' 4 4) (imm.extractLsb' 0 4)] (.orBImmAtGbrR0 imm) s
           (s.gbr + s.r 0) (fun b => b ||| imm) fun _ =>
           s.done16 s) ∧
    (∀ imm, s.jq = true → Raises (.orBImmAtGbrR0 imm) s .illegal) ∧
    (∀ imm,
       s.jq = false →
         DoesModify [mk4 0xC#4 0xE#4 (imm.extractLsb' 4 4) (imm.extractLsb' 0 4)] (.xorBImmAtGbrR0 imm) s
           (s.gbr + s.r 0) (fun b => b ^^^ imm) fun _ =>
           s.done16 s) ∧
    (∀ imm, s.jq = true → Raises (.xorBImmAtGbrR0 imm) s .illegal) ∧
    (∀ imm,
       s.jq = false →
         DoesLoad [mk4 0xC#4 0xC#4 (imm.extractLsb' 4 4) (imm.extractLsb' 0 4)] (.tstBImmAtGbrR0 imm) s 1 1
           (s.gbr + s.r 0) fun v =>
           s.done16 (s.setT (v.setWidth 8 &&& imm = 0))) ∧
    (∀ imm, s.jq = true → Raises (.tstBImmAtGbrR0 imm) s .illegal) ∧
    (∀ n m,
       encode (.casLRmRnAtR0 n m) = [mk4 0x2#4 n m 0x3#4] ∧
       (∀ p p',
          Memory.wf s.mem → s.resolve .read s.md 4 (s.r 0) = .ok p → s.resolve .write s.md 4 (s.r 0) = .ok p' →
          lo32 (ofBytes s.cfg.endian (bytesAt s.mem p 4)) = lo32 (s.r m) →
            ∃ t,
              exec (.casLRmRnAtR0 n m) s = .next t ∧
              t.AgreesOffMemory (s.done16 ((s.setT true).writeW n ((lo32 (s.r m)).signExtend 64) (lo32 (s.r m)))) ∧
              s.StoredIn t p' 4 (s.r 0) (s.r n)) ∧
       (∀ p,
          s.resolve .read s.md 4 (s.r 0) = .ok p → (∀ e, s.resolve .write s.md 4 (s.r 0) ≠ .error (.exc e)) →
          lo32 (ofBytes s.cfg.endian (bytesAt s.mem p 4)) ≠ lo32 (s.r m) →
            exec (.casLRmRnAtR0 n m) s = .next
              (s.done16
                 ((s.setT false).writeW n ((lo32 (ofBytes s.cfg.endian (bytesAt s.mem p 4))).signExtend 64)
                    (lo32 (ofBytes s.cfg.endian (bytesAt s.mem p 4)))))) ∧
       (∀ e, s.resolve .read s.md 4 (s.r 0) = .error (.exc e) → Raises (.casLRmRnAtR0 n m) s e) ∧
       (∀ e,
          (∀ e', s.resolve .read s.md 4 (s.r 0) ≠ .error (.exc e')) →
          s.resolve .write s.md 4 (s.r 0) = .error (.exc e) → Raises (.casLRmRnAtR0 n m) s e)) ∧
    (∀ n e,
       (∀ e', s.resolve .read s.md 1 (s.r n) ≠ .error (.exc e')) →
       s.resolve .write s.md 1 (s.r n) = .error (.exc e) → Raises (.tasBAtRn n) s e)

/-- ADD, ADDC, ADDV, SUB, SUBC, SUBV, NEG, NEGC: result and T at both widths. Each line gives the words of the
instruction, its whole next state (so nothing else changes), and where it raises an exception, which one. The exact
sum or difference is formed first, at W = 32 on the low halves or at W = 64, and T is read off it. -/
def Obligations.AddAndSubtract : Prop :=
  ∀ s : State,
    (∀ n m,
       Does [mk4 0x3#4 n m 0xC#4] (.addRmRn n m) s
         (s.done16 (s.resultW n (s.r n) (s.r m) (fun _ a b _ => (some (a + b), none))))) ∧
    (∀ n imm,
       Does [mk4 0x7#4 n (imm.extractLsb' 4 4) (imm.extractLsb' 0 4)] (.addImmRn n imm) s
         (s.done16 (s.resultW n (s.r n) (imm.signExtend 64) (fun _ a b _ => (some (a + b), none))))) ∧
    (∀ n m,
       Does [mk4 0x3#4 n m 0xE#4] (.addcRmRn n m) s
         (s.done16
            (s.resultW n (s.r n) (s.r m)
               (fun w a b t =>
                  (some (BitVec.ofNat w (a.toNat + b.toNat + t.toNat)), some (2 ^ w ≤ a.toNat + b.toNat + t.toNat)))))) ∧
    (∀ n m,
       Does [mk4 0x3#4 n m 0xF#4] (.addvRmRn n m) s
         (s.done16
            (s.resultW n (s.r n) (s.r m)
               (fun w a b _ =>
                  (some (BitVec.ofInt w (a.toInt + b.toInt)), some
                     (a.toInt + b.toInt < -(2 ^ (w - 1)) ∨ 2 ^ (w - 1) ≤ a.toInt + b.toInt)))))) ∧
    (∀ n m,
       Does [mk4 0x3#4 n m 0x8#4] (.subRmRn n m) s
         (s.done16 (s.resultW n (s.r n) (s.r m) (fun _ a b _ => (some (a - b), none))))) ∧
    (∀ n m,
       Does [mk4 0x3#4 n m 0xA#4] (.subcRmRn n m) s
         (s.done16
            (s.resultW n (s.r n) (s.r m)
               (fun w a b t =>
                  (some (BitVec.ofInt w ((a.toNat : Int) - b.toNat - t.toNat)), some
                     ((a.toNat : Int) - b.toNat - t.toNat < 0)))))) ∧
    (∀ n m,
       Does [mk4 0x3#4 n m 0xB#4] (.subvRmRn n m) s
         (s.done16
            (s.resultW n (s.r n) (s.r m)
               (fun w a b _ =>
                  (some (BitVec.ofInt w (a.toInt - b.toInt)), some
                     (a.toInt - b.toInt < -(2 ^ (w - 1)) ∨ 2 ^ (w - 1) ≤ a.toInt - b.toInt)))))) ∧
    (∀ n m,
       Does [mk4 0x6#4 n m 0xB#4] (.negRmRn n m) s
         (s.done16 (s.resultW n (s.r n) (s.r m) (fun _ _ b _ => (some (-b), none))))) ∧
    (∀ n m,
       Does [mk4 0x6#4 n m 0xA#4] (.negcRmRn n m) s
         (s.done16
            (s.resultW n (s.r n) (s.r m)
               (fun w _ b t =>
                  (some (BitVec.ofInt w (-(b.toNat : Int) - t.toNat)), some (-(b.toNat : Int) - t.toNat < 0))))))

/-- The CMP rows, CMPSTR and DT: what T says, at both widths. Each line gives the words of the instruction, its whole
next state (so nothing else changes), and where it raises an exception, which one. A comparison writes T alone; DT
also writes its register. -/
def Obligations.CompareAndTest : Prop :=
  ∀ s : State,
    (∀ n m,
       Does [mk4 0x3#4 n m 0x0#4] (.cmpeqRmRn n m) s
         (s.done16 (s.resultW n (s.r n) (s.r m) (fun _ a b _ => (none, some (a = b)))))) ∧
    (∀ n m,
       Does [mk4 0x3#4 n m 0x2#4] (.cmphsRmRn n m) s
         (s.done16 (s.resultW n (s.r n) (s.r m) (fun _ a b _ => (none, some (b.toNat ≤ a.toNat)))))) ∧
    (∀ n m,
       Does [mk4 0x3#4 n m 0x3#4] (.cmpgeRmRn n m) s
         (s.done16 (s.resultW n (s.r n) (s.r m) (fun _ a b _ => (none, some (b.toInt ≤ a.toInt)))))) ∧
    (∀ n m,
       Does [mk4 0x3#4 n m 0x6#4] (.cmphiRmRn n m) s
         (s.done16 (s.resultW n (s.r n) (s.r m) (fun _ a b _ => (none, some (b.toNat < a.toNat)))))) ∧
    (∀ n m,
       Does [mk4 0x3#4 n m 0x7#4] (.cmpgtRmRn n m) s
         (s.done16 (s.resultW n (s.r n) (s.r m) (fun _ a b _ => (none, some (b.toInt < a.toInt)))))) ∧
    (∀ n,
       Does [mk4 0x4#4 n 0x1#4 0x1#4] (.cmppzRn n) s
         (s.done16 (s.resultW n (s.r n) (0) (fun _ a b _ => (none, some (b.toInt ≤ a.toInt)))))) ∧
    (∀ n,
       Does [mk4 0x4#4 n 0x1#4 0x5#4] (.cmpplRn n) s
         (s.done16 (s.resultW n (s.r n) (0) (fun _ a b _ => (none, some (b.toInt < a.toInt)))))) ∧
    (∀ n m,
       Does [mk4 0x2#4 n m 0xC#4] (.cmpstrRmRn n m) s
         (s.done16 (s.setT (∃ k : Fin 4, (s.r n).extractLsb' (8 * k) 8 = (s.r m).extractLsb' (8 * k) 8)))) ∧
    (∀ imm,
       Does [mk4 0x8#4 0x8#4 (imm.extractLsb' 4 4) (imm.extractLsb' 0 4)] (.cmpeqImmR0 imm) s
         (s.done16 (s.resultW 0 (s.r 0) (imm.signExtend 64) (fun _ a b _ => (none, some (a = b)))))) ∧
    (∀ n,
       Does [mk4 0x4#4 n 0x1#4 0x0#4] (.dtRn n) s
         (s.done16 (s.resultW n (s.r n) (0) (fun _ a _ _ => (some (a - 1), some (a - 1 = 0))))))

/-- EXTS, EXTU, SHLL32, SHLR32, ROT32, MOVHI, EXTU.L, EXTS.L, and that the half rows need high halves. Each line gives
the words of the instruction, its whole next state (so nothing else changes), and where it raises an exception,
which one. The half-register rows are illegal where the core has no high halves. The upper half of a no-suffix write
at DQ = 1 is as NOSUFFIX_HI says (log 13). -/
def Obligations.ExtendAndHalfRegisters : Prop :=
  ∀ s : State,
    (∀ n m,
       Does [mk4 0x6#4 n m 0xE#4] (.extsBRmRn n m) s
         (s.done16 (s.wrNoSuffix n .sign (((s.r m).setWidth 8).signExtend 32)))) ∧
    (∀ n m,
       Does [mk4 0x6#4 n m 0xF#4] (.extsWRmRn n m) s
         (s.done16 (s.wrNoSuffix n .sign (((s.r m).setWidth 16).signExtend 32)))) ∧
    (∀ n m,
       Does [mk4 0x6#4 n m 0xC#4] (.extuBRmRn n m) s
         (s.done16 (s.wrNoSuffix n .zero (((s.r m).setWidth 8).setWidth 32)))) ∧
    (∀ n m,
       Does [mk4 0x6#4 n m 0xD#4] (.extuWRmRn n m) s
         (s.done16 (s.wrNoSuffix n .zero (((s.r m).setWidth 16).setWidth 32)))) ∧
    (∀ n, s.hasRh = true → Does [mk4 0x4#4 n 0x3#4 0x8#4] (.shll32Rn n) s (s.done16 (s.setR n (s.r n <<< 32)))) ∧
    (∀ n, s.hasRh = false → Raises (.shll32Rn n) s .illegal) ∧
    (∀ n, s.hasRh = true → Does [mk4 0x4#4 n 0x3#4 0x9#4] (.shlr32Rn n) s (s.done16 (s.setR n (s.r n >>> 32)))) ∧
    (∀ n, s.hasRh = false → Raises (.shlr32Rn n) s .illegal) ∧
    (∀ n, s.hasRh = true → Does [mk4 0x4#4 n 0x1#4 0x4#4] (.rot32Rn n) s (s.done16 (s.setR n ((s.r n).rotateLeft 32)))) ∧
    (∀ n, s.hasRh = false → Raises (.rot32Rn n) s .illegal) ∧
    (∀ n,
       s.hasRh = true → Does [mk4 0x4#4 n 0x4#4 0x5#4] (.movhiR0RHn n) s (s.done16 (s.setHalf true n (lo32 (s.r 0))))) ∧
    (∀ n, s.hasRh = false → Raises (.movhiR0RHn n) s .illegal) ∧
    (∀ m,
       s.hasRh = true → Does [mk4 0x4#4 m 0x5#4 0x5#4] (.movhiRHmR0 m) s (s.done16 (s.setHalf false 0 (hi32 (s.r m))))) ∧
    (∀ m, s.hasRh = false → Raises (.movhiRHmR0 m) s .illegal) ∧
    (∀ n,
       s.hasRh = true →
         Does [mk4 0x4#4 n 0x4#4 0x4#4] (.extuLRn n) s (s.done16 (s.setR n (((s.r n).setWidth 32).setWidth 64)))) ∧
    (∀ n, s.hasRh = false → Raises (.extuLRn n) s .illegal) ∧
    (∀ n,
       s.hasRh = true →
         Does [mk4 0x4#4 n 0x5#4 0x4#4] (.extsLRn n) s (s.done16 (s.setR n (((s.r n).setWidth 32).signExtend 64)))) ∧
    (∀ n, s.hasRh = false → Raises (.extsLRn n) s .illegal)

/-- MUL.L, MULU, MULS, DMULU, DMULS, DIV0S, DIV0U, DIV1, MAC.L, MAC.W: MACH, MACL, Q, M, T and the registers. Each line
gives the words of the instruction, its whole next state (so nothing else changes), and where it raises an
exception, which one. A DIV1 step is stated by its exact sum or difference; MAC by its exact signed sum, saturated
when S is set. The restart of MAC after its second read, and MAC.W/Q being illegal at DQ = 1, are the spec's
decisions. The upper half that DIV1 leaves at DQ = 1 is as NOSUFFIX_HI says, and a free value where that asks for a
natural extension, which is the model's choice (log 13). -/
def Obligations.MultiplyAndDivide : Prop :=
  ∀ s : State,
    (∀ n m,
       Does [mk4 0x0#4 n m 0x7#4] (.mulLRmRn n m) s
         (s.done16 ({ s with macl := hi32 s.macl ++ (lo32 (s.r n) * lo32 (s.r m)) }))) ∧
    (∀ n m,
       Does [mk4 0x2#4 n m 0xE#4] (.muluWQRmRn n m) s
         (s.done16
            (if s.dq then
               { s with
                   mach := (BitVec.ofNat 128 ((s.r n).toNat * (s.r m).toNat)).extractLsb' 64 64,
                   macl := (BitVec.ofNat 128 ((s.r n).toNat * (s.r m).toNat)).extractLsb' 0 64 }
             else
               { s with
                   macl := hi32 s.macl ++ BitVec.ofNat 32 (((s.r n).setWidth 16).toNat * ((s.r m).setWidth 16).toNat) }))) ∧
    (∀ n m,
       Does [mk4 0x2#4 n m 0xF#4] (.mulsWQRmRn n m) s
         (s.done16
            (if s.dq then
               { s with
                   mach := (BitVec.ofInt 128 ((s.r n).toInt * (s.r m).toInt)).extractLsb' 64 64,
                   macl := (BitVec.ofInt 128 ((s.r n).toInt * (s.r m).toInt)).extractLsb' 0 64 }
             else
               { s with
                   macl := hi32 s.macl ++ BitVec.ofInt 32 (((s.r n).setWidth 16).toInt * ((s.r m).setWidth 16).toInt) }))) ∧
    (∀ n m,
       Does [mk4 0x3#4 n m 0x5#4] (.dmuluLRmRn n m) s
         (s.done16
            ({ s with
                 mach := hi32 s.mach ++ hi32 (BitVec.ofNat 64 ((lo32 (s.r n)).toNat * (lo32 (s.r m)).toNat)),
                 macl := hi32 s.macl ++ lo32 (BitVec.ofNat 64 ((lo32 (s.r n)).toNat * (lo32 (s.r m)).toNat)) }))) ∧
    (∀ n m,
       Does [mk4 0x3#4 n m 0xD#4] (.dmulsLRmRn n m) s
         (s.done16
            ({ s with
                 mach := hi32 s.mach ++ hi32 (BitVec.ofInt 64 ((lo32 (s.r n)).toInt * (lo32 (s.r m)).toInt)),
                 macl := hi32 s.macl ++ lo32 (BitVec.ofInt 64 ((lo32 (s.r n)).toInt * (lo32 (s.r m)).toInt)) }))) ∧
    (∀ n m,
       Does [mk4 0x2#4 n m 0x7#4] (.div0sRmRn n m) s
         (s.done16
            (((s.setSrBit 8 ((s.r n).getLsbD 31)).setSrBit 9 ((s.r m).getLsbD 31)).setT
               ((s.r n).getLsbD 31 ^^ (s.r m).getLsbD 31)))) ∧
    (Does [mk4 0x0#4 0x0#4 0x1#4 0x9#4] .div0u s (s.done16 (((s.setSrBit 8 false).setSrBit 9 false).setT false))) ∧
    (∀ n m,
       ∀ r : Dword,
         r = BitVec.ofNat 32 (2 * (lo32 (s.r n)).toNat + s.t.toNat) →
         ∀ x : Int,
           x = (if s.q = s.m then (r.toNat : Int) - (lo32 (s.r m)).toNat else (r.toNat : Int) + (lo32 (s.r m)).toNat) →
         ∀ q : Bool, q = ((s.r n).getLsbD 31 ^^ decide (x < 0 ∨ 2 ^ 32 ≤ x) ^^ s.m) →
           Does [mk4 0x3#4 n m 0x4#4] (.div1RmRn n m) s
             (s.done16 (((s.wrNoSuffix n .unstated (BitVec.ofInt 32 x)).setSrBit 8 q).setT (q = s.m)))) ∧
    (∀ n m,
       DoesMac [mk4 0x0#4 n m 0xF#4] (.macLAtRmIncAtRnInc n m) s n m 4 fun u x =>
         u.putMac
           (BitVec.ofInt 64
              (if s.sat then max (-(2 ^ 47)) (min (2 ^ 47 - 1) ((lo32 s.mach ++ lo32 s.macl : Quad).toInt + x))
               else (lo32 s.mach ++ lo32 s.macl : Quad).toInt + x))) ∧
    (∀ n m,
       s.dq = false →
         DoesMac [mk4 0x4#4 n m 0xF#4] (.macWQAtRmIncAtRnInc n m) s n m 2 fun u x =>
           if s.sat = false then u.putMac (BitVec.ofInt 64 ((lo32 s.mach ++ lo32 s.macl : Quad).toInt + x))
           else if 2 ^ 31 ≤ (lo32 s.macl).toInt + x then u.putMac ((lo32 s.mach ||| 1) ++ 0x7FFFFFFF#32)
           else if (lo32 s.macl).toInt + x < -(2 ^ 31) then u.putMac ((lo32 s.mach ||| 1) ++ 0x80000000#32)
           else u.putMac (lo32 s.mach ++ BitVec.ofInt 32 ((lo32 s.macl).toInt + x))) ∧
    (∀ n m, s.dq = true → Raises (.macWQAtRmIncAtRnInc n m) s .illegal)

/-- AND, OR, XOR, TST, NOT and their immediates at both widths. Each line gives the words of the instruction, its whole
next state (so nothing else changes), and where it raises an exception, which one. Immediates are zero-extended; TST
writes T alone. -/
def Obligations.Logic : Prop :=
  ∀ s : State,
    (∀ n m,
       Does [mk4 0x2#4 n m 0x9#4] (.andRmRn n m) s
         (s.done16 (s.resultW n (s.r n) (s.r m) (fun _ a b _ => (some (a &&& b), none))))) ∧
    (∀ imm,
       Does [mk4 0xC#4 0x9#4 (imm.extractLsb' 4 4) (imm.extractLsb' 0 4)] (.andImmR0 imm) s
         (s.done16 (s.resultW 0 (s.r 0) (imm.setWidth 64) (fun _ a b _ => (some (a &&& b), none))))) ∧
    (∀ n m,
       Does [mk4 0x2#4 n m 0xB#4] (.orRmRn n m) s
         (s.done16 (s.resultW n (s.r n) (s.r m) (fun _ a b _ => (some (a ||| b), none))))) ∧
    (∀ imm,
       Does [mk4 0xC#4 0xB#4 (imm.extractLsb' 4 4) (imm.extractLsb' 0 4)] (.orImmR0 imm) s
         (s.done16 (s.resultW 0 (s.r 0) (imm.setWidth 64) (fun _ a b _ => (some (a ||| b), none))))) ∧
    (∀ n m,
       Does [mk4 0x2#4 n m 0xA#4] (.xorRmRn n m) s
         (s.done16 (s.resultW n (s.r n) (s.r m) (fun _ a b _ => (some (a ^^^ b), none))))) ∧
    (∀ imm,
       Does [mk4 0xC#4 0xA#4 (imm.extractLsb' 4 4) (imm.extractLsb' 0 4)] (.xorImmR0 imm) s
         (s.done16 (s.resultW 0 (s.r 0) (imm.setWidth 64) (fun _ a b _ => (some (a ^^^ b), none))))) ∧
    (∀ n m,
       Does [mk4 0x2#4 n m 0x8#4] (.tstRmRn n m) s
         (s.done16 (s.resultW n (s.r n) (s.r m) (fun _ a b _ => (none, some (a &&& b = 0)))))) ∧
    (∀ imm,
       Does [mk4 0xC#4 0x8#4 (imm.extractLsb' 4 4) (imm.extractLsb' 0 4)] (.tstImmR0 imm) s
         (s.done16 (s.resultW 0 (s.r 0) (imm.setWidth 64) (fun _ a b _ => (none, some (a &&& b = 0)))))) ∧
    (∀ n m,
       Does [mk4 0x6#4 n m 0x7#4] (.notRmRn n m) s
         (s.done16 (s.resultW n (s.r n) (s.r m) (fun _ _ b _ => (some (~~~b), none)))))

/-- SHAD, SHLD, one-place shifts and rotates, fixed-count shifts: result and T. Each line gives the words of the
instruction, its whole next state (so nothing else changes), and where it raises an exception, which one. SHAD and
SHLD are stated as rules R461 and R462 write them, for every count. The upper half after SHLL4 and SHLR4 at DQ = 1
is the model's (log 13). -/
def Obligations.Shifts : Prop :=
  ∀ s : State,
    (∀ n m,
       Does [mk4 0x4#4 n m 0xC#4] (.shadRmRn n m) s
         (s.done16 (s.resultW n (s.r n) (s.r m) (fun w a b _ => (some (shadRule w a b.toInt), none))))) ∧
    (∀ n m,
       Does [mk4 0x4#4 n m 0xD#4] (.shldRmRn n m) s
         (s.done16 (s.resultW n (s.r n) (s.r m) (fun w a b _ => (some (shldRule w a b.toInt), none))))) ∧
    (∀ n,
       Does [mk4 0x4#4 n 0x0#4 0x0#4] (.shllRn n) s
         (s.done16 (s.resultW n (s.r n) (0) (fun w a _ _ => (some (a <<< 1), some (a.getLsbD (w - 1))))))) ∧
    (∀ n,
       Does [mk4 0x4#4 n 0x2#4 0x0#4] (.shalRn n) s
         (s.done16 (s.resultW n (s.r n) (0) (fun w a _ _ => (some (a <<< 1), some (a.getLsbD (w - 1))))))) ∧
    (∀ n,
       Does [mk4 0x4#4 n 0x0#4 0x1#4] (.shlrRn n) s
         (s.done16 (s.resultW n (s.r n) (0) (fun _ a _ _ => (some (a >>> 1), some (a.getLsbD 0)))))) ∧
    (∀ n,
       Does [mk4 0x4#4 n 0x2#4 0x1#4] (.sharRn n) s
         (s.done16 (s.resultW n (s.r n) (0) (fun _ a _ _ => (some (a.sshiftRight 1), some (a.getLsbD 0)))))) ∧
    (∀ n,
       Does [mk4 0x4#4 n 0x0#4 0x4#4] (.rotlRn n) s
         (s.done16 (s.resultW n (s.r n) (0) (fun w a _ _ => (some (a.rotateLeft 1), some (a.getLsbD (w - 1))))))) ∧
    (∀ n,
       Does [mk4 0x4#4 n 0x0#4 0x5#4] (.rotrRn n) s
         (s.done16 (s.resultW n (s.r n) (0) (fun _ a _ _ => (some (a.rotateRight 1), some (a.getLsbD 0)))))) ∧
    (∀ n,
       Does [mk4 0x4#4 n 0x2#4 0x4#4] (.rotclRn n) s
         (s.done16
            (s.resultW n (s.r n) (0)
               (fun w a _ t => (some ((a <<< 1) ||| (if t then 1 else 0)), some (a.getLsbD (w - 1))))))) ∧
    (∀ n,
       Does [mk4 0x4#4 n 0x2#4 0x5#4] (.rotcrRn n) s
         (s.done16
            (s.resultW n (s.r n) (0)
               (fun w a _ t => (some ((a >>> 1) ||| (if t then BitVec.twoPow w (w - 1) else 0)), some (a.getLsbD 0)))))) ∧
    (∀ n,
       Does [mk4 0x4#4 n 0x0#4 0x8#4] (.shll2Rn n) s
         (s.done16 (s.resultW n (s.r n) 0 (fun _ a _ _ => (some (a <<< 2), none))))) ∧
    (∀ n,
       Does [mk4 0x4#4 n 0x1#4 0x8#4] (.shll8Rn n) s
         (s.done16 (s.resultW n (s.r n) 0 (fun _ a _ _ => (some (a <<< 8), none))))) ∧
    (∀ n,
       Does [mk4 0x4#4 n 0x2#4 0x8#4] (.shll16Rn n) s
         (s.done16 (s.resultW n (s.r n) 0 (fun _ a _ _ => (some (a <<< 16), none))))) ∧
    (∀ n,
       Does [mk4 0x4#4 n 0x0#4 0x9#4] (.shlr2Rn n) s
         (s.done16 (s.resultW n (s.r n) 0 (fun _ a _ _ => (some (a >>> 2), none))))) ∧
    (∀ n,
       Does [mk4 0x4#4 n 0x1#4 0x9#4] (.shlr8Rn n) s
         (s.done16 (s.resultW n (s.r n) 0 (fun _ a _ _ => (some (a >>> 8), none))))) ∧
    (∀ n,
       Does [mk4 0x4#4 n 0x2#4 0x9#4] (.shlr16Rn n) s
         (s.done16 (s.resultW n (s.r n) 0 (fun _ a _ _ => (some (a >>> 16), none))))) ∧
    (∀ n, Does [mk4 0x4#4 n 0x3#4 0x4#4] (.shll4Rn n) s (s.done16 (s.wrNoSuffix n .unstated (lo32 (s.r n) <<< 4)))) ∧
    (∀ n, Does [mk4 0x4#4 n 0x3#4 0x5#4] (.shlr4Rn n) s (s.done16 (s.wrNoSuffix n .unstated (lo32 (s.r n) >>> 4))))

/-- The 16-bit branches: target, delay slot, link register, and that none may stand in a slot. Each line gives the whole
next state outside a slot: a branch without slot moves PC, a delayed one sets the pending branch with its target and
its own address, a call also writes PR; in a delay slot each is a slot illegal instruction. -/
def Obligations.Branches16 : Prop :=
  ∀ s : State,
    (∀ disp,
       s.ds = none →
         Does [mk4 0x8#4 0x9#4 (disp.extractLsb' 4 4) (disp.extractLsb' 0 4)] (.bt disp) s
           (if s.t then { s with pc := s.addr (s.pcn + 4 + disp.signExtend 64 * 2) }
            else { s with pc := s.addr (s.pcn + 2) })) ∧
    (∀ disp,
       s.ds = none →
         Does [mk4 0x8#4 0xB#4 (disp.extractLsb' 4 4) (disp.extractLsb' 0 4)] (.bf disp) s
           (if !s.t then { s with pc := s.addr (s.pcn + 4 + disp.signExtend 64 * 2) }
            else { s with pc := s.addr (s.pcn + 2) })) ∧
    (∀ disp,
       s.ds = none →
         Does [mk4 0x8#4 0xD#4 (disp.extractLsb' 4 4) (disp.extractLsb' 0 4)] (.bts disp) s
           (if s.t then
              { s with
                  ds := some ⟨s.addr (s.pcn + 4 + disp.signExtend 64 * 2), s.pcn, false⟩,
                  pc := s.addr (s.pcn + 2) }
            else { s with pc := s.addr (s.pcn + 2) })) ∧
    (∀ disp,
       s.ds = none →
         Does [mk4 0x8#4 0xF#4 (disp.extractLsb' 4 4) (disp.extractLsb' 0 4)] (.bfs disp) s
           (if !s.t then
              { s with
                  ds := some ⟨s.addr (s.pcn + 4 + disp.signExtend 64 * 2), s.pcn, false⟩,
                  pc := s.addr (s.pcn + 2) }
            else { s with pc := s.addr (s.pcn + 2) })) ∧
    (∀ disp,
       s.ds = none →
         Does [mk4 0xA#4 (disp.extractLsb' 8 4) (disp.extractLsb' 4 4) (disp.extractLsb' 0 4)] (.bra disp) s
           { s with ds := some ⟨s.addr (s.pcn + 4 + disp.signExtend 64 * 2), s.pcn, false⟩, pc := s.addr (s.pcn + 2) }) ∧
    (∀ disp,
       s.ds = none →
         Does [mk4 0xB#4 (disp.extractLsb' 8 4) (disp.extractLsb' 4 4) (disp.extractLsb' 0 4)] (.bsr disp) s
           { s with
               pr := s.mergeA s.pr (s.pcn + 4),
               ds := some ⟨s.addr (s.pcn + 4 + disp.signExtend 64 * 2), s.pcn, false⟩,
               pc := s.addr (s.pcn + 2) }) ∧
    (∀ m,
       s.ds = none →
         Does [mk4 0x0#4 m 0x2#4 0x3#4] (.brafRm m) s
           { s with ds := some ⟨s.addr (s.pcn + 4 + s.r m), s.pcn, false⟩, pc := s.addr (s.pcn + 2) }) ∧
    (∀ m,
       s.ds = none →
         Does [mk4 0x0#4 m 0x0#4 0x3#4] (.bsrfRm m) s
           { s with
               pr := s.mergeA s.pr (s.pcn + 4),
               ds := some ⟨s.addr (s.pcn + 4 + s.r m), s.pcn, false⟩,
               pc := s.addr (s.pcn + 2) }) ∧
    (∀ m,
       s.ds = none →
         Does [mk4 0x4#4 m 0x2#4 0xB#4] (.jmpAtRm m) s
           { s with ds := some ⟨s.addr (s.r m), s.pcn, false⟩, pc := s.addr (s.pcn + 2) }) ∧
    (∀ m,
       s.ds = none →
         Does [mk4 0x4#4 m 0x0#4 0xB#4] (.jsrAtRm m) s
           { s with
               pr := s.mergeA s.pr (s.pcn + 4),
               ds := some ⟨s.addr (s.r m), s.pcn, false⟩,
               pc := s.addr (s.pcn + 2) }) ∧
    (s.ds = none →
       Does [mk4 0x0#4 0x0#4 0x0#4 0xB#4] .rts s
         { s with ds := some ⟨s.addr (s.pr), s.pcn, false⟩, pc := s.addr (s.pcn + 2) }) ∧
    (∀ disp, s.ds.isSome = true → Raises (.bt disp) s .illegal) ∧
    (∀ disp, s.ds.isSome = true → Raises (.bf disp) s .illegal) ∧
    (∀ disp, s.ds.isSome = true → Raises (.bts disp) s .illegal) ∧
    (∀ disp, s.ds.isSome = true → Raises (.bfs disp) s .illegal) ∧
    (∀ disp, s.ds.isSome = true → Raises (.bra disp) s .illegal) ∧
    (∀ disp, s.ds.isSome = true → Raises (.bsr disp) s .illegal) ∧
    (∀ m, s.ds.isSome = true → Raises (.brafRm m) s .illegal) ∧
    (∀ m, s.ds.isSome = true → Raises (.bsrfRm m) s .illegal) ∧
    (∀ m, s.ds.isSome = true → Raises (.jmpAtRm m) s .illegal) ∧
    (∀ m, s.ds.isSome = true → Raises (.jsrAtRm m) s .illegal) ∧
    (s.ds.isSome = true → Raises .rts s .illegal)

/-- STC, STS, LDC, LDS between registers: every system register, at both widths. Each line gives the words of the
instruction, its whole next state (so nothing else changes), and where it raises an exception, which one. Stated in
supervisor mode for the privileged rows (statement PrivilegedInUserMode has the other mode). SR takes only its
defined bits; Rm_B is the bank that the mode does not map. -/
def Obligations.SystemRegisterMoves : Prop :=
  ∀ s : State,
    (∀ n, s.md = true → Does [mk4 0x0#4 n 0x0#4 0x2#4] (.stcSrRn n) s (s.done16 (s.writeW n s.sr (lo32 s.sr)))) ∧
    (∀ n, Does [mk4 0x0#4 n 0x1#4 0x2#4] (.stcGbrRn n) s (s.done16 (s.writeW n s.gbr (lo32 s.gbr)))) ∧
    (∀ n, s.md = true → Does [mk4 0x0#4 n 0x2#4 0x2#4] (.stcVbrRn n) s (s.done16 (s.writeW n s.vbr (lo32 s.vbr)))) ∧
    (∀ n, s.md = true → Does [mk4 0x0#4 n 0x3#4 0x2#4] (.stcSsrRn n) s (s.done16 (s.writeW n s.ssr (lo32 s.ssr)))) ∧
    (∀ n, s.md = true → Does [mk4 0x0#4 n 0x4#4 0x2#4] (.stcSpcRn n) s (s.done16 (s.writeW n s.spc (lo32 s.spc)))) ∧
    (∀ n b,
       s.md = true →
         Does [mk4 0x0#4 n (1#1 ++ b) 0x2#4] (.stcRmBRn n b) s
           (s.done16 (s.writeW n (get8 (if s.rb then s.ga else s.gb) b) (lo32 (get8 (if s.rb then s.ga else s.gb) b))))) ∧
    (∀ n, s.md = true → Does [mk4 0x0#4 n 0x3#4 0xA#4] (.stcSgrRn n) s (s.done16 (s.writeW n s.sgr (lo32 s.sgr)))) ∧
    (∀ n, s.md = true → Does [mk4 0x0#4 n 0xF#4 0xA#4] (.stcDbrRn n) s (s.done16 (s.writeW n s.dbr (lo32 s.dbr)))) ∧
    (∀ n, Does [mk4 0x0#4 n 0x0#4 0xA#4] (.stsMachRn n) s (s.done16 (s.writeW n s.mach (lo32 s.mach)))) ∧
    (∀ n, Does [mk4 0x0#4 n 0x1#4 0xA#4] (.stsMaclRn n) s (s.done16 (s.writeW n s.macl (lo32 s.macl)))) ∧
    (∀ n, Does [mk4 0x0#4 n 0x2#4 0xA#4] (.stsPrRn n) s (s.done16 (s.writeW n s.pr (lo32 s.pr)))) ∧
    (∀ m, Does [mk4 0x4#4 m 0x1#4 0xE#4] (.ldcRmGbr m) s (s.done16 ({ s with gbr := s.mergeW s.gbr (s.r m) }))) ∧
    (∀ m,
       s.md = true →
         Does [mk4 0x4#4 m 0x2#4 0xE#4] (.ldcRmVbr m) s (s.done16 ({ s with vbr := s.mergeW s.vbr (s.r m) }))) ∧
    (∀ m,
       s.md = true →
         Does [mk4 0x4#4 m 0x3#4 0xE#4] (.ldcRmSsr m) s (s.done16 ({ s with ssr := s.mergeW s.ssr (s.r m) }))) ∧
    (∀ m,
       s.md = true →
         Does [mk4 0x4#4 m 0x4#4 0xE#4] (.ldcRmSpc m) s (s.done16 ({ s with spc := s.mergeW s.spc (s.r m) }))) ∧
    (∀ m,
       s.md = true →
         Does [mk4 0x4#4 m 0x3#4 0xA#4] (.ldcRmSgr m) s (s.done16 ({ s with sgr := s.mergeW s.sgr (s.r m) }))) ∧
    (∀ m,
       s.md = true →
         Does [mk4 0x4#4 m 0xF#4 0xA#4] (.ldcRmDbr m) s (s.done16 ({ s with dbr := s.mergeW s.dbr (s.r m) }))) ∧
    (∀ m, Does [mk4 0x4#4 m 0x0#4 0xA#4] (.ldsRmMach m) s (s.done16 ({ s with mach := s.mergeW s.mach (s.r m) }))) ∧
    (∀ m, Does [mk4 0x4#4 m 0x1#4 0xA#4] (.ldsRmMacl m) s (s.done16 ({ s with macl := s.mergeW s.macl (s.r m) }))) ∧
    (∀ m, Does [mk4 0x4#4 m 0x2#4 0xA#4] (.ldsRmPr m) s (s.done16 ({ s with pr := s.mergeW s.pr (s.r m) }))) ∧
    (∀ m,
       s.md = true →
         Does [mk4 0x4#4 m 0x0#4 0xE#4] (.ldcRmSr m) s
           (s.done16 ({ s with sr := s.mergeW s.sr (s.r m &&& srMask s.cfg) }))) ∧
    (∀ m b,
       s.md = true →
         Does [mk4 0x4#4 m (1#1 ++ b) 0xE#4] (.ldcRmRnB m b) s
           (s.done16
              (if s.rb then { s with ga := set8 s.ga b (s.mergeW (get8 s.ga b) (s.r m)) }
               else { s with gb := set8 s.gb b (s.mergeW (get8 s.gb b) (s.r m)) })))

/-- STS, LDS, STS.L/Q, LDS.L/Q of FPUL and FPSCR with the FPU on. A store line names the alignment, the byte count, the
address and the value: where the write is allowed exactly those bytes hold the value, every other byte reads as
before and the rest of the state is the one named; where the access raises an exception, that exception is taken. A
load line gives the next state from the bytes at the address, and the same for its exceptions. FPSCR keeps only its
defined bits. FpuCheck has the FPU absent or disabled. -/
def Obligations.SystemFpuTransfers : Prop :=
  ∀ s : State,
    (∀ n,
       s.FpuOn → Does [mk4 0x0#4 n 0x5#4 0xA#4] (.stsFpulRn n) s (s.done16 (s.writeW n (s.fpul.setWidth 64) s.fpul))) ∧
    (∀ n,
       s.FpuOn →
         Does [mk4 0x0#4 n 0x6#4 0xA#4] (.stsFpscrRn n) s (s.done16 (s.writeW n (s.fpscr.setWidth 64) s.fpscr))) ∧
    (∀ m, s.FpuOn → Does [mk4 0x4#4 m 0x5#4 0xA#4] (.ldsRmFpul m) s (s.done16 ({ s with fpul := lo32 (s.r m) }))) ∧
    (∀ m,
       s.FpuOn →
         Does [mk4 0x4#4 m 0x6#4 0xA#4] (.ldsRmFpscr m) s (s.done16 ({ s with fpscr := lo32 (s.r m) &&& 0x003FFFFF }))) ∧
    (∀ n,
       s.FpuOn →
         DoesStore [mk4 0x4#4 n 0x5#4 0x2#4] (.stsLQFpulAtDecRn n) s 4 (if s.jq then 8 else 4)
           (s.r n - (if s.jq then 8 else 4)) (s.fpul.setWidth 64)
           (s.done16 (s.writeA n (s.r n - (if s.jq then 8 else 4))))) ∧
    (∀ n,
       s.FpuOn →
         DoesStore [mk4 0x4#4 n 0x6#4 0x2#4] (.stsLQFpscrAtDecRn n) s 4 (if s.jq then 8 else 4)
           (s.r n - (if s.jq then 8 else 4)) (s.fpscr.setWidth 64)
           (s.done16 (s.writeA n (s.r n - (if s.jq then 8 else 4))))) ∧
    (∀ m,
       s.FpuOn →
         DoesLoad [mk4 0x4#4 m 0x5#4 0x6#4] (.ldsLQAtRmIncFpul m) s 4 (if s.jq then 8 else 4) (s.r m) fun v =>
           s.done16 ({ (s.writeA m (s.r m + (if s.jq then 8 else 4))) with fpul := lo32 v })) ∧
    (∀ m,
       s.FpuOn →
         DoesLoad [mk4 0x4#4 m 0x6#4 0x6#4] (.ldsLQAtRmIncFpscr m) s 4 (if s.jq then 8 else 4) (s.r m) fun v =>
           s.done16 ({ (s.writeA m (s.r m + (if s.jq then 8 else 4))) with fpscr := lo32 v &&& 0x003FFFFF }))

/-- STC.L/Q, STS.L/Q, LDC.L/Q, LDS.L/Q: 4 or 8 bytes by JQ at @-Rn and @Rm+. A store line names the alignment, the byte
count, the address and the value: where the write is allowed exactly those bytes hold the value, every other byte
reads as before and the rest of the state is the one named; where the access raises an exception, that exception is
taken. A load line gives the next state from the bytes at the address, and the same for its exceptions. Stated in
supervisor mode for the privileged rows. -/
def Obligations.SystemRegisterMemory : Prop :=
  ∀ s : State,
    (∀ n,
       DoesStore [mk4 0x4#4 n 0x0#4 0x2#4] (.stsLQMachAtDecRn n) s 4 (if s.jq then 8 else 4)
         (s.r n - (if s.jq then 8 else 4)) s.mach (s.done16 (s.writeA n (s.r n - (if s.jq then 8 else 4))))) ∧
    (∀ n,
       DoesStore [mk4 0x4#4 n 0x1#4 0x2#4] (.stsLQMaclAtDecRn n) s 4 (if s.jq then 8 else 4)
         (s.r n - (if s.jq then 8 else 4)) s.macl (s.done16 (s.writeA n (s.r n - (if s.jq then 8 else 4))))) ∧
    (∀ n,
       DoesStore [mk4 0x4#4 n 0x2#4 0x2#4] (.stsLQPrAtDecRn n) s 4 (if s.jq then 8 else 4)
         (s.r n - (if s.jq then 8 else 4)) s.pr (s.done16 (s.writeA n (s.r n - (if s.jq then 8 else 4))))) ∧
    (∀ n,
       s.md = true →
         DoesStore [mk4 0x4#4 n 0x3#4 0x2#4] (.stcLQSgrAtDecRn n) s 4 (if s.jq then 8 else 4)
           (s.r n - (if s.jq then 8 else 4)) s.sgr (s.done16 (s.writeA n (s.r n - (if s.jq then 8 else 4))))) ∧
    (∀ n,
       s.md = true →
         DoesStore [mk4 0x4#4 n 0xF#4 0x2#4] (.stcLQDbrAtDecRn n) s 4 (if s.jq then 8 else 4)
           (s.r n - (if s.jq then 8 else 4)) s.dbr (s.done16 (s.writeA n (s.r n - (if s.jq then 8 else 4))))) ∧
    (∀ n,
       s.md = true →
         DoesStore [mk4 0x4#4 n 0x0#4 0x3#4] (.stcLQSrAtDecRn n) s 4 (if s.jq then 8 else 4)
           (s.r n - (if s.jq then 8 else 4)) s.sr (s.done16 (s.writeA n (s.r n - (if s.jq then 8 else 4))))) ∧
    (∀ n,
       DoesStore [mk4 0x4#4 n 0x1#4 0x3#4] (.stcLQGbrAtDecRn n) s 4 (if s.jq then 8 else 4)
         (s.r n - (if s.jq then 8 else 4)) s.gbr (s.done16 (s.writeA n (s.r n - (if s.jq then 8 else 4))))) ∧
    (∀ n,
       s.md = true →
         DoesStore [mk4 0x4#4 n 0x2#4 0x3#4] (.stcLQVbrAtDecRn n) s 4 (if s.jq then 8 else 4)
           (s.r n - (if s.jq then 8 else 4)) s.vbr (s.done16 (s.writeA n (s.r n - (if s.jq then 8 else 4))))) ∧
    (∀ n,
       s.md = true →
         DoesStore [mk4 0x4#4 n 0x3#4 0x3#4] (.stcLQSsrAtDecRn n) s 4 (if s.jq then 8 else 4)
           (s.r n - (if s.jq then 8 else 4)) s.ssr (s.done16 (s.writeA n (s.r n - (if s.jq then 8 else 4))))) ∧
    (∀ n,
       s.md = true →
         DoesStore [mk4 0x4#4 n 0x4#4 0x3#4] (.stcLQSpcAtDecRn n) s 4 (if s.jq then 8 else 4)
           (s.r n - (if s.jq then 8 else 4)) s.spc (s.done16 (s.writeA n (s.r n - (if s.jq then 8 else 4))))) ∧
    (∀ n b,
       s.md = true →
         DoesStore [mk4 0x4#4 n (1#1 ++ b) 0x3#4] (.stcLQRmBAtDecRn n b) s 4 (if s.jq then 8 else 4)
           (s.r n - (if s.jq then 8 else 4)) (get8 (if s.rb then s.ga else s.gb) b)
           (s.done16 (s.writeA n (s.r n - (if s.jq then 8 else 4))))) ∧
    (∀ m,
       DoesLoad [mk4 0x4#4 m 0x0#4 0x6#4] (.ldsLQAtRmIncMach m) s 4 (if s.jq then 8 else 4) (s.r m) fun v =>
         s.done16 ({ (s.writeA m (s.r m + (if s.jq then 8 else 4))) with mach := s.mergeA s.mach v })) ∧
    (∀ m,
       DoesLoad [mk4 0x4#4 m 0x1#4 0x6#4] (.ldsLQAtRmIncMacl m) s 4 (if s.jq then 8 else 4) (s.r m) fun v =>
         s.done16 ({ (s.writeA m (s.r m + (if s.jq then 8 else 4))) with macl := s.mergeA s.macl v })) ∧
    (∀ m,
       DoesLoad [mk4 0x4#4 m 0x2#4 0x6#4] (.ldsLQAtRmIncPr m) s 4 (if s.jq then 8 else 4) (s.r m) fun v =>
         s.done16 ({ (s.writeA m (s.r m + (if s.jq then 8 else 4))) with pr := s.mergeA s.pr v })) ∧
    (∀ m,
       s.md = true →
         DoesLoad [mk4 0x4#4 m 0x3#4 0x6#4] (.ldcLQAtRmIncSgr m) s 4 (if s.jq then 8 else 4) (s.r m) fun v =>
           s.done16 ({ (s.writeA m (s.r m + (if s.jq then 8 else 4))) with sgr := s.mergeA s.sgr v })) ∧
    (∀ m,
       s.md = true →
         DoesLoad [mk4 0x4#4 m 0xF#4 0x6#4] (.ldcLQAtRmIncDbr m) s 4 (if s.jq then 8 else 4) (s.r m) fun v =>
           s.done16 ({ (s.writeA m (s.r m + (if s.jq then 8 else 4))) with dbr := s.mergeA s.dbr v })) ∧
    (∀ m,
       DoesLoad [mk4 0x4#4 m 0x1#4 0x7#4] (.ldcLQAtRmIncGbr m) s 4 (if s.jq then 8 else 4) (s.r m) fun v =>
         s.done16 ({ (s.writeA m (s.r m + (if s.jq then 8 else 4))) with gbr := s.mergeA s.gbr v })) ∧
    (∀ m,
       s.md = true →
         DoesLoad [mk4 0x4#4 m 0x2#4 0x7#4] (.ldcLQAtRmIncVbr m) s 4 (if s.jq then 8 else 4) (s.r m) fun v =>
           s.done16 ({ (s.writeA m (s.r m + (if s.jq then 8 else 4))) with vbr := s.mergeA s.vbr v })) ∧
    (∀ m,
       s.md = true →
         DoesLoad [mk4 0x4#4 m 0x3#4 0x7#4] (.ldcLQAtRmIncSsr m) s 4 (if s.jq then 8 else 4) (s.r m) fun v =>
           s.done16 ({ (s.writeA m (s.r m + (if s.jq then 8 else 4))) with ssr := s.mergeA s.ssr v })) ∧
    (∀ m,
       s.md = true →
         DoesLoad [mk4 0x4#4 m 0x4#4 0x7#4] (.ldcLQAtRmIncSpc m) s 4 (if s.jq then 8 else 4) (s.r m) fun v =>
           s.done16 ({ (s.writeA m (s.r m + (if s.jq then 8 else 4))) with spc := s.mergeA s.spc v })) ∧
    (∀ m,
       s.md = true →
         DoesLoad [mk4 0x4#4 m 0x0#4 0x7#4] (.ldcLQAtRmIncSr m) s 4 (if s.jq then 8 else 4) (s.r m) fun v =>
           s.done16 ({ (s.writeA m (s.r m + (if s.jq then 8 else 4))) with sr := s.mergeA s.sr (v &&& srMask s.cfg) })) ∧
    (∀ m b,
       s.md = true →
         DoesLoad [mk4 0x4#4 m (1#1 ++ b) 0x7#4] (.ldcLQAtRmIncRnB m b) s 4 (if s.jq then 8 else 4) (s.r m) fun v =>
           s.done16
             (if s.rb then
                { (s.writeA m (s.r m + (if s.jq then 8 else 4))) with
                    ga :=
                      set8 ((s.writeA m (s.r m + (if s.jq then 8 else 4)))).ga b
                        (s.mergeA (get8 ((s.writeA m (s.r m + (if s.jq then 8 else 4)))).ga b) (v)) }
              else
                { (s.writeA m (s.r m + (if s.jq then 8 else 4))) with
                    gb :=
                      set8 ((s.writeA m (s.r m + (if s.jq then 8 else 4)))).gb b
                        (s.mergeA (get8 ((s.writeA m (s.r m + (if s.jq then 8 else 4)))).gb b) (v)) }))

/-- Flag rows, CLRMAC, NOP, SLEEP, LDTLB, PREF, ICBI and the SR.JQ and SR.DQ rows. Each line gives the words of the
instruction, its whole next state (so nothing else changes), and where it raises an exception, which one. That LDTLB
and PREF have no other effect is the spec's; which further bytes ICBI frees is a free choice (log 12). The mode rows
are illegal on BJX1-32 and, where the parameter says so, in user mode. -/
def Obligations.FlagsModesAndHints : Prop :=
  ∀ s : State,
    (Does [mk4 0x0#4 0x0#4 0x0#4 0x8#4] .clrt s (s.done16 (s.setT false))) ∧
    (Does [mk4 0x0#4 0x0#4 0x1#4 0x8#4] .sett s (s.done16 (s.setT true))) ∧
    (Does [mk4 0x0#4 0x0#4 0x4#4 0x8#4] .clrs s (s.done16 (s.setSrBit 1 false))) ∧
    (Does [mk4 0x0#4 0x0#4 0x5#4 0x8#4] .sets s (s.done16 (s.setSrBit 1 true))) ∧
    (Does [mk4 0x0#4 0x0#4 0x6#4 0x8#4] .nott s (s.done16 (s.setT !s.t))) ∧
    (Does [mk4 0x0#4 0x0#4 0x2#4 0x8#4] .clrmac s (s.done16 ({ s with mach := 0, macl := 0 }))) ∧
    (∀ imm, Does [mk4 0x0#4 imm 0x0#4 0x9#4] (.nop imm) s (s.done16 s)) ∧
    (s.md = true → s.ds = none → Does [mk4 0x0#4 0x0#4 0x1#4 0xB#4] .sleep s (s.done16 ({ s with sleeping := true }))) ∧
    (s.md = true → Does [mk4 0x0#4 0x0#4 0x3#4 0x8#4] .ldtlb s (s.done16 s)) ∧
    (∀ n, Does [mk4 0x0#4 n 0x8#4 0x3#4] (.prefAtRn n) s (s.done16 s)) ∧
    (∀ n,
       ∃ l,
         Does [mk4 0x0#4 n 0xE#4 0x3#4] (.icbiAtRn n) s
           (s.done16
              { s with
                  stale := l,
                  history := .icbi s.freeCount (s.addr (s.r n)) :: s.history,
                  freeCount := s.freeCount + 1 }) ∧
         (∀ c, c ∈ l ↔ c ∈ s.stale ∧ icbiCovers s.freeCount (s.addr (s.r n)) c = false) ∧
         ∀ k ∈ [0, 1, 2, 3], icbiCovers s.freeCount (s.addr (s.r n)) ((s.addr (s.r n) &&& ~~~3#64).toNat + k) = true) ∧
    (s.is64 = true → (s.cfg.modeOpsPrivileged = true → s.md = true) →
       Does [mk4 0x0#4 0x1#4 0x4#4 0x8#4] .iclrmdDQ s (s.done16 (s.setSrBit 12 false))) ∧
    (s.is64 = false ∨ s.cfg.modeOpsPrivileged = true ∧ s.md = false → Raises .iclrmdDQ s .illegal) ∧
    (s.is64 = true → (s.cfg.modeOpsPrivileged = true → s.md = true) →
       Does [mk4 0x0#4 0x2#4 0x4#4 0x8#4] .iclrmdJQ s (s.done16 (s.setSrBit 31 false))) ∧
    (s.is64 = false ∨ s.cfg.modeOpsPrivileged = true ∧ s.md = false → Raises .iclrmdJQ s .illegal) ∧
    (s.is64 = true → (s.cfg.modeOpsPrivileged = true → s.md = true) →
       Does [mk4 0x0#4 0x3#4 0x4#4 0x8#4] .iclrmdJDQ s (s.done16 ((s.setSrBit 31 false).setSrBit 12 false))) ∧
    (s.is64 = false ∨ s.cfg.modeOpsPrivileged = true ∧ s.md = false → Raises .iclrmdJDQ s .illegal) ∧
    (s.is64 = true → (s.cfg.modeOpsPrivileged = true → s.md = true) →
       Does [mk4 0x0#4 0x1#4 0x5#4 0x8#4] .isetmdDQ s (s.done16 (s.setSrBit 12 true))) ∧
    (s.is64 = false ∨ s.cfg.modeOpsPrivileged = true ∧ s.md = false → Raises .isetmdDQ s .illegal) ∧
    (s.is64 = true → (s.cfg.modeOpsPrivileged = true → s.md = true) →
       Does [mk4 0x0#4 0x2#4 0x5#4 0x8#4] .isetmdJQ s (s.done16 (s.setSrBit 31 true))) ∧
    (s.is64 = false ∨ s.cfg.modeOpsPrivileged = true ∧ s.md = false → Raises .isetmdJQ s .illegal) ∧
    (s.is64 = true → (s.cfg.modeOpsPrivileged = true → s.md = true) →
       Does [mk4 0x0#4 0x3#4 0x5#4 0x8#4] .isetmdJDQ s (s.done16 ((s.setSrBit 31 true).setSrBit 12 true))) ∧
    (s.is64 = false ∨ s.cfg.modeOpsPrivileged = true ∧ s.md = false → Raises .isetmdJDQ s .illegal)

/-- TRAPA and BRK take their traps; RTE restores SR and branches to SPC after its slot. Each line gives the words of the
instruction, its whole next state (so nothing else changes), and where it raises an exception, which one. That the
slot of RTE is fetched with supervisor rights is read into the spec (log 23). -/
def Obligations.TrapBreakAndReturn : Prop :=
  ∀ s : State,
    (∀ imm,
       s.ds = none →
         Does [mk4 0xC#4 0x3#4 (imm.extractLsb' 4 4) (imm.extractLsb' 0 4)] (.trapaImm imm) s
           (s.trapEntry .trapa false (imm.setWidth 64) (s.addr (s.pcn + 2)))) ∧
    (s.ds = none → Does [mk4 0x0#4 0x0#4 0x3#4 0xB#4] .brk s (s.trapEntry .breakpoint false 0 (s.addr (s.pcn + 2)))) ∧
    (s.ds = none → s.md = true → ∀ u, u = { s with sr := s.ssr &&& srMask s.cfg } →
       Does [mk4 0x0#4 0x0#4 0x2#4 0xB#4] .rte s
         { u with ds := some ⟨u.addr s.spc, s.pcn, true⟩, pc := u.addr (s.pcn + 2) })

/-- FADD to FMAC, FCMP, FSQRT, FLOAT, FTRC, FCNV: operands, precision, result register or T. Each line gives the words
of the instruction, its whole next state (so nothing else changes), and where it raises an exception, which one.
Stated with the FPU on, over the functions of the FP record: which of them the suggested record uses is the spec's
suggestion (log 20). -/
def Obligations.FpArithmetic : Prop :=
  ∀ s : State,
    (∀ n m,
       s.FpuOn →
         Does [mk4 0xF#4 n m 0x0#4] (.faddFRmFRn n m) s
           (s.done16
              (if s.fpPr then s.setPair false n (s.fpBin .add true (s.pair false n) (s.pair false m))
               else
                 s.setFx false n (lo32 (s.fpBin .add false ((s.fx false n).setWidth 64) ((s.fx false m).setWidth 64)))))) ∧
    (∀ n m,
       s.FpuOn →
         Does [mk4 0xF#4 n m 0x1#4] (.fsubFRmFRn n m) s
           (s.done16
              (if s.fpPr then s.setPair false n (s.fpBin .sub true (s.pair false n) (s.pair false m))
               else
                 s.setFx false n (lo32 (s.fpBin .sub false ((s.fx false n).setWidth 64) ((s.fx false m).setWidth 64)))))) ∧
    (∀ n m,
       s.FpuOn →
         Does [mk4 0xF#4 n m 0x2#4] (.fmulFRmFRn n m) s
           (s.done16
              (if s.fpPr then s.setPair false n (s.fpBin .mul true (s.pair false n) (s.pair false m))
               else
                 s.setFx false n (lo32 (s.fpBin .mul false ((s.fx false n).setWidth 64) ((s.fx false m).setWidth 64)))))) ∧
    (∀ n m,
       s.FpuOn →
         Does [mk4 0xF#4 n m 0x3#4] (.fdivFRmFRn n m) s
           (s.done16
              (if s.fpPr then s.setPair false n (s.fpBin .div true (s.pair false n) (s.pair false m))
               else
                 s.setFx false n (lo32 (s.fpBin .div false ((s.fx false n).setWidth 64) ((s.fx false m).setWidth 64)))))) ∧
    (∀ n m,
       s.FpuOn →
         Does [mk4 0xF#4 n m 0x4#4] (.fcmpeqFRmFRn n m) s
           (s.done16
              (s.setT
                 (if s.fpPr then s.fpEq true (s.pair false n) (s.pair false m)
                  else s.fpEq false ((s.fx false n).setWidth 64) ((s.fx false m).setWidth 64))))) ∧
    (∀ n m,
       s.FpuOn →
         Does [mk4 0xF#4 n m 0x5#4] (.fcmpgtFRmFRn n m) s
           (s.done16
              (s.setT
                 (if s.fpPr then s.fpGt true (s.pair false n) (s.pair false m)
                  else s.fpGt false ((s.fx false n).setWidth 64) ((s.fx false m).setWidth 64))))) ∧
    (∀ n,
       s.FpuOn →
         Does [mk4 0xF#4 n 0x2#4 0xD#4] (.floatFRn n) s
           (s.done16
              (if s.fpPr then s.setPair false n (s.fpFromInt true s.fpul)
               else s.setFx false n (lo32 (s.fpFromInt false s.fpul))))) ∧
    (∀ m,
       s.FpuOn →
         Does [mk4 0xF#4 m 0x3#4 0xD#4] (.ftrcFRm m) s
           (s.done16
              ({ s with
                   fpul :=
                     if s.fpPr then s.fpToInt true (s.pair false m) else s.fpToInt false ((s.fx false m).setWidth 64) }))) ∧
    (∀ n,
       s.FpuOn →
         Does [mk4 0xF#4 n 0x6#4 0xD#4] (.fsqrtFRn n) s
           (s.done16
              (if s.fpPr then s.setPair false n (s.fpSqrt true (s.pair false n))
               else s.setFx false n (lo32 (s.fpSqrt false ((s.fx false n).setWidth 64)))))) ∧
    (∀ n, s.FpuOn → Does [mk4 0xF#4 n 0xA#4 0xD#4] (.fcnvsdFRn n) s (s.done16 (s.setPair false n (s.fpWiden s.fpul)))) ∧
    (∀ m,
       s.FpuOn →
         Does [mk4 0xF#4 m 0xB#4 0xD#4] (.fcnvdsFRm m) s (s.done16 ({ s with fpul := s.fpNarrow (s.pair false m) }))) ∧
    (∀ n m,
       s.FpuOn →
         Does [mk4 0xF#4 n m 0xE#4] (.fmacFRmFRn n m) s
           (s.done16
              (if s.fpPr then s.setPair false n (s.fpMac true (s.pair false 0) (s.pair false m) (s.pair false n))
               else
                 s.setFx false n
                   (lo32
                      (s.fpMac false ((s.fx false 0).setWidth 64) ((s.fx false m).setWidth 64)
                         ((s.fx false n).setWidth 64))))))

/-- FMOV, FNEG, FABS, FLDI, FSTS, FLDS, FSCHG, FPCHG, FRCHG, PSETMD: cells and FPSCR. Each line gives the words of the
instruction, its whole next state (so nothing else changes), and where it raises an exception, which one. Stated
with the FPU on; FpuCheck has the FPU absent or disabled. -/
def Obligations.FpMovesAndModes : Prop :=
  ∀ s : State,
    (∀ n m,
       s.FpuOn →
         Does [mk4 0xF#4 n m 0xC#4] (.fmovFRmFRn n m) s
           (s.done16 (if s.fpSz then s.setPair false n (s.pair false m) else s.setFx false n (s.fx false m)))) ∧
    (∀ n, s.FpuOn → Does [mk4 0xF#4 n 0x0#4 0xD#4] (.fstsFRn n) s (s.done16 (s.setFx false n s.fpul))) ∧
    (∀ m, s.FpuOn → Does [mk4 0xF#4 m 0x1#4 0xD#4] (.fldsFRm m) s (s.done16 ({ s with fpul := s.fx false m }))) ∧
    (∀ n,
       s.FpuOn →
         Does [mk4 0xF#4 n 0x4#4 0xD#4] (.fnegFRn n) s
           (s.done16
              (if s.fpPr then s.setPair false n (s.pair false n ^^^ 0x8000000000000000)
               else s.setFx false n (s.fx false n ^^^ 0x80000000)))) ∧
    (∀ n,
       s.FpuOn →
         Does [mk4 0xF#4 n 0x5#4 0xD#4] (.fabsFRn n) s
           (s.done16
              (if s.fpPr then s.setPair false n (s.pair false n &&& 0x7FFFFFFFFFFFFFFF)
               else s.setFx false n (s.fx false n &&& 0x7FFFFFFF)))) ∧
    (∀ n, s.FpuOn → Does [mk4 0xF#4 n 0x8#4 0xD#4] (.fldi0FRn n) s (s.done16 (s.setFx false n 0))) ∧
    (∀ n, s.FpuOn → Does [mk4 0xF#4 n 0x9#4 0xD#4] (.fldi1FRn n) s (s.done16 (s.setFx false n 0x3F800000))) ∧
    (∀ imm,
       s.FpuOn →
         Does [mk4 0xF#4 imm 0xD#4 0xD#4] (.psetmdImm4 imm) s
           (s.done16
              ({ s with
                   fpscr :=
                     s.fpscr.extractLsb' 21 11 ++ imm.extractLsb' 2 2 ++ s.fpscr.extractLsb' 2 17 ++ imm.extractLsb' 0
                       2 }))) ∧
    (s.FpuOn → Does [mk4 0xF#4 0x3#4 0xF#4 0xD#4] .fschg s (s.done16 ({ s with fpscr := s.fpscr ^^^ 0x00100000 }))) ∧
    (s.FpuOn → Does [mk4 0xF#4 0x7#4 0xF#4 0xD#4] .fpchg s (s.done16 ({ s with fpscr := s.fpscr ^^^ 0x00080000 }))) ∧
    (s.FpuOn → Does [mk4 0xF#4 0xB#4 0xF#4 0xD#4] .frchg s (s.done16 ({ s with fpscr := s.fpscr ^^^ 0x00200000 })))

/-- The FMOV.S rows, the VV forms, FMOV between files and PSETMD #imm12: address, kind, order of halves. A store line
names the alignment, the byte count, the address and the value: where the write is allowed exactly those bytes hold
the value, every other byte reads as before and the rest of the state is the one named; where the access raises an
exception, that exception is taken. A load line gives the next state from the bytes at the address, and the same for
its exceptions. Stated with the FPU on. A transfer kind that does not exist, a bit 4 of an address register, a
selector or a bank of the VV byte that does not exist, PSETMD with a reserved bit, and a missing high half are
illegal, with SR.FD set too (the order of these checks before FpuDisable is log 26). -/
def Obligations.FpTransfers : Prop :=
  ∀ s : State,
    s.xferKind = (if s.fpSz then (if s.fpPr then .double else .pair) else .single) ∧
    (∀ bs : List Byte,
       bs.length = 8 →
         pairOrder s.cfg.endian (ofBytes s.cfg.endian bs) = lo32 (ofBytes s.cfg.endian (bs.take 4)) ++ lo32
           (ofBytes s.cfg.endian (bs.drop 4))) ∧
    (∀ n m,
       s.FpuOn →
         DoesLoad [mk4 0xF#4 n m 0x6#4] (.fmovSAtR0RmFRn n m) s 4 (xferSize s.xferKind) (s.r 0 + s.r m) fun v =>
           s.done16 (s.fpLoaded s.xferKind false n v)) ∧
    (∀ n m,
       s.FpuOn →
         DoesStore [mk4 0xF#4 n m 0x7#4] (.fmovSFRmAtR0Rn n m) s 4 (xferSize s.xferKind) (s.r 0 + s.r n)
           (s.fpStored s.xferKind false m) (s.done16 s)) ∧
    (∀ n m,
       s.FpuOn →
         DoesLoad [mk4 0xF#4 n m 0x8#4] (.fmovSAtRmFRn n m) s 4 (xferSize s.xferKind) (s.r m) fun v =>
           s.done16 (s.fpLoaded s.xferKind false n v)) ∧
    (∀ n m,
       s.FpuOn →
         DoesLoad [mk4 0xF#4 n m 0x9#4] (.fmovSAtRmIncFRn n m) s 4 (xferSize s.xferKind) (s.r m) fun v =>
           s.done16 ((s.fpLoaded s.xferKind false n v).writeA m (s.r m + quadOf (xferSize s.xferKind)))) ∧
    (∀ n m,
       s.FpuOn →
         DoesStore [mk4 0xF#4 n m 0xA#4] (.fmovSFRmAtRn n m) s 4 (xferSize s.xferKind) (s.r n)
           (s.fpStored s.xferKind false m) (s.done16 s)) ∧
    (∀ n m,
       s.FpuOn →
         DoesStore [mk4 0xF#4 n m 0xB#4] (.fmovSFRmAtDecRn n m) s 4 (xferSize s.xferKind)
           (s.r n - quadOf (xferSize s.xferKind)) (s.fpStored s.xferKind false m)
           (s.done16 (s.writeA n (s.r n - quadOf (xferSize s.xferKind))))) ∧
    (∀ v o n m,
       s.FpuOn → s.ds = none → ∀ k, vvKind v = some k → vvY v = false →
         DoesLoad [mk4 0x8#4 0xE#4 v o, mk4 0xF#4 n m 0x6#4] (.xvFmovSAtRmRoFRn v o n m) s 4 (xferSize k)
           (s.r m + (if o = 15 then 0 else s.r o) * (if o = 0 then 1 else quadOf (xferSize k))) fun x =>
           s.done32 (s.fpLoaded k (v.getLsbD 1) n x)) ∧
    (∀ v o n m,
       s.FpuOn → s.ds = none → ∀ k, vvKind v = some k → vvX v = false →
         DoesStore [mk4 0x8#4 0xE#4 v o, mk4 0xF#4 n m 0x7#4] (.xvFmovSFRmAtRnRo v o n m) s 4 (xferSize k)
           (s.r n + (if o = 15 then 0 else s.r o) * (if o = 0 then 1 else quadOf (xferSize k)))
           (s.fpStored k (v.getLsbD 0) m) (s.done32 s)) ∧
    (∀ v disp n m,
       s.FpuOn → s.ds = none → ∀ k, vvKind v = some k → vvY v = false →
         DoesLoad [mk4 0x8#4 0xE#4 v disp, mk4 0xF#4 n m 0x8#4] (.xvFmovSAtRmDisp4FRn v disp n m) s 4 (xferSize k)
           (s.r m + disp.setWidth 64 * quadOf (xferSize k)) fun x =>
           s.done32 (s.fpLoaded k (v.getLsbD 1) n x)) ∧
    (∀ v n m,
       s.FpuOn → s.ds = none → ∀ k, vvKind v = some k → vvY v = false →
         DoesLoad [mk4 0x8#4 0xE#4 v 0x0#4, mk4 0xF#4 n m 0x9#4] (.xvFmovSAtRmIncFRn v n m) s 4 (xferSize k) (s.r m)
           fun x =>
           s.done32 ((s.fpLoaded k (v.getLsbD 1) n x).writeA m (s.r m + quadOf (xferSize k)))) ∧
    (∀ v disp n m,
       s.FpuOn → s.ds = none → ∀ k, vvKind v = some k → vvX v = false →
         DoesStore [mk4 0x8#4 0xE#4 v disp, mk4 0xF#4 n m 0xA#4] (.xvFmovSFRmAtRnDisp4 v disp n m) s 4 (xferSize k)
           (s.r n + disp.setWidth 64 * quadOf (xferSize k)) (s.fpStored k (v.getLsbD 0) m) (s.done32 s)) ∧
    (∀ v n m,
       s.FpuOn → s.ds = none → ∀ k, vvKind v = some k → vvX v = false →
         DoesStore [mk4 0x8#4 0xE#4 v 0x0#4, mk4 0xF#4 n m 0xB#4] (.xvFmovSFRmAtDecRn v n m) s 4 (xferSize k)
           (s.r n - quadOf (xferSize k)) (s.fpStored k (v.getLsbD 0) m)
           (s.done32 (s.writeA n (s.r n - quadOf (xferSize k))))) ∧
    (∀ x y n m,
       s.FpuOn → s.ds = none →
         Does [mk4 0x8#4 0xE#4 0x0#4 (bits4 false x false y), mk4 0xF#4 n m 0xC#4]
           (.xvFmovFRmFRn (0x0#4 ++ bits4 false x false y) n m) s (s.done32 (s.setFx x n (s.fx y m)))) ∧
    (∀ x y n m,
       (y = true → s.hasRh = true) → s.FpuOn → s.ds = none →
         Does [mk4 0x8#4 0xE#4 0x3#4 (bits4 false x false y), mk4 0xF#4 n m 0xC#4]
           (.xvFmovFRmFRn (0x3#4 ++ bits4 false x false y) n m) s (s.done32 (s.setFx x n (s.half y m)))) ∧
    (∀ x y n m,
       s.FpuOn → s.ds = none →
         Does [mk4 0x8#4 0xE#4 0x5#4 (bits4 false x false y), mk4 0xF#4 n m 0xC#4]
           (.xvFmovFRmFRn (0x5#4 ++ bits4 false x false y) n m) s (s.done32 (s.setPair x n (s.pair y m)))) ∧
    (∀ x y n m,
       y = false → s.hasRh = true → s.FpuOn → s.ds = none →
         Does [mk4 0x8#4 0xE#4 0x7#4 (bits4 false x false y), mk4 0xF#4 n m 0xC#4]
           (.xvFmovFRmFRn (0x7#4 ++ bits4 false x false y) n m) s (s.done32 (s.setPair x n (s.r m)))) ∧
    (∀ x y n m,
       ((x || y) = true → s.hasRh = true) → s.FpuOn → s.ds = none →
         Does [mk4 0x8#4 0xE#4 0x8#4 (bits4 false x false y), mk4 0xF#4 n m 0xC#4]
           (.xvFmovFRmFRn (0x8#4 ++ bits4 false x false y) n m) s (s.done32 (s.setHalf x n (s.half y m)))) ∧
    (∀ x y n m,
       x = false → y = false → s.hasRh = true → s.FpuOn → s.ds = none →
         Does [mk4 0x8#4 0xE#4 0xA#4 (bits4 false x false y), mk4 0xF#4 n m 0xC#4]
           (.xvFmovFRmFRn (0xA#4 ++ bits4 false x false y) n m) s (s.done32 (s.setR n (s.r m)))) ∧
    (∀ x y n m,
       (x = true → s.hasRh = true) → s.FpuOn → s.ds = none →
         Does [mk4 0x8#4 0xE#4 0xC#4 (bits4 false x false y), mk4 0xF#4 n m 0xC#4]
           (.xvFmovFRmFRn (0xC#4 ++ bits4 false x false y) n m) s (s.done32 (s.setHalf x n (s.fx y m)))) ∧
    (∀ x y n m,
       x = false → s.hasRh = true → s.FpuOn → s.ds = none →
         Does [mk4 0x8#4 0xE#4 0xD#4 (bits4 false x false y), mk4 0xF#4 n m 0xC#4]
           (.xvFmovFRmFRn (0xD#4 ++ bits4 false x false y) n m) s (s.done32 (s.setR n (s.pair y m)))) ∧
    (∀ imm,
       s.FpuOn → s.ds = none → imm.extractLsb' 6 6 = 0 →
         Does
           [mk4 0x8#4 0xE#4 (imm.extractLsb' 8 4) (imm.extractLsb' 4 4), mk4 0xF#4 (imm.extractLsb' 0 4) 0xD#4 0xD#4]
           (.xPsetmdImm12 imm) s
           (s.done32 ({ s with fpscr := 0#10 ++ imm.extractLsb' 2 4 ++ 0#16 ++ imm.extractLsb' 0 2 }))) ∧
    (∀ imm, imm.extractLsb' 6 6 ≠ 0 → Raises (.xPsetmdImm12 imm) s .illegal) ∧
    (∀ v o n m, vvKind v = none ∨ vvY v = true → Raises (.xvFmovSAtRmRoFRn v o n m) s .illegal) ∧
    (∀ v o n m, vvKind v = none ∨ vvX v = true → Raises (.xvFmovSFRmAtRnRo v o n m) s .illegal) ∧
    (∀ v disp n m, vvKind v = none ∨ vvY v = true → Raises (.xvFmovSAtRmDisp4FRn v disp n m) s .illegal) ∧
    (∀ v n m, vvKind v = none ∨ vvY v = true → Raises (.xvFmovSAtRmIncFRn v n m) s .illegal) ∧
    (∀ v disp n m, vvKind v = none ∨ vvX v = true → Raises (.xvFmovSFRmAtRnDisp4 v disp n m) s .illegal) ∧
    (∀ v n m, vvKind v = none ∨ vvX v = true → Raises (.xvFmovSFRmAtDecRn v n m) s .illegal) ∧
    (∀ v n m, wfMove v = false → Raises (.xvFmovFRmFRn v n m) s .illegal) ∧
    (∀ x n m, s.hasRh = false → Raises (.xvFmovFRmFRn (0x3#4 ++ bits4 false x false true) n m) s .illegal) ∧
    (∀ n m, s.hasRh = false → Raises (.xvFmovFRmFRn (0x7#4 ++ bits4 false false false false) n m) s .illegal) ∧
    (∀ y n m, s.hasRh = false → Raises (.xvFmovFRmFRn (0x8#4 ++ bits4 false true false y) n m) s .illegal) ∧
    (∀ x n m, s.hasRh = false → Raises (.xvFmovFRmFRn (0x8#4 ++ bits4 false x false true) n m) s .illegal) ∧
    (∀ n m, s.hasRh = false → Raises (.xvFmovFRmFRn (0xA#4 ++ bits4 false false false false) n m) s .illegal) ∧
    (∀ y n m, s.hasRh = false → Raises (.xvFmovFRmFRn (0xC#4 ++ bits4 false true false y) n m) s .illegal) ∧
    (∀ y n m, s.hasRh = false → Raises (.xvFmovFRmFRn (0xD#4 ++ bits4 false false false y) n m) s .illegal)

/-- The XPFX0 stores: index, displacement and immediate forms. A store line names the alignment, the byte count, the
address and the value: where the write is allowed exactly those bytes hold the value, every other byte reads as
before and the rest of the state is the one named; where the access raises an exception, that exception is taken. A
load line gives the next state from the bytes at the address, and the same for its exceptions. Stated outside a
delay slot (SlotRules has the slot). The quad forms are illegal at JQ = 0. -/
def Obligations.WideStores : Prop :=
  ∀ s : State,
    (∀ o disp n m,
       s.ds = none →
         DoesStore [mk4 0x8#4 0xE#4 o disp, mk4 0x0#4 n m 0x4#4] (.xMovBRmAtRnRoDisp4 o disp n m) s 1 1
           (s.r n + ((if o = 15 then 0 else s.r o) + disp.setWidth 64) * (if o = 0 then 1 else 1)) (s.r m)
           (s.done32 s)) ∧
    (∀ o disp n m,
       s.ds = none →
         DoesStore [mk4 0x8#4 0xE#4 o disp, mk4 0x0#4 n m 0x5#4] (.xMovWRmAtRnRoDisp4 o disp n m) s 2 2
           (s.r n + ((if o = 15 then 0 else s.r o) + disp.setWidth 64) * (if o = 0 then 1 else 2)) (s.r m)
           (s.done32 s)) ∧
    (∀ o disp n m,
       s.ds = none →
         DoesStore [mk4 0x8#4 0xE#4 o disp, mk4 0x0#4 n m 0x6#4] (.xMovLRmAtRnRoDisp4 o disp n m) s 4 4
           (s.r n + ((if o = 15 then 0 else s.r o) + disp.setWidth 64) * (if o = 0 then 1 else 4)) (s.r m)
           (s.done32 s)) ∧
    (∀ o disp n m,
       s.ds = none → s.jq = true →
         DoesStore [mk4 0x8#4 0xE#4 o disp, mk4 0x0#4 n m 0x7#4] (.xMovQRmAtRnRoDisp4 o disp n m) s 4 8
           (s.r n + ((if o = 15 then 0 else s.r o) + disp.setWidth 64) * (if o = 0 then 1 else 8)) (s.r m)
           (s.done32 s)) ∧
    (∀ disp n m o,
       s.ds = none →
         DoesStore [mk4 0x8#4 0xE#4 (disp.extractLsb' 4 4) (disp.extractLsb' 0 4), mk4 0x1#4 n m o]
           (.xMovLRmAtRnRoDisp8s disp n m o) s 4 4
           (s.r n + ((if o = 15 then 0 else s.r o) + disp.signExtend 64) * (if o = 0 then 1 else 4)) (s.r m)
           (s.done32 s)) ∧
    (∀ disp n m,
       s.ds = none →
         DoesStore [mk4 0x8#4 0xE#4 (disp.extractLsb' 4 4) (disp.extractLsb' 0 4), mk4 0x2#4 n m 0x0#4]
           (.xMovBRmAtRnDisp8s disp n m) s 1 1 (s.r n + disp.signExtend 64 * 1) (s.r m) (s.done32 s)) ∧
    (∀ disp n m,
       s.ds = none →
         DoesStore [mk4 0x8#4 0xE#4 (disp.extractLsb' 4 4) (disp.extractLsb' 0 4), mk4 0x2#4 n m 0x1#4]
           (.xMovWRmAtRnDisp8s disp n m) s 2 2 (s.r n + disp.signExtend 64 * 2) (s.r m) (s.done32 s)) ∧
    (∀ disp n m,
       s.ds = none →
         DoesStore [mk4 0x8#4 0xE#4 (disp.extractLsb' 4 4) (disp.extractLsb' 0 4), mk4 0x2#4 n m 0x2#4]
           (.xMovLRmAtRnDisp8s disp n m) s 4 4 (s.r n + disp.signExtend 64 * 4) (s.r m) (s.done32 s)) ∧
    (∀ disp n m,
       s.ds = none → s.jq = true →
         DoesStore [mk4 0x8#4 0xE#4 (disp.extractLsb' 4 4) (disp.extractLsb' 0 4), mk4 0x2#4 n m 0x3#4]
           (.xMovQRmAtRnDisp8s disp n m) s 4 8 (s.r n + disp.signExtend 64 * 8) (s.r m) (s.done32 s)) ∧
    (∀ imm n,
       s.ds = none →
         DoesStore [mk4 0x8#4 0xE#4 (imm.extractLsb' 4 4) (imm.extractLsb' 0 4), mk4 0x4#4 n 0x8#4 0x4#4]
           (.xMovBImmAtRn imm n) s 1 1 (s.r n) (imm.signExtend 64) (s.done32 s)) ∧
    (∀ imm n,
       s.ds = none →
         DoesStore [mk4 0x8#4 0xE#4 (imm.extractLsb' 4 4) (imm.extractLsb' 0 4), mk4 0x4#4 n 0x9#4 0x4#4]
           (.xMovWImmAtRn imm n) s 2 2 (s.r n) (imm.signExtend 64) (s.done32 s)) ∧
    (∀ imm n,
       s.ds = none →
         DoesStore [mk4 0x8#4 0xE#4 (imm.extractLsb' 4 4) (imm.extractLsb' 0 4), mk4 0x4#4 n 0xA#4 0x4#4]
           (.xMovLImmAtRn imm n) s 4 4 (s.r n) (imm.signExtend 64) (s.done32 s)) ∧
    (∀ imm n,
       s.ds = none → s.jq = true →
         DoesStore [mk4 0x8#4 0xE#4 (imm.extractLsb' 4 4) (imm.extractLsb' 0 4), mk4 0x4#4 n 0xB#4 0x4#4]
           (.xMovQImmAtRn imm n) s 4 8 (s.r n) (imm.signExtend 64) (s.done32 s)) ∧
    (∀ imm n,
       s.ds = none →
         DoesStore [mk4 0x8#4 0xE#4 (imm.extractLsb' 4 4) (imm.extractLsb' 0 4), mk4 0x4#4 n 0xC#4 0x4#4]
           (.xMovBImmAtDecRn imm n) s 1 1 (s.r n - 1) (imm.signExtend 64) (s.done32 (s.writeA n (s.r n - 1)))) ∧
    (∀ imm n,
       s.ds = none →
         DoesStore [mk4 0x8#4 0xE#4 (imm.extractLsb' 4 4) (imm.extractLsb' 0 4), mk4 0x4#4 n 0xD#4 0x4#4]
           (.xMovWImmAtDecRn imm n) s 2 2 (s.r n - 2) (imm.signExtend 64) (s.done32 (s.writeA n (s.r n - 2)))) ∧
    (∀ imm n,
       s.ds = none →
         DoesStore [mk4 0x8#4 0xE#4 (imm.extractLsb' 4 4) (imm.extractLsb' 0 4), mk4 0x4#4 n 0xE#4 0x4#4]
           (.xMovLImmAtDecRn imm n) s 4 4 (s.r n - 4) (imm.signExtend 64) (s.done32 (s.writeA n (s.r n - 4)))) ∧
    (∀ imm n,
       s.ds = none → s.jq = true →
         DoesStore [mk4 0x8#4 0xE#4 (imm.extractLsb' 4 4) (imm.extractLsb' 0 4), mk4 0x4#4 n 0xF#4 0x4#4]
           (.xMovQImmAtDecRn imm n) s 4 8 (s.r n - 8) (imm.signExtend 64) (s.done32 (s.writeA n (s.r n - 8)))) ∧
    (∀ o disp n m, s.jq = false → Raises (.xMovQRmAtRnRoDisp4 o disp n m) s .illegal) ∧
    (∀ disp n m, s.jq = false → Raises (.xMovQRmAtRnDisp8s disp n m) s .illegal) ∧
    (∀ imm n, s.jq = false → Raises (.xMovQImmAtRn imm n) s .illegal) ∧
    (∀ imm n, s.jq = false → Raises (.xMovQImmAtDecRn imm n) s .illegal)

/-- The XPFX0 loads: index and displacement forms, sign and zero extension. A store line names the alignment, the byte
count, the address and the value: where the write is allowed exactly those bytes hold the value, every other byte
reads as before and the rest of the state is the one named; where the access raises an exception, that exception is
taken. A load line gives the next state from the bytes at the address, and the same for its exceptions. Stated
outside a delay slot (SlotRules has the slot). The quad forms are illegal at JQ = 0. -/
def Obligations.WideLoads : Prop :=
  ∀ s : State,
    (∀ o disp n m,
       s.ds = none →
         DoesLoad [mk4 0x8#4 0xE#4 o disp, mk4 0x0#4 n m 0xC#4] (.xMovBAtRmRoDisp4Rn o disp n m) s 1 1
           (s.r m + ((if o = 15 then 0 else s.r o) + disp.setWidth 64) * (if o = 0 then 1 else 1)) fun v =>
           s.done32 (s.writeW n ((v.setWidth 8).signExtend 64) ((v.setWidth 8).signExtend 32))) ∧
    (∀ o disp n m,
       s.ds = none →
         DoesLoad [mk4 0x8#4 0xE#4 o disp, mk4 0x0#4 n m 0xD#4] (.xMovWAtRmRoDisp4Rn o disp n m) s 2 2
           (s.r m + ((if o = 15 then 0 else s.r o) + disp.setWidth 64) * (if o = 0 then 1 else 2)) fun v =>
           s.done32 (s.writeW n ((v.setWidth 16).signExtend 64) ((v.setWidth 16).signExtend 32))) ∧
    (∀ o disp n m,
       s.ds = none →
         DoesLoad [mk4 0x8#4 0xE#4 o disp, mk4 0x0#4 n m 0xE#4] (.xMovLAtRmRoDisp4Rn o disp n m) s 4 4
           (s.r m + ((if o = 15 then 0 else s.r o) + disp.setWidth 64) * (if o = 0 then 1 else 4)) fun v =>
           s.done32 (s.writeW n ((v.setWidth 32).signExtend 64) ((v.setWidth 32).signExtend 32))) ∧
    (∀ o disp n m,
       s.ds = none → s.jq = true →
         DoesLoad [mk4 0x8#4 0xE#4 o disp, mk4 0x0#4 n m 0xF#4] (.xMovQAtRmRoDisp4Rn o disp n m) s 4 8
           (s.r m + ((if o = 15 then 0 else s.r o) + disp.setWidth 64) * (if o = 0 then 1 else 8)) fun v =>
           s.done32 (s.setR n v)) ∧
    (∀ disp n m o,
       s.ds = none →
         DoesLoad [mk4 0x8#4 0xE#4 (disp.extractLsb' 4 4) (disp.extractLsb' 0 4), mk4 0x5#4 n m o]
           (.xMovLAtRmRoDisp8sRn disp n m o) s 4 4
           (s.r m + ((if o = 15 then 0 else s.r o) + disp.signExtend 64) * (if o = 0 then 1 else 4)) fun v =>
           s.done32 (s.writeW n ((v.setWidth 32).signExtend 64) ((v.setWidth 32).signExtend 32))) ∧
    (∀ disp n m,
       s.ds = none →
         DoesLoad [mk4 0x8#4 0xE#4 (disp.extractLsb' 4 4) (disp.extractLsb' 0 4), mk4 0x6#4 n m 0x0#4]
           (.xMovBAtRmDisp8sRn disp n m) s 1 1 (s.r m + disp.signExtend 64 * 1) fun v =>
           s.done32 (s.writeW n ((v.setWidth 8).signExtend 64) ((v.setWidth 8).signExtend 32))) ∧
    (∀ disp n m,
       s.ds = none →
         DoesLoad [mk4 0x8#4 0xE#4 (disp.extractLsb' 4 4) (disp.extractLsb' 0 4), mk4 0x6#4 n m 0x1#4]
           (.xMovWAtRmDisp8sRn disp n m) s 2 2 (s.r m + disp.signExtend 64 * 2) fun v =>
           s.done32 (s.writeW n ((v.setWidth 16).signExtend 64) ((v.setWidth 16).signExtend 32))) ∧
    (∀ disp n m,
       s.ds = none →
         DoesLoad [mk4 0x8#4 0xE#4 (disp.extractLsb' 4 4) (disp.extractLsb' 0 4), mk4 0x6#4 n m 0x2#4]
           (.xMovLAtRmDisp8sRn disp n m) s 4 4 (s.r m + disp.signExtend 64 * 4) fun v =>
           s.done32 (s.writeW n ((v.setWidth 32).signExtend 64) ((v.setWidth 32).signExtend 32))) ∧
    (∀ disp n m,
       s.ds = none → s.jq = true →
         DoesLoad [mk4 0x8#4 0xE#4 (disp.extractLsb' 4 4) (disp.extractLsb' 0 4), mk4 0x6#4 n m 0x3#4]
           (.xMovQAtRmDisp8sRn disp n m) s 4 8 (s.r m + disp.signExtend 64 * 8) fun v =>
           s.done32 (s.setR n v)) ∧
    (∀ disp n m,
       s.ds = none →
         DoesLoad [mk4 0x8#4 0xE#4 (disp.extractLsb' 4 4) (disp.extractLsb' 0 4), mk4 0x6#4 n m 0xC#4]
           (.xMovuBAtRmDisp8sRn disp n m) s 1 1 (s.r m + disp.signExtend 64 * 1) fun v =>
           s.done32 (s.writeW n ((v.setWidth 8).setWidth 64) ((v.setWidth 8).setWidth 32))) ∧
    (∀ disp n m,
       s.ds = none →
         DoesLoad [mk4 0x8#4 0xE#4 (disp.extractLsb' 4 4) (disp.extractLsb' 0 4), mk4 0x6#4 n m 0xD#4]
           (.xMovuWAtRmDisp8sRn disp n m) s 2 2 (s.r m + disp.signExtend 64 * 2) fun v =>
           s.done32 (s.writeW n ((v.setWidth 16).setWidth 64) ((v.setWidth 16).setWidth 32))) ∧
    (∀ disp n m,
       s.ds = none →
         DoesLoad [mk4 0x8#4 0xE#4 (disp.extractLsb' 4 4) (disp.extractLsb' 0 4), mk4 0x6#4 n m 0xE#4]
           (.xMovuLAtRmDisp8sRn disp n m) s 4 4 (s.r m + disp.signExtend 64 * 4) fun v =>
           s.done32 (s.writeW n ((v.setWidth 32).setWidth 64) ((v.setWidth 32).setWidth 32))) ∧
    (∀ o disp n m, s.jq = false → Raises (.xMovQAtRmRoDisp4Rn o disp n m) s .illegal) ∧
    (∀ disp n m, s.jq = false → Raises (.xMovQAtRmDisp8sRn disp n m) s .illegal)

/-- The XPFX0 and TACB floating-point forms, and FMOV.D gated by its parameter. A store line names the alignment, the
byte count, the address and the value: where the write is allowed exactly those bytes hold the value, every other
byte reads as before and the rest of the state is the one named; where the access raises an exception, that
exception is taken. A load line gives the next state from the bytes at the address, and the same for its exceptions.
Stated with the FPU on and outside a delay slot. Precision of the TACB forms is Q. -/
def Obligations.WideFloatingPoint : Prop :=
  ∀ s : State,
    (∀ disp n m,
       s.ds = none → s.FpuOn →
         DoesStore [mk4 0x8#4 0xE#4 (disp.extractLsb' 4 4) (disp.extractLsb' 0 4), mk4 0x2#4 n m 0x4#4]
           (.xFmovSFRmAtRnDisp8s disp n m) s 4 4 (s.r n + disp.signExtend 64 * 4) (s.fpStored .single false m)
           (s.done32 s)) ∧
    (∀ disp n m,
       s.ds = none → s.FpuOn → s.cfg.hasFmovdDisp = true →
         DoesStore [mk4 0x8#4 0xE#4 (disp.extractLsb' 4 4) (disp.extractLsb' 0 4), mk4 0x2#4 n m 0x5#4]
           (.xFmovDDRmAtRnDisp8s disp n m) s 4 8 (s.r n + disp.signExtend 64 * 8) (s.fpStored .double false m)
           (s.done32 s)) ∧
    (∀ disp n m,
       s.ds = none → s.FpuOn →
         DoesLoad [mk4 0x8#4 0xE#4 (disp.extractLsb' 4 4) (disp.extractLsb' 0 4), mk4 0x2#4 n m 0x6#4]
           (.xFmovSAtRmDisp8sFRn disp n m) s 4 4 (s.r m + disp.signExtend 64 * 4) fun v =>
           s.done32 (s.fpLoaded .single false n v)) ∧
    (∀ disp n m,
       s.ds = none → s.FpuOn → s.cfg.hasFmovdDisp = true →
         DoesLoad [mk4 0x8#4 0xE#4 (disp.extractLsb' 4 4) (disp.extractLsb' 0 4), mk4 0x2#4 n m 0x7#4]
           (.xFmovDAtRmDisp8sDRn disp n m) s 4 8 (s.r m + disp.signExtend 64 * 8) fun v =>
           s.done32 (s.fpLoaded .double false n v)) ∧
    (∀ disp n m, s.cfg.hasFmovdDisp = false → Raises (.xFmovDDRmAtRnDisp8s disp n m) s .illegal) ∧
    (∀ disp n m, s.cfg.hasFmovdDisp = false → Raises (.xFmovDAtRmDisp8sDRn disp n m) s .illegal) ∧
    (∀ imm,
       s.ds = none → s.FpuOn →
         Does
           [mk4 0x8#4 0xE#4 (imm.extractLsb' 12 4) (imm.extractLsb' 8 4), mk4 0x8#4 0xA#4 (imm.extractLsb' 4 4) (imm.extractLsb' 0 4)]
           (.xLdhf16ImmFpul imm) s (s.done32 ({ s with fpul := s.fpHalf imm }))) ∧
    (∀ disp n,
       s.ds = none → s.FpuOn →
         DoesLoad
           [mk4 0x8#4 0xE#4 (2#3 ++ disp.extractLsb' 12 1) (disp.extractLsb' 8 4), mk4 0x9#4 n (disp.extractLsb' 4 4) (disp.extractLsb' 0 4)]
           (.xFmovSAtPcDisp13FRn disp n) s 4 4 ((s.addr (s.pcn + 6) &&& ~~~3#64) + disp.setWidth 64 * 4) fun v =>
           s.done32 (s.fpLoaded .single false n v)) ∧
    (∀ disp n,
       s.ds = none → s.FpuOn →
         DoesLoad
           [mk4 0x8#4 0xE#4 (4#3 ++ disp.extractLsb' 12 1) (disp.extractLsb' 8 4), mk4 0x9#4 n (disp.extractLsb' 4 4) (disp.extractLsb' 0 4)]
           (.xFmovSAtPcDisp13XFn disp n) s 4 4 ((s.addr (s.pcn + 6) &&& ~~~3#64) + disp.setWidth 64 * 4) fun v =>
           s.done32 (s.fpLoaded .single true n v)) ∧
    (∀ disp n,
       s.ds = none → s.FpuOn →
         DoesLoad
           [mk4 0x8#4 0xE#4 (7#3 ++ disp.extractLsb' 12 1) (disp.extractLsb' 8 4), mk4 0x9#4 n (disp.extractLsb' 4 4) (disp.extractLsb' 0 4)]
           (.xFmovDAtPcDisp13DRn disp n) s 4 8 ((s.addr (s.pcn + 6) &&& ~~~3#64) + disp.setWidth 64 * 4) fun v =>
           s.done32 (s.fpLoaded .double false n v)) ∧
    (∀ q nx sx tx n rs rt,
       s.ds = none → s.FpuOn →
         Does [mk4 0x8#4 0xC#4 0x3#4 (bits4 q nx sx tx), mk4 0xC#4 n rs rt] (.tFaddFRsFRtFRn q nx sx tx n rs rt) s
           (s.done32
              (if q then s.setPair nx n (s.fpBin .add true (s.pair sx rs) (s.pair tx rt))
               else s.setFx nx n (lo32 (s.fpBin .add false ((s.fx sx rs).setWidth 64) ((s.fx tx rt).setWidth 64)))))) ∧
    (∀ q nx sx tx n rs rt,
       s.ds = none → s.FpuOn →
         Does [mk4 0x8#4 0xC#4 0x3#4 (bits4 q nx sx tx), mk4 0xD#4 n rs rt] (.tFsubFRsFRtFRn q nx sx tx n rs rt) s
           (s.done32
              (if q then s.setPair nx n (s.fpBin .sub true (s.pair sx rs) (s.pair tx rt))
               else s.setFx nx n (lo32 (s.fpBin .sub false ((s.fx sx rs).setWidth 64) ((s.fx tx rt).setWidth 64)))))) ∧
    (∀ q nx sx tx n rs rt,
       s.ds = none → s.FpuOn →
         Does [mk4 0x8#4 0xC#4 0x3#4 (bits4 q nx sx tx), mk4 0xE#4 n rs rt] (.tFmulFRsFRtFRn q nx sx tx n rs rt) s
           (s.done32
              (if q then s.setPair nx n (s.fpBin .mul true (s.pair sx rs) (s.pair tx rt))
               else s.setFx nx n (lo32 (s.fpBin .mul false ((s.fx sx rs).setWidth 64) ((s.fx tx rt).setWidth 64)))))) ∧
    (∀ q nx sx tx n rs rt,
       s.ds = none → s.FpuOn →
         Does [mk4 0x8#4 0xC#4 0x3#4 (bits4 q nx sx tx), mk4 0xF#4 n rs rt] (.tFdivFRsFRtFRn q nx sx tx n rs rt) s
           (s.done32
              (if q then s.setPair nx n (s.fpBin .div true (s.pair sx rs) (s.pair tx rt))
               else s.setFx nx n (lo32 (s.fpBin .div false ((s.fx sx rs).setWidth 64) ((s.fx tx rt).setWidth 64))))))

/-- The XPFX0 arithmetic, logic and shift immediates at both widths. Each line gives the words of the instruction, its
whole next state (so nothing else changes), and where it raises an exception, which one. Stated outside a delay slot
(SlotRules has the slot). Immediates are sign-extended. -/
def Obligations.WideArithmetic : Prop :=
  ∀ s : State,
    (∀ imm n m,
       s.ds = none →
         Does [mk4 0x8#4 0xE#4 (imm.extractLsb' 4 4) (imm.extractLsb' 0 4), mk4 0x2#4 n m 0x9#4]
           (.xAndRmImm8Rn imm n m) s
           (s.done32 (s.resultW n (s.r m) (imm.signExtend 64) (fun _ a b _ => (some (a &&& b), none))))) ∧
    (∀ imm n m,
       s.ds = none →
         Does [mk4 0x8#4 0xE#4 (imm.extractLsb' 4 4) (imm.extractLsb' 0 4), mk4 0x2#4 n m 0xA#4]
           (.xXorRmImm8Rn imm n m) s
           (s.done32 (s.resultW n (s.r m) (imm.signExtend 64) (fun _ a b _ => (some (a ^^^ b), none))))) ∧
    (∀ imm n m,
       s.ds = none →
         Does [mk4 0x8#4 0xE#4 (imm.extractLsb' 4 4) (imm.extractLsb' 0 4), mk4 0x2#4 n m 0xB#4]
           (.xOrRmImm8Rn imm n m) s
           (s.done32 (s.resultW n (s.r m) (imm.signExtend 64) (fun _ a b _ => (some (a ||| b), none))))) ∧
    (∀ imm n m,
       s.ds = none →
         Does [mk4 0x8#4 0xE#4 (imm.extractLsb' 4 4) (imm.extractLsb' 0 4), mk4 0x2#4 n m 0xE#4]
           (.xMullRmImm8Rn imm n m) s
           (s.done32 (s.resultW n (s.r m) (imm.signExtend 64) (fun _ a b _ => (some (a * b), none))))) ∧
    (∀ imm n m,
       s.ds = none →
         Does [mk4 0x8#4 0xE#4 (imm.extractLsb' 4 4) (imm.extractLsb' 0 4), mk4 0x3#4 n m 0x8#4]
           (.xSubRmImm8Rn imm n m) s
           (s.done32 (s.resultW n (s.r m) (imm.signExtend 64) (fun _ a b _ => (some (a - b), none))))) ∧
    (∀ imm n m,
       s.ds = none →
         Does [mk4 0x8#4 0xE#4 (imm.extractLsb' 4 4) (imm.extractLsb' 0 4), mk4 0x3#4 n m 0xC#4]
           (.xAddRmImm8Rn imm n m) s
           (s.done32 (s.resultW n (s.r m) (imm.signExtend 64) (fun _ a b _ => (some (a + b), none))))) ∧
    (∀ imm n m,
       s.ds = none →
         Does [mk4 0x8#4 0xE#4 (imm.extractLsb' 4 4) (imm.extractLsb' 0 4), mk4 0x4#4 n m 0xC#4]
           (.xShadRmImmRn imm n m) s
           (s.done32 (s.resultW n (s.r m) (imm.signExtend 64) (fun w a b _ => (some (shadRule w a b.toInt), none))))) ∧
    (∀ imm n m,
       s.ds = none →
         Does [mk4 0x8#4 0xE#4 (imm.extractLsb' 4 4) (imm.extractLsb' 0 4), mk4 0x4#4 n m 0xD#4]
           (.xShldRmImmRn imm n m) s
           (s.done32 (s.resultW n (s.r m) (imm.signExtend 64) (fun w a b _ => (some (shldRule w a b.toInt), none))))) ∧
    (∀ imm n,
       s.ds = none →
         Does
           [mk4 0x8#4 0xE#4 (imm.extractLsb' 12 4) (imm.extractLsb' 8 4), mk4 0x7#4 n (imm.extractLsb' 4 4) (imm.extractLsb' 0 4)]
           (.xAddImm16Rn imm n) s
           (s.done32 (s.resultW n (s.r n) (imm.signExtend 64) (fun _ a b _ => (some (a + b), none))))) ∧
    (∀ imm n,
       s.ds = none →
         Does
           [mk4 0x8#4 0xE#4 (imm.extractLsb' 12 4) (imm.extractLsb' 8 4), mk4 0xE#4 n (imm.extractLsb' 4 4) (imm.extractLsb' 0 4)]
           (.xMovImm16Rn imm n) s (s.done32 (s.writeW n (imm.signExtend 64) (imm.signExtend 32))))

/-- The XPFX0 CMP, TST and logic with imm12 and imm16, LEA, MOVA, LDSH16 and MOVI24. Each line gives the words of the
instruction, its whole next state (so nothing else changes), and where it raises an exception, which one. Stated
outside a delay slot. The upper half after MOVI24 at DQ = 1 is as NOSUFFIX_HI says (log 13). -/
def Obligations.WideCompareLogicAndAddress : Prop :=
  ∀ s : State,
    (∀ imm n,
       s.ds = none →
         Does [mk4 0x8#4 0xE#4 (imm.extractLsb' 8 4) (imm.extractLsb' 4 4), mk4 0x3#4 n (imm.extractLsb' 0 4) 0x0#4]
           (.xCmpeqImm12Rn imm n) s
           (s.done32 (s.resultW n (s.r n) (imm.signExtend 64) (fun _ a b _ => (none, some (a = b)))))) ∧
    (∀ imm n,
       s.ds = none →
         Does [mk4 0x8#4 0xE#4 (imm.extractLsb' 8 4) (imm.extractLsb' 4 4), mk4 0x3#4 n (imm.extractLsb' 0 4) 0x2#4]
           (.xCmphsImm12Rn imm n) s
           (s.done32 (s.resultW n (s.r n) (imm.signExtend 64) (fun _ a b _ => (none, some (b.toNat ≤ a.toNat)))))) ∧
    (∀ imm n,
       s.ds = none →
         Does [mk4 0x8#4 0xE#4 (imm.extractLsb' 8 4) (imm.extractLsb' 4 4), mk4 0x3#4 n (imm.extractLsb' 0 4) 0x3#4]
           (.xCmpgeImm12Rn imm n) s
           (s.done32 (s.resultW n (s.r n) (imm.signExtend 64) (fun _ a b _ => (none, some (b.toInt ≤ a.toInt)))))) ∧
    (∀ imm n,
       s.ds = none →
         Does [mk4 0x8#4 0xE#4 (imm.extractLsb' 8 4) (imm.extractLsb' 4 4), mk4 0x3#4 n (imm.extractLsb' 0 4) 0x6#4]
           (.xCmphiImm12Rn imm n) s
           (s.done32 (s.resultW n (s.r n) (imm.signExtend 64) (fun _ a b _ => (none, some (b.toNat < a.toNat)))))) ∧
    (∀ imm n,
       s.ds = none →
         Does [mk4 0x8#4 0xE#4 (imm.extractLsb' 8 4) (imm.extractLsb' 4 4), mk4 0x3#4 n (imm.extractLsb' 0 4) 0x7#4]
           (.xCmpgtImm12Rn imm n) s
           (s.done32 (s.resultW n (s.r n) (imm.signExtend 64) (fun _ a b _ => (none, some (b.toInt < a.toInt)))))) ∧
    (∀ imm,
       s.ds = none →
         Does
           [mk4 0x8#4 0xE#4 (imm.extractLsb' 12 4) (imm.extractLsb' 8 4), mk4 0x8#4 0x8#4 (imm.extractLsb' 4 4) (imm.extractLsb' 0 4)]
           (.xCmpeqImm16R0 imm) s
           (s.done32 (s.resultW 0 (s.r 0) (imm.signExtend 64) (fun _ a b _ => (none, some (a = b)))))) ∧
    (∀ imm n,
       s.ds = none →
         Does [mk4 0x8#4 0xE#4 (imm.extractLsb' 8 4) (imm.extractLsb' 4 4), mk4 0xC#4 0x8#4 n (imm.extractLsb' 0 4)]
           (.xTstImm12Rn imm n) s
           (s.done32 (s.resultW n (s.r n) (imm.setWidth 64) (fun _ a b _ => (none, some (a &&& b = 0)))))) ∧
    (∀ imm n,
       s.ds = none →
         Does [mk4 0x8#4 0xE#4 (imm.extractLsb' 8 4) (imm.extractLsb' 4 4), mk4 0xC#4 0x9#4 n (imm.extractLsb' 0 4)]
           (.xAndImm12Rn imm n) s
           (s.done32 (s.resultW n (s.r n) (imm.setWidth 64) (fun _ a b _ => (some (a &&& b), none))))) ∧
    (∀ imm n,
       s.ds = none →
         Does [mk4 0x8#4 0xE#4 (imm.extractLsb' 8 4) (imm.extractLsb' 4 4), mk4 0xC#4 0xA#4 n (imm.extractLsb' 0 4)]
           (.xXorImm12Rn imm n) s
           (s.done32 (s.resultW n (s.r n) (imm.setWidth 64) (fun _ a b _ => (some (a ^^^ b), none))))) ∧
    (∀ imm n,
       s.ds = none →
         Does [mk4 0x8#4 0xE#4 (imm.extractLsb' 8 4) (imm.extractLsb' 4 4), mk4 0xC#4 0xB#4 n (imm.extractLsb' 0 4)]
           (.xOrImm12Rn imm n) s
           (s.done32 (s.resultW n (s.r n) (imm.setWidth 64) (fun _ a b _ => (some (a ||| b), none))))) ∧
    (∀ o disp n m,
       s.ds = none →
         Does [mk4 0x8#4 0xE#4 o disp, mk4 0x6#4 n m 0x4#4] (.xLeaBAtRmRoDisp4Rn o disp n m) s
           (s.done32
              (s.writeA n (s.r m + ((if o = 15 then 0 else s.r o) + disp.setWidth 64) * (if o = 0 then 1 else 1))))) ∧
    (∀ o disp n m,
       s.ds = none →
         Does [mk4 0x8#4 0xE#4 o disp, mk4 0x6#4 n m 0x5#4] (.xLeaWAtRmRoDisp4Rn o disp n m) s
           (s.done32
              (s.writeA n (s.r m + ((if o = 15 then 0 else s.r o) + disp.setWidth 64) * (if o = 0 then 1 else 2))))) ∧
    (∀ o disp n m,
       s.ds = none →
         Does [mk4 0x8#4 0xE#4 o disp, mk4 0x6#4 n m 0x6#4] (.xLeaLAtRmRoDisp4Rn o disp n m) s
           (s.done32
              (s.writeA n (s.r m + ((if o = 15 then 0 else s.r o) + disp.setWidth 64) * (if o = 0 then 1 else 4))))) ∧
    (∀ o disp n m,
       s.ds = none →
         Does [mk4 0x8#4 0xE#4 o disp, mk4 0x6#4 n m 0x7#4] (.xLeaQAtRmRoDisp4Rn o disp n m) s
           (s.done32
              (s.writeA n (s.r m + ((if o = 15 then 0 else s.r o) + disp.setWidth 64) * (if o = 0 then 1 else 8))))) ∧
    (∀ disp n m,
       s.ds = none →
         Does [mk4 0x8#4 0xE#4 (disp.extractLsb' 4 4) (disp.extractLsb' 0 4), mk4 0x6#4 n m 0x8#4]
           (.xLeaBAtRmDisp8sRn disp n m) s (s.done32 (s.writeA n (s.r m + disp.signExtend 64 * 1)))) ∧
    (∀ disp n m,
       s.ds = none →
         Does [mk4 0x8#4 0xE#4 (disp.extractLsb' 4 4) (disp.extractLsb' 0 4), mk4 0x6#4 n m 0x9#4]
           (.xLeaWAtRmDisp8sRn disp n m) s (s.done32 (s.writeA n (s.r m + disp.signExtend 64 * 2)))) ∧
    (∀ disp n m,
       s.ds = none →
         Does [mk4 0x8#4 0xE#4 (disp.extractLsb' 4 4) (disp.extractLsb' 0 4), mk4 0x6#4 n m 0xA#4]
           (.xLeaLAtRmDisp8sRn disp n m) s (s.done32 (s.writeA n (s.r m + disp.signExtend 64 * 4)))) ∧
    (∀ disp n m,
       s.ds = none →
         Does [mk4 0x8#4 0xE#4 (disp.extractLsb' 4 4) (disp.extractLsb' 0 4), mk4 0x6#4 n m 0xB#4]
           (.xLeaQAtRmDisp8sRn disp n m) s (s.done32 (s.writeA n (s.r m + disp.signExtend 64 * 8)))) ∧
    (∀ disp n,
       s.ds = none →
         Does
           [mk4 0x8#4 0xE#4 (0#3 ++ disp.extractLsb' 12 1) (disp.extractLsb' 8 4), mk4 0x9#4 n (disp.extractLsb' 4 4) (disp.extractLsb' 0 4)]
           (.xMovaAtPcDisp13Rn disp n) s
           (s.done32 (s.writeA n ((s.addr (s.pcn + 6) &&& ~~~3#64) + disp.setWidth 64 * 4)))) ∧
    (∀ imm,
       s.ds = none →
         Does
           [mk4 0x8#4 0xE#4 (imm.extractLsb' 12 4) (imm.extractLsb' 8 4), mk4 0x8#4 0xC#4 (imm.extractLsb' 4 4) (imm.extractLsb' 0 4)]
           (.xLdsh16ImmR0 imm) s (s.done32 (s.writeA 0 ((s.r 0 <<< 16) ||| imm.setWidth 64)))) ∧
    (∀ imm,
       s.ds = none →
         Does
           [mk4 0x8#4 0xA#4 (imm.extractLsb' 20 4) (imm.extractLsb' 16 4), mk4 (imm.extractLsb' 12 4) (imm.extractLsb' 8 4) (imm.extractLsb' 4 4) (imm.extractLsb' 0 4)]
           (.movi24Imm24R0 imm) s (s.done32 (s.wrNoSuffix 0 .sign (imm.signExtend 32))))

/-- The XPFX0 branches: target, slot or none, link, and that none may stand in a slot. Each line gives the whole next
state outside a slot; in a delay slot each is a slot illegal instruction. -/
def Obligations.WideBranches : Prop :=
  ∀ s : State,
    (∀ disp,
       s.ds = none →
         Does
           [mk4 0x8#4 0xE#4 (disp.extractLsb' 12 4) (disp.extractLsb' 8 4), mk4 0x8#4 0x2#4 (disp.extractLsb' 4 4) (disp.extractLsb' 0 4)]
           (.xBranDisp16 disp) s { s with pc := s.addr (s.pcn + 6 + disp.signExtend 64 * 2) }) ∧
    (∀ disp,
       s.ds = none →
         Does
           [mk4 0x8#4 0xE#4 (disp.extractLsb' 12 4) (disp.extractLsb' 8 4), mk4 0x8#4 0x3#4 (disp.extractLsb' 4 4) (disp.extractLsb' 0 4)]
           (.xBsrnDisp16 disp) s
           { s with pr := s.mergeA s.pr (s.pcn + 4), pc := s.addr (s.pcn + 6 + disp.signExtend 64 * 2) }) ∧
    (∀ disp,
       s.ds = none →
         Does
           [mk4 0x8#4 0xE#4 (disp.extractLsb' 12 4) (disp.extractLsb' 8 4), mk4 0x8#4 0x9#4 (disp.extractLsb' 4 4) (disp.extractLsb' 0 4)]
           (.xBtDisp16 disp) s
           (if s.t then { s with pc := s.addr (s.pcn + 6 + disp.signExtend 64 * 2) }
            else { s with pc := s.addr (s.pcn + 4) })) ∧
    (∀ disp,
       s.ds = none →
         Does
           [mk4 0x8#4 0xE#4 (disp.extractLsb' 12 4) (disp.extractLsb' 8 4), mk4 0x8#4 0xB#4 (disp.extractLsb' 4 4) (disp.extractLsb' 0 4)]
           (.xBfDisp16 disp) s
           (if !s.t then { s with pc := s.addr (s.pcn + 6 + disp.signExtend 64 * 2) }
            else { s with pc := s.addr (s.pcn + 4) })) ∧
    (∀ disp,
       s.ds = none →
         Does
           [mk4 0x8#4 0xE#4 (disp.extractLsb' 12 4) (disp.extractLsb' 8 4), mk4 0x8#4 0xD#4 (disp.extractLsb' 4 4) (disp.extractLsb' 0 4)]
           (.xBtsDisp16 disp) s
           (if s.t then
              { s with
                  ds := some ⟨s.addr (s.pcn + 6 + disp.signExtend 64 * 2), s.pcn, false⟩,
                  pc := s.addr (s.pcn + 4) }
            else { s with pc := s.addr (s.pcn + 4) })) ∧
    (∀ disp,
       s.ds = none →
         Does
           [mk4 0x8#4 0xE#4 (disp.extractLsb' 12 4) (disp.extractLsb' 8 4), mk4 0x8#4 0xF#4 (disp.extractLsb' 4 4) (disp.extractLsb' 0 4)]
           (.xBfsDisp16 disp) s
           (if !s.t then
              { s with
                  ds := some ⟨s.addr (s.pcn + 6 + disp.signExtend 64 * 2), s.pcn, false⟩,
                  pc := s.addr (s.pcn + 4) }
            else { s with pc := s.addr (s.pcn + 4) })) ∧
    (∀ disp,
       s.ds = none →
         Does
           [mk4 0x8#4 0xE#4 (disp.extractLsb' 16 4) (disp.extractLsb' 12 4), mk4 0xA#4 (disp.extractLsb' 8 4) (disp.extractLsb' 4 4) (disp.extractLsb' 0 4)]
           (.xBraDisp20 disp) s
           { s with ds := some ⟨s.addr (s.pcn + 6 + disp.signExtend 64 * 2), s.pcn, false⟩, pc := s.addr (s.pcn + 4) }) ∧
    (∀ disp,
       s.ds = none →
         Does
           [mk4 0x8#4 0xE#4 (disp.extractLsb' 16 4) (disp.extractLsb' 12 4), mk4 0xB#4 (disp.extractLsb' 8 4) (disp.extractLsb' 4 4) (disp.extractLsb' 0 4)]
           (.xBsrDisp20 disp) s
           { s with
               pr := s.mergeA s.pr (s.pcn + 6),
               ds := some ⟨s.addr (s.pcn + 6 + disp.signExtend 64 * 2), s.pcn, false⟩,
               pc := s.addr (s.pcn + 4) }) ∧
    (∀ disp, s.ds.isSome = true → Raises (.xBranDisp16 disp) s .illegal) ∧
    (∀ disp, s.ds.isSome = true → Raises (.xBsrnDisp16 disp) s .illegal) ∧
    (∀ disp, s.ds.isSome = true → Raises (.xBtDisp16 disp) s .illegal) ∧
    (∀ disp, s.ds.isSome = true → Raises (.xBfDisp16 disp) s .illegal) ∧
    (∀ disp, s.ds.isSome = true → Raises (.xBtsDisp16 disp) s .illegal) ∧
    (∀ disp, s.ds.isSome = true → Raises (.xBfsDisp16 disp) s .illegal) ∧
    (∀ disp, s.ds.isSome = true → Raises (.xBraDisp20 disp) s .illegal) ∧
    (∀ disp, s.ds.isSome = true → Raises (.xBsrDisp20 disp) s .illegal)

/-- The XPFX0 PC-relative loads into Rn, RHn and RQn. A store line names the alignment, the byte count, the address and
the value: where the write is allowed exactly those bytes hold the value, every other byte reads as before and the
rest of the state is the one named; where the access raises an exception, that exception is taken. A load line gives
the next state from the bytes at the address, and the same for its exceptions. Stated outside a delay slot
(SlotRules has the slot). RHn and RQn need high halves; MOV.Q needs JQ = 1. -/
def Obligations.WidePcLoads : Prop :=
  ∀ s : State,
    (∀ disp n,
       s.ds = none →
         DoesLoad
           [mk4 0x8#4 0xE#4 (1#3 ++ disp.extractLsb' 12 1) (disp.extractLsb' 8 4), mk4 0x9#4 n (disp.extractLsb' 4 4) (disp.extractLsb' 0 4)]
           (.xMovuWAtPcDisp13Rn disp n) s 2 2 (s.addr (s.pcn + 6) + disp.setWidth 64 * 2) fun v =>
           s.done32 (s.writeW n ((v.setWidth 16).setWidth 64) ((v.setWidth 16).setWidth 32))) ∧
    (∀ disp n,
       s.ds = none → s.hasRh = true →
         DoesLoad
           [mk4 0x8#4 0xE#4 (3#3 ++ disp.extractLsb' 12 1) (disp.extractLsb' 8 4), mk4 0x9#4 n (disp.extractLsb' 4 4) (disp.extractLsb' 0 4)]
           (.xMovuWAtPcDisp13RHn disp n) s 2 2 (s.addr (s.pcn + 6) + disp.setWidth 64 * 2) fun v =>
           s.done32 (s.setHalf true n ((v.setWidth 16).setWidth 32))) ∧
    (∀ disp n, s.hasRh = false → Raises (.xMovuWAtPcDisp13RHn disp n) s .illegal) ∧
    (∀ disp n,
       s.ds = none → s.hasRh = true →
         DoesLoad
           [mk4 0x8#4 0xE#4 (5#3 ++ disp.extractLsb' 12 1) (disp.extractLsb' 8 4), mk4 0x9#4 n (disp.extractLsb' 4 4) (disp.extractLsb' 0 4)]
           (.xMovuWAtPcDisp13RQn disp n) s 2 2 (s.addr (s.pcn + 6) + disp.setWidth 64 * 2) fun v =>
           s.done32 (s.setR n ((v.setWidth 16).setWidth 64))) ∧
    (∀ disp n, s.hasRh = false → Raises (.xMovuWAtPcDisp13RQn disp n) s .illegal) ∧
    (∀ disp n,
       s.ds = none → s.hasRh = true →
         DoesLoad
           [mk4 0x8#4 0xE#4 (2#3 ++ disp.extractLsb' 12 1) (disp.extractLsb' 8 4), mk4 0xD#4 n (disp.extractLsb' 4 4) (disp.extractLsb' 0 4)]
           (.xMovLAtPcDisp13RHn disp n) s 4 4 ((s.addr (s.pcn + 6) &&& ~~~3#64) + disp.setWidth 64 * 4) fun v =>
           s.done32 (s.setHalf true n (v.setWidth 32))) ∧
    (∀ disp n, s.hasRh = false → Raises (.xMovLAtPcDisp13RHn disp n) s .illegal) ∧
    (∀ disp n,
       s.ds = none → s.hasRh = true →
         DoesLoad
           [mk4 0x8#4 0xE#4 (3#3 ++ disp.extractLsb' 12 1) (disp.extractLsb' 8 4), mk4 0xD#4 n (disp.extractLsb' 4 4) (disp.extractLsb' 0 4)]
           (.xMovWAtPcDisp13RHn disp n) s 2 2 (s.addr (s.pcn + 6) + disp.setWidth 64 * 2) fun v =>
           s.done32 (s.setHalf true n ((v.setWidth 16).signExtend 32))) ∧
    (∀ disp n, s.hasRh = false → Raises (.xMovWAtPcDisp13RHn disp n) s .illegal) ∧
    (∀ disp n,
       s.ds = none → s.hasRh = true →
         DoesLoad
           [mk4 0x8#4 0xE#4 (4#3 ++ disp.extractLsb' 12 1) (disp.extractLsb' 8 4), mk4 0xD#4 n (disp.extractLsb' 4 4) (disp.extractLsb' 0 4)]
           (.xMovLAtPcDisp13RQn disp n) s 4 4 ((s.addr (s.pcn + 6) &&& ~~~3#64) + disp.setWidth 64 * 4) fun v =>
           s.done32 (s.setR n ((v.setWidth 32).signExtend 64))) ∧
    (∀ disp n, s.hasRh = false → Raises (.xMovLAtPcDisp13RQn disp n) s .illegal) ∧
    (∀ disp n,
       s.ds = none → s.hasRh = true →
         DoesLoad
           [mk4 0x8#4 0xE#4 (5#3 ++ disp.extractLsb' 12 1) (disp.extractLsb' 8 4), mk4 0xD#4 n (disp.extractLsb' 4 4) (disp.extractLsb' 0 4)]
           (.xMovWAtPcDisp13RQn disp n) s 2 2 (s.addr (s.pcn + 6) + disp.setWidth 64 * 2) fun v =>
           s.done32 (s.setR n ((v.setWidth 16).signExtend 64))) ∧
    (∀ disp n, s.hasRh = false → Raises (.xMovWAtPcDisp13RQn disp n) s .illegal) ∧
    (∀ disp n,
       s.ds = none → s.hasRh = true →
         DoesLoad
           [mk4 0x8#4 0xE#4 (6#3 ++ disp.extractLsb' 12 1) (disp.extractLsb' 8 4), mk4 0xD#4 n (disp.extractLsb' 4 4) (disp.extractLsb' 0 4)]
           (.xMovuLAtPcDisp13RQn disp n) s 4 4 ((s.addr (s.pcn + 6) &&& ~~~3#64) + disp.setWidth 64 * 4) fun v =>
           s.done32 (s.setR n ((v.setWidth 32).setWidth 64))) ∧
    (∀ disp n, s.hasRh = false → Raises (.xMovuLAtPcDisp13RQn disp n) s .illegal) ∧
    (∀ disp n,
       s.ds = none → s.jq = true →
         DoesLoad
           [mk4 0x8#4 0xE#4 (7#3 ++ disp.extractLsb' 12 1) (disp.extractLsb' 8 4), mk4 0xD#4 n (disp.extractLsb' 4 4) (disp.extractLsb' 0 4)]
           (.xMovQAtPcDisp13RQn disp n) s 4 8 ((s.addr (s.pcn + 6) &&& ~~~3#64) + disp.setWidth 64 * 4) fun v =>
           s.done32 (s.setR n v)) ∧
    (∀ disp n, s.jq = false → Raises (.xMovQAtPcDisp13RQn disp n) s .illegal) ∧
    (∀ disp n,
       s.ds = none →
         DoesLoad
           [mk4 0x8#4 0xE#4 (0#3 ++ disp.extractLsb' 12 1) (disp.extractLsb' 8 4), mk4 0xD#4 n (disp.extractLsb' 4 4) (disp.extractLsb' 0 4)]
           (.xMovLAtPcDisp13Rn disp n) s 4 4 ((s.addr (s.pcn + 6) &&& ~~~3#64) + disp.setWidth 64 * 4) fun v =>
           s.done32 (s.writeW n ((v.setWidth 32).signExtend 64) ((v.setWidth 32).signExtend 32))) ∧
    (∀ disp n,
       s.ds = none →
         DoesLoad
           [mk4 0x8#4 0xE#4 (1#3 ++ disp.extractLsb' 12 1) (disp.extractLsb' 8 4), mk4 0xD#4 n (disp.extractLsb' 4 4) (disp.extractLsb' 0 4)]
           (.xMovWAtPcDisp13Rn disp n) s 2 2 (s.addr (s.pcn + 6) + disp.setWidth 64 * 2) fun v =>
           s.done32 (s.writeW n ((v.setWidth 16).signExtend 64) ((v.setWidth 16).signExtend 32)))

/-- The OPREX loads and stores: halves, quads, and the bit combinations that are illegal. A store line names the
alignment, the byte count, the address and the value: where the write is allowed exactly those bytes hold the value,
every other byte reads as before and the rest of the state is the one named; where the access raises an exception,
that exception is taken. A load line gives the next state from the bytes at the address, and the same for its
exceptions. OprexStore and OprexLoad say what each row does for every combination of Q and the extension bits: where
the combination is legal, the effect; where it is not, in any state, or names a half or a quad that the state has
not, the illegal instruction. -/
def Obligations.OprexTransfers : Prop :=
  ∀ s : State,
    (∀ n m mx bx disp,
       s.ds = none → (mx = true → s.hasRh = true) →
         DoesStore [mk4 0x8#4 0xC#4 0x0#4 (bits4 false false mx bx), mk4 0x1#4 n m disp]
           (.oMovLRmAtRnDisp5 false mx bx n m disp) s 4 4 (s.r n + (BitVec.ofBool bx ++ disp).setWidth 64 * 4)
           ((s.half mx m).setWidth 64) (s.done32 s)) ∧
    (∀ n m bx disp,
       s.ds = none → s.jq = true →
         DoesStore [mk4 0x8#4 0xC#4 0x0#4 (bits4 true false false bx), mk4 0x1#4 n m disp]
           (.oMovQRmAtRnDisp5 false false bx n m disp) s 4 8 (s.r n + (BitVec.ofBool bx ++ disp).setWidth 64 * 8)
           (s.r m) (s.done32 s)) ∧
    OprexStore 0x0#4 .oMovBRmAtRn s 1 false ∧
    OprexStore 0x1#4 .oMovWRmAtRn s 2 false ∧
    OprexStore 0x2#4 .oMovLRmAtRn s 4 false ∧
    OprexStore 0x4#4 .oMovBRmAtDecRn s 1 true ∧
    OprexStore 0x5#4 .oMovWRmAtDecRn s 2 true ∧
    OprexStore 0x6#4 .oMovLRmAtDecRn s 4 true ∧
    (∀ n m bx disp, s.hasRh = false → Raises (.oMovLRmAtRnDisp5 false true bx n m disp) s .illegal) ∧
    (∀ n m bx disp, s.jq = false → Raises (.oMovQRmAtRnDisp5 false false bx n m disp) s .illegal) ∧
    (∀ n m nx bx disp,
       s.ds = none → (nx = true → s.hasRh = true) →
         DoesLoad [mk4 0x8#4 0xC#4 0x0#4 (bits4 false nx false bx), mk4 0x5#4 n m disp]
           (.oMovLAtRmDisp5Rn nx false bx n m disp) s 4 4 (s.r m + (BitVec.ofBool bx ++ disp).setWidth 64 * 4) fun v
           =>
           s.done32 (s.setHalf nx n (lo32 v))) ∧
    (∀ n m bx disp,
       s.ds = none → s.jq = true →
         DoesLoad [mk4 0x8#4 0xC#4 0x0#4 (bits4 true false false bx), mk4 0x5#4 n m disp]
           (.oMovQAtRmDisp5Rn false false bx n m disp) s 4 8 (s.r m + (BitVec.ofBool bx ++ disp).setWidth 64 * 8) fun
           v =>
           s.done32 (s.setR n v)) ∧
    (∀ n m mx bx disp, Raises (.oMovLRmAtRnDisp5 true mx bx n m disp) s .illegal) ∧
    (∀ n m nx mx bx disp, (nx || mx) = true → Raises (.oMovQRmAtRnDisp5 nx mx bx n m disp) s .illegal) ∧
    (∀ n m nx bx disp, Raises (.oMovLAtRmDisp5Rn nx true bx n m disp) s .illegal) ∧
    (∀ n m nx mx bx disp, (nx || mx) = true → Raises (.oMovQAtRmDisp5Rn nx mx bx n m disp) s .illegal) ∧
    (∀ n m bx disp, s.hasRh = false → Raises (.oMovLAtRmDisp5Rn true false bx n m disp) s .illegal) ∧
    (∀ n m bx disp, s.jq = false → Raises (.oMovQAtRmDisp5Rn false false bx n m disp) s .illegal) ∧
    OprexLoad 0x0#4 .oMovBAtRmRn s 1 false ∧
    OprexLoad 0x1#4 .oMovWAtRmRn s 2 false ∧
    OprexLoad 0x2#4 .oMovLAtRmRn s 4 false ∧
    OprexLoad 0x4#4 .oMovBAtRmIncRn s 1 true ∧
    OprexLoad 0x5#4 .oMovWAtRmIncRn s 2 true ∧
    OprexLoad 0x6#4 .oMovLAtRmIncRn s 4 true

/-- The OPREX register rows and MOV #imm10: each computation on any halves, or on quads when Q is set, and T. OprexRow
says what each row does: result and T of the one computation named, at 32 bits on the halves that the bits pick, or
at 64 bits; a missing half, or Q at JQ = 0, is illegal. -/
def Obligations.OprexArithmetic : Prop :=
  ∀ s : State,
    OprexRow 0x2#4 0x8#4 .oTstRmRn s (fun _ a b _ => (none, some (a &&& b = 0))) ∧
    OprexRow 0x2#4 0x9#4 .oAndRmRn s (fun _ a b _ => (some (a &&& b), none)) ∧
    OprexRow 0x2#4 0xA#4 .oXorRmRn s (fun _ a b _ => (some (a ^^^ b), none)) ∧
    OprexRow 0x2#4 0xB#4 .oOrRmRn s (fun _ a b _ => (some (a ||| b), none)) ∧
    OprexRow 0x3#4 0x0#4 .oCmpeqRmRn s (fun _ a b _ => (none, some (a = b))) ∧
    OprexRow 0x3#4 0x2#4 .oCmphsRmRn s (fun _ a b _ => (none, some (b.toNat ≤ a.toNat))) ∧
    OprexRow 0x3#4 0x3#4 .oCmpgeRmRn s (fun _ a b _ => (none, some (b.toInt ≤ a.toInt))) ∧
    OprexRow 0x3#4 0x6#4 .oCmphiRmRn s (fun _ a b _ => (none, some (b.toNat < a.toNat))) ∧
    OprexRow 0x3#4 0x7#4 .oCmpgtRmRn s (fun _ a b _ => (none, some (b.toInt < a.toInt))) ∧
    OprexRow 0x3#4 0x8#4 .oSubRmRn s (fun _ a b _ => (some (a - b), none)) ∧
    OprexRow 0x3#4 0xA#4 .oSubcRmRn s
      (fun w a b t =>
         (some (BitVec.ofInt w ((a.toNat : Int) - b.toNat - t.toNat)), some ((a.toNat : Int) - b.toNat - t.toNat < 0))) ∧
    OprexRow 0x3#4 0xB#4 .oSubvRmRn s
      (fun w a b _ =>
         (some (BitVec.ofInt w (a.toInt - b.toInt)), some
            (a.toInt - b.toInt < -(2 ^ (w - 1)) ∨ 2 ^ (w - 1) ≤ a.toInt - b.toInt))) ∧
    OprexRow 0x3#4 0xC#4 .oAddRmRn s (fun _ a b _ => (some (a + b), none)) ∧
    OprexRow 0x3#4 0xE#4 .oAddcRmRn s
      (fun w a b t =>
         (some (BitVec.ofNat w (a.toNat + b.toNat + t.toNat)), some (2 ^ w ≤ a.toNat + b.toNat + t.toNat))) ∧
    OprexRow 0x3#4 0xF#4 .oAddvRmRn s
      (fun w a b _ =>
         (some (BitVec.ofInt w (a.toInt + b.toInt)), some
            (a.toInt + b.toInt < -(2 ^ (w - 1)) ∨ 2 ^ (w - 1) ≤ a.toInt + b.toInt))) ∧
    OprexRow 0x6#4 0x3#4 .oMovRmRn s (fun _ _ b _ => (some (b), none)) ∧
    OprexRow 0x6#4 0x7#4 .oNotRmRn s (fun _ _ b _ => (some (~~~b), none)) ∧
    OprexRow 0x6#4 0xA#4 .oNegcRmRn s
      (fun w _ b t => (some (BitVec.ofInt w (-(b.toNat : Int) - t.toNat)), some (-(b.toNat : Int) - t.toNat < 0))) ∧
    OprexRow 0x6#4 0xB#4 .oNegRmRn s (fun _ _ b _ => (some (-b), none)) ∧
    OprexRow 0x6#4 0xC#4 .oExtuBRmRn s (fun w _ b _ => (some ((b.setWidth 8).setWidth w), none)) ∧
    OprexRow 0x6#4 0xD#4 .oExtuWRmRn s (fun w _ b _ => (some ((b.setWidth 16).setWidth w), none)) ∧
    OprexRow 0x6#4 0xE#4 .oExtsBRmRn s (fun w _ b _ => (some ((b.setWidth 8).signExtend w), none)) ∧
    OprexRow 0x6#4 0xF#4 .oExtsWRmRn s (fun w _ b _ => (some ((b.setWidth 16).signExtend w), none)) ∧
    (∀ n nx mx bx imm,
       s.ds = none → (nx = true → s.hasRh = true) →
         Does [mk4 0x8#4 0xC#4 0x0#4 (bits4 false nx mx bx), mk4 0xE#4 n (imm.extractLsb' 4 4) (imm.extractLsb' 0 4)]
           (.oMovImm10Rn false nx mx bx n imm) s
           (s.done32 (s.setHalf nx n ((BitVec.ofBool mx ++ BitVec.ofBool bx ++ imm).signExtend 32)))) ∧
    (∀ n mx bx imm,
       s.ds = none → s.jq = true →
         Does
           [mk4 0x8#4 0xC#4 0x0#4 (bits4 true false mx bx), mk4 0xE#4 n (imm.extractLsb' 4 4) (imm.extractLsb' 0 4)]
           (.oMovImm10Rn true false mx bx n imm) s
           (s.done32 (s.setR n ((BitVec.ofBool mx ++ BitVec.ofBool bx ++ imm).signExtend 64)))) ∧
    (∀ n mx bx imm, s.hasRh = false → Raises (.oMovImm10Rn false true mx bx n imm) s .illegal) ∧
    (∀ n mx bx imm, s.jq = false → Raises (.oMovImm10Rn true false mx bx n imm) s .illegal)

/-- The TACB three-address forms: registers, imm5, imm6, halves and quads. TacbRow says what each register row does. A
shift by a negative count writes a free value (log 14), so the result is stated for the other counts and the frame
for all; the immediate of ADD and SUB is signed when the parameter says so (log 27). -/
def Obligations.ThreeAddressForms : Prop :=
  ∀ s : State,
    TacbRow 0x0#4 .tAddRsRtRn .tAddRsRtRnQuad s (fun _ _ => True) (fun _ a b => a + b) ∧
    TacbRow 0x1#4 .tSubRsRtRn .tSubRsRtRnQuad s (fun _ _ => True) (fun _ a b => a - b) ∧
    TacbRow 0x2#4 .tMulRsRtRn .tMulRsRtRnQuad s (fun _ _ => True) (fun _ a b => a * b) ∧
    TacbRow 0x3#4 .tAndRsRtRn .tAndRsRtRnQuad s (fun _ _ => True) (fun _ a b => a &&& b) ∧
    TacbRow 0x4#4 .tOrRsRtRn .tOrRsRtRnQuad s (fun _ _ => True) (fun _ a b => a ||| b) ∧
    TacbRow 0x5#4 .tXorRsRtRn .tXorRsRtRnQuad s (fun _ _ => True) (fun _ a b => a ^^^ b) ∧
    TacbRow 0x6#4 .tShllRsRtRn .tShllRsRtRnQuad s (fun _ _ => True) (fun w a b => a <<< (b.toNat % w)) ∧
    TacbRow 0x7#4 .tShlrRsRtRn .tShlrRsRtRnQuad s (fun _ b => 0 ≤ b.toInt)
      (fun w a b => if b = 0 then a else if b.toNat % w = 0 then 0 else a >>> (b.toNat % w)) ∧
    TacbRow 0x8#4 .tSharRsRtRn .tSharRsRtRnQuad s (fun _ b => 0 ≤ b.toInt)
      (fun w a b => if b = 0 then a else if b.toNat % w = 0 then (if a.msb then BitVec.allOnes w else 0) else
         a.sshiftRight (b.toNat % w)) ∧
    (∀ nx sx tx n a b,
       s.ds = none → ((nx || sx || tx) = true → s.hasRh = true) → (s.half tx b).toInt < 0 →
         ∃ v,
           exec (.tShlrRsRtRn nx sx tx n a b) s = .next
             (s.done32 ({ s with freeCount := s.freeCount + 1 }.setHalf nx n v))) ∧
    (∀ n a b,
       s.ds = none → s.jq = true → (s.r b).toInt < 0 →
         ∃ v, exec (.tShlrRsRtRnQuad n a b) s = .next (s.done32 ({ s with freeCount := s.freeCount + 1 }.setR n v))) ∧
    (∀ nx sx tx n a b,
       s.ds = none → ((nx || sx || tx) = true → s.hasRh = true) → (s.half tx b).toInt < 0 →
         ∃ v,
           exec (.tSharRsRtRn nx sx tx n a b) s = .next
             (s.done32 ({ s with freeCount := s.freeCount + 1 }.setHalf nx n v))) ∧
    (∀ n a b,
       s.ds = none → s.jq = true → (s.r b).toInt < 0 →
         ∃ v, exec (.tSharRsRtRnQuad n a b) s = .next (s.done32 ({ s with freeCount := s.freeCount + 1 }.setR n v))) ∧
    (∀ tx n rs rt,
       s.ds = none →
         Does [mk4 0x8#4 0xC#4 0x3#4 (bits4 true false true tx), mk4 0x0#4 n rs rt] (.tAddLRsImm5Rn tx n rs rt) s
           (s.done32
              (s.setHalf false n
                 (lo32 (s.r rs) +
                    (if s.cfg.tacbImmSigned then (BitVec.ofBool tx ++ rt).signExtend 32
                     else (BitVec.ofBool tx ++ rt).setWidth 32))))) ∧
    (∀ sx tx n rs rt,
       s.ds = none → s.jq = true →
         Does [mk4 0x8#4 0xC#4 0x3#4 (bits4 true true sx tx), mk4 0x0#4 n rs rt] (.tAddQRsImm6Rn sx tx n rs rt) s
           (s.done32
              (s.setR n
                 (s.r rs +
                    (if s.cfg.tacbImmSigned then (BitVec.ofBool sx ++ BitVec.ofBool tx ++ rt).signExtend 64
                     else (BitVec.ofBool sx ++ BitVec.ofBool tx ++ rt).setWidth 64))))) ∧
    (∀ tx n rs rt,
       s.ds = none →
         Does [mk4 0x8#4 0xC#4 0x3#4 (bits4 true false true tx), mk4 0x1#4 n rs rt] (.tSubLRsImm5Rn tx n rs rt) s
           (s.done32
              (s.setHalf false n
                 (lo32 (s.r rs) -
                    (if s.cfg.tacbImmSigned then (BitVec.ofBool tx ++ rt).signExtend 32
                     else (BitVec.ofBool tx ++ rt).setWidth 32))))) ∧
    (∀ sx tx n rs rt,
       s.ds = none → s.jq = true →
         Does [mk4 0x8#4 0xC#4 0x3#4 (bits4 true true sx tx), mk4 0x1#4 n rs rt] (.tSubQRsImm6Rn sx tx n rs rt) s
           (s.done32
              (s.setR n
                 (s.r rs -
                    (if s.cfg.tacbImmSigned then (BitVec.ofBool sx ++ BitVec.ofBool tx ++ rt).signExtend 64
                     else (BitVec.ofBool sx ++ BitVec.ofBool tx ++ rt).setWidth 64))))) ∧
    (∀ tx n rs rt,
       s.ds = none →
         Does [mk4 0x8#4 0xC#4 0x3#4 (bits4 true false true tx), mk4 0x6#4 n rs rt] (.tShllLRsImm5Rn tx n rs rt) s
           (s.done32 (s.setHalf false n (lo32 (s.r rs) <<< (BitVec.ofBool tx ++ rt).toNat)))) ∧
    (∀ sx tx n rs rt,
       s.ds = none → s.jq = true →
         Does [mk4 0x8#4 0xC#4 0x3#4 (bits4 true true sx tx), mk4 0x6#4 n rs rt] (.tShllQRsImm6Rn sx tx n rs rt) s
           (s.done32 (s.setR n (s.r rs <<< (BitVec.ofBool sx ++ BitVec.ofBool tx ++ rt).toNat)))) ∧
    (∀ tx n rs rt,
       s.ds = none →
         Does [mk4 0x8#4 0xC#4 0x3#4 (bits4 true false true tx), mk4 0x7#4 n rs rt] (.tShlrLRsImm5Rn tx n rs rt) s
           (s.done32 (s.setHalf false n (lo32 (s.r rs) >>> (BitVec.ofBool tx ++ rt).toNat)))) ∧
    (∀ sx tx n rs rt,
       s.ds = none → s.jq = true →
         Does [mk4 0x8#4 0xC#4 0x3#4 (bits4 true true sx tx), mk4 0x7#4 n rs rt] (.tShlrQRsImm6Rn sx tx n rs rt) s
           (s.done32 (s.setR n (s.r rs >>> (BitVec.ofBool sx ++ BitVec.ofBool tx ++ rt).toNat)))) ∧
    (∀ tx n rs rt,
       s.ds = none →
         Does [mk4 0x8#4 0xC#4 0x3#4 (bits4 true false true tx), mk4 0x8#4 n rs rt] (.tSharLRsImm5Rn tx n rs rt) s
           (s.done32 (s.setHalf false n ((lo32 (s.r rs)).sshiftRight (BitVec.ofBool tx ++ rt).toNat)))) ∧
    (∀ sx tx n rs rt,
       s.ds = none → s.jq = true →
         Does [mk4 0x8#4 0xC#4 0x3#4 (bits4 true true sx tx), mk4 0x8#4 n rs rt] (.tSharQRsImm6Rn sx tx n rs rt) s
           (s.done32 (s.setR n ((s.r rs).sshiftRight (BitVec.ofBool sx ++ BitVec.ofBool tx ++ rt).toNat)))) ∧
    (∀ sx tx n rs rt, s.jq = false → Raises (.tAddQRsImm6Rn sx tx n rs rt) s .illegal) ∧
    (∀ sx tx n rs rt, s.jq = false → Raises (.tSubQRsImm6Rn sx tx n rs rt) s .illegal) ∧
    (∀ sx tx n rs rt, s.jq = false → Raises (.tShllQRsImm6Rn sx tx n rs rt) s .illegal) ∧
    (∀ sx tx n rs rt, s.jq = false → Raises (.tShlrQRsImm6Rn sx tx n rs rt) s .illegal) ∧
    (∀ sx tx n rs rt, s.jq = false → Raises (.tSharQRsImm6Rn sx tx n rs rt) s .illegal)

/-- MOVI20, MOVI20S, the 3nm1 loads and stores and the XPFZ0 forms, on a core that has them, and illegal on one that has
not. A store line names the alignment, the byte count, the address and the value: where the write is allowed exactly
those bytes hold the value, every other byte reads as before and the rest of the state is the one named; where the
access raises an exception, that exception is taken. A load line gives the next state from the bytes at the address,
and the same for its exceptions. Stated with the parameter set and outside a delay slot; with the parameter clear
each is an illegal instruction. The base of the XPFZ0 branches is the spec's decision. That MOVI20 and MOVI20S have
the sign as their natural extension, where NOSUFFIX_HI asks for one at DQ = 1, is the model's choice (log 13). -/
def Obligations.GatedLongForms : Prop :=
  ∀ s : State,
    (∀ n imm,
       s.ds = none → s.cfg.hasMisc32 = true →
         Does
           [mk4 0x0#4 n (imm.extractLsb' 16 4) 0x0#4, mk4 (imm.extractLsb' 12 4) (imm.extractLsb' 8 4) (imm.extractLsb' 4 4) (imm.extractLsb' 0 4)]
           (.movi20ImmRn n imm) s (s.done32 (s.wrNoSuffix n .sign (imm.signExtend 32)))) ∧
    (∀ n imm,
       s.ds = none → s.cfg.hasMisc32 = true →
         Does
           [mk4 0x0#4 n (imm.extractLsb' 16 4) 0x1#4, mk4 (imm.extractLsb' 12 4) (imm.extractLsb' 8 4) (imm.extractLsb' 4 4) (imm.extractLsb' 0 4)]
           (.movi20sImmRn n imm) s (s.done32 (s.wrNoSuffix n .sign (imm.signExtend 32 <<< 8)))) ∧
    (∀ n m disp,
       s.ds = none → s.cfg.hasMisc32 = true →
         DoesStore
           [mk4 0x3#4 n m 0x1#4, mk4 0x0#4 (disp.extractLsb' 8 4) (disp.extractLsb' 4 4) (disp.extractLsb' 0 4)]
           (.wMovBRmAtRnDisp n m disp) s 1 1 (s.r n + disp.setWidth 64 * 1) (s.r m) (s.done32 s)) ∧
    (∀ n m disp,
       s.ds = none → s.cfg.hasMisc32 = true →
         DoesStore
           [mk4 0x3#4 n m 0x1#4, mk4 0x1#4 (disp.extractLsb' 8 4) (disp.extractLsb' 4 4) (disp.extractLsb' 0 4)]
           (.wMovWRmAtRnDisp n m disp) s 2 2 (s.r n + disp.setWidth 64 * 2) (s.r m) (s.done32 s)) ∧
    (∀ n m disp,
       s.ds = none → s.cfg.hasMisc32 = true →
         DoesStore
           [mk4 0x3#4 n m 0x1#4, mk4 0x2#4 (disp.extractLsb' 8 4) (disp.extractLsb' 4 4) (disp.extractLsb' 0 4)]
           (.wMovLRmAtRnDisp n m disp) s 4 4 (s.r n + disp.setWidth 64 * 4) (s.r m) (s.done32 s)) ∧
    (∀ n m disp,
       s.ds = none → s.cfg.hasMisc32 = true → s.FpuOn →
         DoesStore
           [mk4 0x3#4 n m 0x1#4, mk4 0x3#4 (disp.extractLsb' 8 4) (disp.extractLsb' 4 4) (disp.extractLsb' 0 4)]
           (.wFmovSFRmAtRnDisp n m disp) s 4 4 (s.r n + disp.setWidth 64 * 4) (s.fpStored .single false m)
           (s.done32 s)) ∧
    (∀ n m disp,
       s.ds = none → s.cfg.hasMisc32 = true →
         DoesLoad
           [mk4 0x3#4 n m 0x1#4, mk4 0x4#4 (disp.extractLsb' 8 4) (disp.extractLsb' 4 4) (disp.extractLsb' 0 4)]
           (.wMovBAtRmDispRn n m disp) s 1 1 (s.r m + disp.setWidth 64 * 1) fun v =>
           s.done32 (s.writeW n ((v.setWidth 8).signExtend 64) ((v.setWidth 8).signExtend 32))) ∧
    (∀ n m disp,
       s.ds = none → s.cfg.hasMisc32 = true →
         DoesLoad
           [mk4 0x3#4 n m 0x1#4, mk4 0x5#4 (disp.extractLsb' 8 4) (disp.extractLsb' 4 4) (disp.extractLsb' 0 4)]
           (.wMovWAtRmDispRn n m disp) s 2 2 (s.r m + disp.setWidth 64 * 2) fun v =>
           s.done32 (s.writeW n ((v.setWidth 16).signExtend 64) ((v.setWidth 16).signExtend 32))) ∧
    (∀ n m disp,
       s.ds = none → s.cfg.hasMisc32 = true →
         DoesLoad
           [mk4 0x3#4 n m 0x1#4, mk4 0x6#4 (disp.extractLsb' 8 4) (disp.extractLsb' 4 4) (disp.extractLsb' 0 4)]
           (.wMovLAtRmDispRn n m disp) s 4 4 (s.r m + disp.setWidth 64 * 4) fun v =>
           s.done32 (s.writeW n ((v.setWidth 32).signExtend 64) ((v.setWidth 32).signExtend 32))) ∧
    (∀ n m disp,
       s.ds = none → s.cfg.hasMisc32 = true → s.FpuOn →
         DoesLoad
           [mk4 0x3#4 n m 0x1#4, mk4 0x7#4 (disp.extractLsb' 8 4) (disp.extractLsb' 4 4) (disp.extractLsb' 0 4)]
           (.wFmovSAtRmDispFRn n m disp) s 4 4 (s.r m + disp.setWidth 64 * 4) fun v =>
           s.done32 (s.fpLoaded .single false n v)) ∧
    (∀ n m disp,
       s.ds = none → s.cfg.hasMisc32 = true →
         DoesLoad
           [mk4 0x3#4 n m 0x1#4, mk4 0x8#4 (disp.extractLsb' 8 4) (disp.extractLsb' 4 4) (disp.extractLsb' 0 4)]
           (.wMovuBAtRmDispRn n m disp) s 1 1 (s.r m + disp.setWidth 64 * 1) fun v =>
           s.done32 (s.writeW n ((v.setWidth 8).setWidth 64) ((v.setWidth 8).setWidth 32))) ∧
    (∀ n m disp,
       s.ds = none → s.cfg.hasMisc32 = true →
         DoesLoad
           [mk4 0x3#4 n m 0x1#4, mk4 0x9#4 (disp.extractLsb' 8 4) (disp.extractLsb' 4 4) (disp.extractLsb' 0 4)]
           (.wMovuWAtRmDispRn n m disp) s 2 2 (s.r m + disp.setWidth 64 * 2) fun v =>
           s.done32 (s.writeW n ((v.setWidth 16).setWidth 64) ((v.setWidth 16).setWidth 32))) ∧
    (∀ n imm, s.cfg.hasMisc32 = false → Raises (.movi20ImmRn n imm) s .illegal) ∧
    (∀ n imm, s.cfg.hasMisc32 = false → Raises (.movi20sImmRn n imm) s .illegal) ∧
    (∀ n m disp, s.cfg.hasMisc32 = false → Raises (.wMovBRmAtRnDisp n m disp) s .illegal) ∧
    (∀ n m disp, s.cfg.hasMisc32 = false → Raises (.wMovWRmAtRnDisp n m disp) s .illegal) ∧
    (∀ n m disp, s.cfg.hasMisc32 = false → Raises (.wMovLRmAtRnDisp n m disp) s .illegal) ∧
    (∀ n m disp, s.cfg.hasMisc32 = false → Raises (.wFmovSFRmAtRnDisp n m disp) s .illegal) ∧
    (∀ n m disp, s.cfg.hasMisc32 = false → Raises (.wMovBAtRmDispRn n m disp) s .illegal) ∧
    (∀ n m disp, s.cfg.hasMisc32 = false → Raises (.wMovWAtRmDispRn n m disp) s .illegal) ∧
    (∀ n m disp, s.cfg.hasMisc32 = false → Raises (.wMovLAtRmDispRn n m disp) s .illegal) ∧
    (∀ n m disp, s.cfg.hasMisc32 = false → Raises (.wFmovSAtRmDispFRn n m disp) s .illegal) ∧
    (∀ n m disp, s.cfg.hasMisc32 = false → Raises (.wMovuBAtRmDispRn n m disp) s .illegal) ∧
    (∀ n m disp, s.cfg.hasMisc32 = false → Raises (.wMovuWAtRmDispRn n m disp) s .illegal) ∧
    (∀ n imm,
       s.cfg.hasXpfz0 = true → s.jq = true → s.ds = none →
         Does
           [mk4 0xC#4 0xE#4 0x7#4 n, mk4 (imm.extractLsb' 44 4) (imm.extractLsb' 40 4) (imm.extractLsb' 36 4) (imm.extractLsb' 32 4), mk4 (imm.extractLsb' 28 4) (imm.extractLsb' 24 4) (imm.extractLsb' 20 4) (imm.extractLsb' 16 4), mk4 (imm.extractLsb' 12 4) (imm.extractLsb' 8 4) (imm.extractLsb' 4 4) (imm.extractLsb' 0 4)]
           (.zAddQImm48Rn n imm) s { (s.setR n (s.r n + imm.signExtend 64)) with pc := s.pcn + 8 }) ∧
    (∀ n imm,
       s.cfg.hasXpfz0 = true → s.jq = true → s.ds = none →
         Does
           [mk4 0xC#4 0xE#4 0xE#4 n, mk4 (imm.extractLsb' 44 4) (imm.extractLsb' 40 4) (imm.extractLsb' 36 4) (imm.extractLsb' 32 4), mk4 (imm.extractLsb' 28 4) (imm.extractLsb' 24 4) (imm.extractLsb' 20 4) (imm.extractLsb' 16 4), mk4 (imm.extractLsb' 12 4) (imm.extractLsb' 8 4) (imm.extractLsb' 4 4) (imm.extractLsb' 0 4)]
           (.zMovQImm48Rn n imm) s { (s.setR n (imm.signExtend 64)) with pc := s.pcn + 8 }) ∧
    (∀ disp,
       s.cfg.hasXpfz0 = true → s.jq = true → s.ds = none →
         Does
           [mk4 0xC#4 0xE#4 0xA#4 0x0#4, mk4 (disp.extractLsb' 44 4) (disp.extractLsb' 40 4) (disp.extractLsb' 36 4) (disp.extractLsb' 32 4), mk4 (disp.extractLsb' 28 4) (disp.extractLsb' 24 4) (disp.extractLsb' 20 4) (disp.extractLsb' 16 4), mk4 (disp.extractLsb' 12 4) (disp.extractLsb' 8 4) (disp.extractLsb' 4 4) (disp.extractLsb' 0 4)]
           (.zBraDisp48 disp) s { s with pc := s.pcn + 10 + disp.signExtend 64 * 2 }) ∧
    (∀ disp,
       s.cfg.hasXpfz0 = true → s.jq = true → s.ds = none →
         Does
           [mk4 0xC#4 0xE#4 0xB#4 0x0#4, mk4 (disp.extractLsb' 44 4) (disp.extractLsb' 40 4) (disp.extractLsb' 36 4) (disp.extractLsb' 32 4), mk4 (disp.extractLsb' 28 4) (disp.extractLsb' 24 4) (disp.extractLsb' 20 4) (disp.extractLsb' 16 4), mk4 (disp.extractLsb' 12 4) (disp.extractLsb' 8 4) (disp.extractLsb' 4 4) (disp.extractLsb' 0 4)]
           (.zBsrDisp48 disp) s { s with pr := s.pcn + 8, pc := s.pcn + 10 + disp.signExtend 64 * 2 }) ∧
    (∀ n imm, s.cfg.hasXpfz0 = false → Raises (.zAddQImm48Rn n imm) s .illegal) ∧
    (∀ n imm, s.cfg.hasXpfz0 = false → Raises (.zMovQImm48Rn n imm) s .illegal) ∧
    (∀ disp, s.cfg.hasXpfz0 = false → Raises (.zBraDisp48 disp) s .illegal) ∧
    (∀ disp, s.cfg.hasXpfz0 = false → Raises (.zBsrDisp48 disp) s .illegal)

/-- Every reserved row of the opcode table is an illegal instruction. A reserved row has no other effect than the trap,
in a slot or not. -/
def Obligations.ReservedRowsTrap : Prop :=
  ∀ s : State,
    (∀ n, Raises (.movLAtPcIncRn n) s .illegal) ∧
    (∀ n, Raises (.movQAtPcIncRn n) s .illegal) ∧
    (∀ n, Raises (.divuR0Rn n) s .illegal) ∧
    (∀ n, Raises (.divsR0Rn n) s .illegal) ∧
    (Raises .rtsn s .illegal) ∧
    (∀ m, Raises (.rtvnRm m) s .illegal) ∧
    (∀ m, Raises (.jsrnRm m) s .illegal) ∧
    (Raises .resbank s .illegal) ∧
    (Raises .synco s .illegal) ∧
    (∀ disp n, Raises (.xFmovDAtPcDisp13YDn disp n) s .illegal) ∧
    (∀ p, Raises (.resXpfx1 p) s .illegal) ∧
    (∀ p, Raises (.resXpfx3 p) s .illegal) ∧
    (∀ p, Raises (.resXpfx4 p) s .illegal) ∧
    (∀ p, Raises (.resXpfx5 p) s .illegal) ∧
    (∀ p, Raises (.resXpfy0 p) s .illegal) ∧
    (∀ p, Raises (.resXpfy1 p) s .illegal) ∧
    (∀ p, Raises (.resXpfz1 p) s .illegal) ∧
    (∀ p, Raises (.resXpfv0 p) s .illegal) ∧
    (∀ p, Raises (.res3xx9 p) s .illegal) ∧
    (∀ p, Raises (.res8C1x p) s .illegal) ∧
    (∀ p, Raises (.res8C2x p) s .illegal) ∧
    (∀ p, Raises (.res8C4x p) s .illegal) ∧
    (∀ p, Raises (.res8C5x p) s .illegal) ∧
    (∀ p, Raises (.res8C6x p) s .illegal) ∧
    (∀ p, Raises (.res8C7x p) s .illegal) ∧
    (∀ p, Raises (.res8C8x p) s .illegal) ∧
    (∀ p r, Raises (.resTacb9 p r) s .illegal) ∧
    (∀ p r, Raises (.resTacbA p r) s .illegal) ∧
    (∀ p r, Raises (.resTacbB p r) s .illegal)

end
end

