-- ==== Sys2Proof/Laws/State.lean ====
section
/-! SUPPORT. Laws/State.lean: for every named update of `State`, one lemma per field it leaves alone (or sets), so that no
later proof unfolds a record update. -/
namespace Sys2Proof.Machine

/-! ### setSrBit -/

@[simp] theorem State.setSrBit_cfg (s : State) (i : Nat) (b : Bool) : (s.setSrBit i b).cfg = s.cfg := rfl
@[simp] theorem State.setSrBit_ga (s : State) (i : Nat) (b : Bool) : (s.setSrBit i b).ga = s.ga := rfl
@[simp] theorem State.setSrBit_gb (s : State) (i : Nat) (b : Bool) : (s.setSrBit i b).gb = s.gb := rfl
@[simp] theorem State.setSrBit_g (s : State) (i : Nat) (b : Bool) : (s.setSrBit i b).g = s.g := rfl
@[simp] theorem State.setSrBit_pc (s : State) (i : Nat) (b : Bool) : (s.setSrBit i b).pc = s.pc := rfl
@[simp] theorem State.setSrBit_sr (s : State) (i : Nat) (b : Bool) : (s.setSrBit i b).sr = putBit s.sr i b := rfl
@[simp] theorem State.setSrBit_gbr (s : State) (i : Nat) (b : Bool) : (s.setSrBit i b).gbr = s.gbr := rfl
@[simp] theorem State.setSrBit_vbr (s : State) (i : Nat) (b : Bool) : (s.setSrBit i b).vbr = s.vbr := rfl
@[simp] theorem State.setSrBit_ssr (s : State) (i : Nat) (b : Bool) : (s.setSrBit i b).ssr = s.ssr := rfl
@[simp] theorem State.setSrBit_spc (s : State) (i : Nat) (b : Bool) : (s.setSrBit i b).spc = s.spc := rfl
@[simp] theorem State.setSrBit_sgr (s : State) (i : Nat) (b : Bool) : (s.setSrBit i b).sgr = s.sgr := rfl
@[simp] theorem State.setSrBit_dbr (s : State) (i : Nat) (b : Bool) : (s.setSrBit i b).dbr = s.dbr := rfl
@[simp] theorem State.setSrBit_mach (s : State) (i : Nat) (b : Bool) : (s.setSrBit i b).mach = s.mach := rfl
@[simp] theorem State.setSrBit_macl (s : State) (i : Nat) (b : Bool) : (s.setSrBit i b).macl = s.macl := rfl
@[simp] theorem State.setSrBit_pr (s : State) (i : Nat) (b : Bool) : (s.setSrBit i b).pr = s.pr := rfl
@[simp] theorem State.setSrBit_fpul (s : State) (i : Nat) (b : Bool) : (s.setSrBit i b).fpul = s.fpul := rfl
@[simp] theorem State.setSrBit_fpscr (s : State) (i : Nat) (b : Bool) : (s.setSrBit i b).fpscr = s.fpscr := rfl
@[simp] theorem State.setSrBit_fa (s : State) (i : Nat) (b : Bool) : (s.setSrBit i b).fa = s.fa := rfl
@[simp] theorem State.setSrBit_fb (s : State) (i : Nat) (b : Bool) : (s.setSrBit i b).fb = s.fb := rfl
@[simp] theorem State.setSrBit_ds (s : State) (i : Nat) (b : Bool) : (s.setSrBit i b).ds = s.ds := rfl
@[simp] theorem State.setSrBit_irq (s : State) (i : Nat) (b : Bool) : (s.setSrBit i b).irq = s.irq := rfl
@[simp] theorem State.setSrBit_resetReq (s : State) (i : Nat) (b : Bool) : (s.setSrBit i b).resetReq = s.resetReq := rfl
@[simp] theorem State.setSrBit_sleeping (s : State) (i : Nat) (b : Bool) : (s.setSrBit i b).sleeping = s.sleeping := rfl
@[simp] theorem State.setSrBit_lastTrap (s : State) (i : Nat) (b : Bool) : (s.setSrBit i b).lastTrap = s.lastTrap := rfl
@[simp] theorem State.setSrBit_stale (s : State) (i : Nat) (b : Bool) : (s.setSrBit i b).stale = s.stale := rfl
@[simp] theorem State.setSrBit_history (s : State) (i : Nat) (b : Bool) : (s.setSrBit i b).history = s.history := rfl
@[simp] theorem State.setSrBit_mem (s : State) (i : Nat) (b : Bool) : (s.setSrBit i b).mem = s.mem := rfl
@[simp] theorem State.setSrBit_freeCount (s : State) (i : Nat) (b : Bool) : (s.setSrBit i b).freeCount = s.freeCount := rfl

/-! ### setT -/

@[simp] theorem State.setT_cfg (s : State) (b : Bool) : (s.setT b).cfg = s.cfg := rfl
@[simp] theorem State.setT_ga (s : State) (b : Bool) : (s.setT b).ga = s.ga := rfl
@[simp] theorem State.setT_gb (s : State) (b : Bool) : (s.setT b).gb = s.gb := rfl
@[simp] theorem State.setT_g (s : State) (b : Bool) : (s.setT b).g = s.g := rfl
@[simp] theorem State.setT_pc (s : State) (b : Bool) : (s.setT b).pc = s.pc := rfl
@[simp] theorem State.setT_sr (s : State) (b : Bool) : (s.setT b).sr = putBit s.sr 0 b := rfl
@[simp] theorem State.setT_gbr (s : State) (b : Bool) : (s.setT b).gbr = s.gbr := rfl
@[simp] theorem State.setT_vbr (s : State) (b : Bool) : (s.setT b).vbr = s.vbr := rfl
@[simp] theorem State.setT_ssr (s : State) (b : Bool) : (s.setT b).ssr = s.ssr := rfl
@[simp] theorem State.setT_spc (s : State) (b : Bool) : (s.setT b).spc = s.spc := rfl
@[simp] theorem State.setT_sgr (s : State) (b : Bool) : (s.setT b).sgr = s.sgr := rfl
@[simp] theorem State.setT_dbr (s : State) (b : Bool) : (s.setT b).dbr = s.dbr := rfl
@[simp] theorem State.setT_mach (s : State) (b : Bool) : (s.setT b).mach = s.mach := rfl
@[simp] theorem State.setT_macl (s : State) (b : Bool) : (s.setT b).macl = s.macl := rfl
@[simp] theorem State.setT_pr (s : State) (b : Bool) : (s.setT b).pr = s.pr := rfl
@[simp] theorem State.setT_fpul (s : State) (b : Bool) : (s.setT b).fpul = s.fpul := rfl
@[simp] theorem State.setT_fpscr (s : State) (b : Bool) : (s.setT b).fpscr = s.fpscr := rfl
@[simp] theorem State.setT_fa (s : State) (b : Bool) : (s.setT b).fa = s.fa := rfl
@[simp] theorem State.setT_fb (s : State) (b : Bool) : (s.setT b).fb = s.fb := rfl
@[simp] theorem State.setT_ds (s : State) (b : Bool) : (s.setT b).ds = s.ds := rfl
@[simp] theorem State.setT_irq (s : State) (b : Bool) : (s.setT b).irq = s.irq := rfl
@[simp] theorem State.setT_resetReq (s : State) (b : Bool) : (s.setT b).resetReq = s.resetReq := rfl
@[simp] theorem State.setT_sleeping (s : State) (b : Bool) : (s.setT b).sleeping = s.sleeping := rfl
@[simp] theorem State.setT_lastTrap (s : State) (b : Bool) : (s.setT b).lastTrap = s.lastTrap := rfl
@[simp] theorem State.setT_stale (s : State) (b : Bool) : (s.setT b).stale = s.stale := rfl
@[simp] theorem State.setT_history (s : State) (b : Bool) : (s.setT b).history = s.history := rfl
@[simp] theorem State.setT_mem (s : State) (b : Bool) : (s.setT b).mem = s.mem := rfl
@[simp] theorem State.setT_freeCount (s : State) (b : Bool) : (s.setT b).freeCount = s.freeCount := rfl

/-! ### setR -/

@[simp] theorem State.setR_cfg (s : State) (n : Reg) (v : Quad) : (s.setR n v).cfg = s.cfg := by unfold State.setR; split <;> [rfl; split <;> rfl]
@[simp] theorem State.setR_pc (s : State) (n : Reg) (v : Quad) : (s.setR n v).pc = s.pc := by unfold State.setR; split <;> [rfl; split <;> rfl]
@[simp] theorem State.setR_sr (s : State) (n : Reg) (v : Quad) : (s.setR n v).sr = s.sr := by unfold State.setR; split <;> [rfl; split <;> rfl]
@[simp] theorem State.setR_gbr (s : State) (n : Reg) (v : Quad) : (s.setR n v).gbr = s.gbr := by unfold State.setR; split <;> [rfl; split <;> rfl]
@[simp] theorem State.setR_vbr (s : State) (n : Reg) (v : Quad) : (s.setR n v).vbr = s.vbr := by unfold State.setR; split <;> [rfl; split <;> rfl]
@[simp] theorem State.setR_ssr (s : State) (n : Reg) (v : Quad) : (s.setR n v).ssr = s.ssr := by unfold State.setR; split <;> [rfl; split <;> rfl]
@[simp] theorem State.setR_spc (s : State) (n : Reg) (v : Quad) : (s.setR n v).spc = s.spc := by unfold State.setR; split <;> [rfl; split <;> rfl]
@[simp] theorem State.setR_sgr (s : State) (n : Reg) (v : Quad) : (s.setR n v).sgr = s.sgr := by unfold State.setR; split <;> [rfl; split <;> rfl]
@[simp] theorem State.setR_dbr (s : State) (n : Reg) (v : Quad) : (s.setR n v).dbr = s.dbr := by unfold State.setR; split <;> [rfl; split <;> rfl]
@[simp] theorem State.setR_mach (s : State) (n : Reg) (v : Quad) : (s.setR n v).mach = s.mach := by unfold State.setR; split <;> [rfl; split <;> rfl]
@[simp] theorem State.setR_macl (s : State) (n : Reg) (v : Quad) : (s.setR n v).macl = s.macl := by unfold State.setR; split <;> [rfl; split <;> rfl]
@[simp] theorem State.setR_pr (s : State) (n : Reg) (v : Quad) : (s.setR n v).pr = s.pr := by unfold State.setR; split <;> [rfl; split <;> rfl]
@[simp] theorem State.setR_fpul (s : State) (n : Reg) (v : Quad) : (s.setR n v).fpul = s.fpul := by unfold State.setR; split <;> [rfl; split <;> rfl]
@[simp] theorem State.setR_fpscr (s : State) (n : Reg) (v : Quad) : (s.setR n v).fpscr = s.fpscr := by unfold State.setR; split <;> [rfl; split <;> rfl]
@[simp] theorem State.setR_fa (s : State) (n : Reg) (v : Quad) : (s.setR n v).fa = s.fa := by unfold State.setR; split <;> [rfl; split <;> rfl]
@[simp] theorem State.setR_fb (s : State) (n : Reg) (v : Quad) : (s.setR n v).fb = s.fb := by unfold State.setR; split <;> [rfl; split <;> rfl]
@[simp] theorem State.setR_ds (s : State) (n : Reg) (v : Quad) : (s.setR n v).ds = s.ds := by unfold State.setR; split <;> [rfl; split <;> rfl]
@[simp] theorem State.setR_irq (s : State) (n : Reg) (v : Quad) : (s.setR n v).irq = s.irq := by unfold State.setR; split <;> [rfl; split <;> rfl]
@[simp] theorem State.setR_resetReq (s : State) (n : Reg) (v : Quad) : (s.setR n v).resetReq = s.resetReq := by unfold State.setR; split <;> [rfl; split <;> rfl]
@[simp] theorem State.setR_sleeping (s : State) (n : Reg) (v : Quad) : (s.setR n v).sleeping = s.sleeping := by unfold State.setR; split <;> [rfl; split <;> rfl]
@[simp] theorem State.setR_lastTrap (s : State) (n : Reg) (v : Quad) : (s.setR n v).lastTrap = s.lastTrap := by unfold State.setR; split <;> [rfl; split <;> rfl]
@[simp] theorem State.setR_stale (s : State) (n : Reg) (v : Quad) : (s.setR n v).stale = s.stale := by unfold State.setR; split <;> [rfl; split <;> rfl]
@[simp] theorem State.setR_history (s : State) (n : Reg) (v : Quad) : (s.setR n v).history = s.history := by unfold State.setR; split <;> [rfl; split <;> rfl]
@[simp] theorem State.setR_mem (s : State) (n : Reg) (v : Quad) : (s.setR n v).mem = s.mem := by unfold State.setR; split <;> [rfl; split <;> rfl]
@[simp] theorem State.setR_freeCount (s : State) (n : Reg) (v : Quad) : (s.setR n v).freeCount = s.freeCount := by unfold State.setR; split <;> [rfl; split <;> rfl]

/-! ### wr -/

@[simp] theorem State.wr_cfg (s : State) (q : Bool) (n : Reg) (v : Quad) : (s.wr q n v).cfg = s.cfg := by simp [State.wr]
@[simp] theorem State.wr_pc (s : State) (q : Bool) (n : Reg) (v : Quad) : (s.wr q n v).pc = s.pc := by simp [State.wr]
@[simp] theorem State.wr_sr (s : State) (q : Bool) (n : Reg) (v : Quad) : (s.wr q n v).sr = s.sr := by simp [State.wr]
@[simp] theorem State.wr_gbr (s : State) (q : Bool) (n : Reg) (v : Quad) : (s.wr q n v).gbr = s.gbr := by simp [State.wr]
@[simp] theorem State.wr_vbr (s : State) (q : Bool) (n : Reg) (v : Quad) : (s.wr q n v).vbr = s.vbr := by simp [State.wr]
@[simp] theorem State.wr_ssr (s : State) (q : Bool) (n : Reg) (v : Quad) : (s.wr q n v).ssr = s.ssr := by simp [State.wr]
@[simp] theorem State.wr_spc (s : State) (q : Bool) (n : Reg) (v : Quad) : (s.wr q n v).spc = s.spc := by simp [State.wr]
@[simp] theorem State.wr_sgr (s : State) (q : Bool) (n : Reg) (v : Quad) : (s.wr q n v).sgr = s.sgr := by simp [State.wr]
@[simp] theorem State.wr_dbr (s : State) (q : Bool) (n : Reg) (v : Quad) : (s.wr q n v).dbr = s.dbr := by simp [State.wr]
@[simp] theorem State.wr_mach (s : State) (q : Bool) (n : Reg) (v : Quad) : (s.wr q n v).mach = s.mach := by simp [State.wr]
@[simp] theorem State.wr_macl (s : State) (q : Bool) (n : Reg) (v : Quad) : (s.wr q n v).macl = s.macl := by simp [State.wr]
@[simp] theorem State.wr_pr (s : State) (q : Bool) (n : Reg) (v : Quad) : (s.wr q n v).pr = s.pr := by simp [State.wr]
@[simp] theorem State.wr_fpul (s : State) (q : Bool) (n : Reg) (v : Quad) : (s.wr q n v).fpul = s.fpul := by simp [State.wr]
@[simp] theorem State.wr_fpscr (s : State) (q : Bool) (n : Reg) (v : Quad) : (s.wr q n v).fpscr = s.fpscr := by simp [State.wr]
@[simp] theorem State.wr_fa (s : State) (q : Bool) (n : Reg) (v : Quad) : (s.wr q n v).fa = s.fa := by simp [State.wr]
@[simp] theorem State.wr_fb (s : State) (q : Bool) (n : Reg) (v : Quad) : (s.wr q n v).fb = s.fb := by simp [State.wr]
@[simp] theorem State.wr_ds (s : State) (q : Bool) (n : Reg) (v : Quad) : (s.wr q n v).ds = s.ds := by simp [State.wr]
@[simp] theorem State.wr_irq (s : State) (q : Bool) (n : Reg) (v : Quad) : (s.wr q n v).irq = s.irq := by simp [State.wr]
@[simp] theorem State.wr_resetReq (s : State) (q : Bool) (n : Reg) (v : Quad) : (s.wr q n v).resetReq = s.resetReq := by simp [State.wr]
@[simp] theorem State.wr_sleeping (s : State) (q : Bool) (n : Reg) (v : Quad) : (s.wr q n v).sleeping = s.sleeping := by simp [State.wr]
@[simp] theorem State.wr_lastTrap (s : State) (q : Bool) (n : Reg) (v : Quad) : (s.wr q n v).lastTrap = s.lastTrap := by simp [State.wr]
@[simp] theorem State.wr_stale (s : State) (q : Bool) (n : Reg) (v : Quad) : (s.wr q n v).stale = s.stale := by simp [State.wr]
@[simp] theorem State.wr_history (s : State) (q : Bool) (n : Reg) (v : Quad) : (s.wr q n v).history = s.history := by simp [State.wr]
@[simp] theorem State.wr_mem (s : State) (q : Bool) (n : Reg) (v : Quad) : (s.wr q n v).mem = s.mem := by simp [State.wr]
@[simp] theorem State.wr_freeCount (s : State) (q : Bool) (n : Reg) (v : Quad) : (s.wr q n v).freeCount = s.freeCount := by simp [State.wr]

/-! ### wrA -/

@[simp] theorem State.wrA_cfg (s : State) (n : Reg) (v : Quad) : (s.wrA n v).cfg = s.cfg := by simp [State.wrA]
@[simp] theorem State.wrA_pc (s : State) (n : Reg) (v : Quad) : (s.wrA n v).pc = s.pc := by simp [State.wrA]
@[simp] theorem State.wrA_sr (s : State) (n : Reg) (v : Quad) : (s.wrA n v).sr = s.sr := by simp [State.wrA]
@[simp] theorem State.wrA_gbr (s : State) (n : Reg) (v : Quad) : (s.wrA n v).gbr = s.gbr := by simp [State.wrA]
@[simp] theorem State.wrA_vbr (s : State) (n : Reg) (v : Quad) : (s.wrA n v).vbr = s.vbr := by simp [State.wrA]
@[simp] theorem State.wrA_ssr (s : State) (n : Reg) (v : Quad) : (s.wrA n v).ssr = s.ssr := by simp [State.wrA]
@[simp] theorem State.wrA_spc (s : State) (n : Reg) (v : Quad) : (s.wrA n v).spc = s.spc := by simp [State.wrA]
@[simp] theorem State.wrA_sgr (s : State) (n : Reg) (v : Quad) : (s.wrA n v).sgr = s.sgr := by simp [State.wrA]
@[simp] theorem State.wrA_dbr (s : State) (n : Reg) (v : Quad) : (s.wrA n v).dbr = s.dbr := by simp [State.wrA]
@[simp] theorem State.wrA_mach (s : State) (n : Reg) (v : Quad) : (s.wrA n v).mach = s.mach := by simp [State.wrA]
@[simp] theorem State.wrA_macl (s : State) (n : Reg) (v : Quad) : (s.wrA n v).macl = s.macl := by simp [State.wrA]
@[simp] theorem State.wrA_pr (s : State) (n : Reg) (v : Quad) : (s.wrA n v).pr = s.pr := by simp [State.wrA]
@[simp] theorem State.wrA_fpul (s : State) (n : Reg) (v : Quad) : (s.wrA n v).fpul = s.fpul := by simp [State.wrA]
@[simp] theorem State.wrA_fpscr (s : State) (n : Reg) (v : Quad) : (s.wrA n v).fpscr = s.fpscr := by simp [State.wrA]
@[simp] theorem State.wrA_fa (s : State) (n : Reg) (v : Quad) : (s.wrA n v).fa = s.fa := by simp [State.wrA]
@[simp] theorem State.wrA_fb (s : State) (n : Reg) (v : Quad) : (s.wrA n v).fb = s.fb := by simp [State.wrA]
@[simp] theorem State.wrA_ds (s : State) (n : Reg) (v : Quad) : (s.wrA n v).ds = s.ds := by simp [State.wrA]
@[simp] theorem State.wrA_irq (s : State) (n : Reg) (v : Quad) : (s.wrA n v).irq = s.irq := by simp [State.wrA]
@[simp] theorem State.wrA_resetReq (s : State) (n : Reg) (v : Quad) : (s.wrA n v).resetReq = s.resetReq := by simp [State.wrA]
@[simp] theorem State.wrA_sleeping (s : State) (n : Reg) (v : Quad) : (s.wrA n v).sleeping = s.sleeping := by simp [State.wrA]
@[simp] theorem State.wrA_lastTrap (s : State) (n : Reg) (v : Quad) : (s.wrA n v).lastTrap = s.lastTrap := by simp [State.wrA]
@[simp] theorem State.wrA_stale (s : State) (n : Reg) (v : Quad) : (s.wrA n v).stale = s.stale := by simp [State.wrA]
@[simp] theorem State.wrA_history (s : State) (n : Reg) (v : Quad) : (s.wrA n v).history = s.history := by simp [State.wrA]
@[simp] theorem State.wrA_mem (s : State) (n : Reg) (v : Quad) : (s.wrA n v).mem = s.mem := by simp [State.wrA]
@[simp] theorem State.wrA_freeCount (s : State) (n : Reg) (v : Quad) : (s.wrA n v).freeCount = s.freeCount := by simp [State.wrA]

/-! ### setHalf -/

@[simp] theorem State.setHalf_cfg (s : State) (x : Bool) (n : Reg) (v : Dword) : (s.setHalf x n v).cfg = s.cfg := by simp [State.setHalf]
@[simp] theorem State.setHalf_pc (s : State) (x : Bool) (n : Reg) (v : Dword) : (s.setHalf x n v).pc = s.pc := by simp [State.setHalf]
@[simp] theorem State.setHalf_sr (s : State) (x : Bool) (n : Reg) (v : Dword) : (s.setHalf x n v).sr = s.sr := by simp [State.setHalf]
@[simp] theorem State.setHalf_gbr (s : State) (x : Bool) (n : Reg) (v : Dword) : (s.setHalf x n v).gbr = s.gbr := by simp [State.setHalf]
@[simp] theorem State.setHalf_vbr (s : State) (x : Bool) (n : Reg) (v : Dword) : (s.setHalf x n v).vbr = s.vbr := by simp [State.setHalf]
@[simp] theorem State.setHalf_ssr (s : State) (x : Bool) (n : Reg) (v : Dword) : (s.setHalf x n v).ssr = s.ssr := by simp [State.setHalf]
@[simp] theorem State.setHalf_spc (s : State) (x : Bool) (n : Reg) (v : Dword) : (s.setHalf x n v).spc = s.spc := by simp [State.setHalf]
@[simp] theorem State.setHalf_sgr (s : State) (x : Bool) (n : Reg) (v : Dword) : (s.setHalf x n v).sgr = s.sgr := by simp [State.setHalf]
@[simp] theorem State.setHalf_dbr (s : State) (x : Bool) (n : Reg) (v : Dword) : (s.setHalf x n v).dbr = s.dbr := by simp [State.setHalf]
@[simp] theorem State.setHalf_mach (s : State) (x : Bool) (n : Reg) (v : Dword) : (s.setHalf x n v).mach = s.mach := by simp [State.setHalf]
@[simp] theorem State.setHalf_macl (s : State) (x : Bool) (n : Reg) (v : Dword) : (s.setHalf x n v).macl = s.macl := by simp [State.setHalf]
@[simp] theorem State.setHalf_pr (s : State) (x : Bool) (n : Reg) (v : Dword) : (s.setHalf x n v).pr = s.pr := by simp [State.setHalf]
@[simp] theorem State.setHalf_fpul (s : State) (x : Bool) (n : Reg) (v : Dword) : (s.setHalf x n v).fpul = s.fpul := by simp [State.setHalf]
@[simp] theorem State.setHalf_fpscr (s : State) (x : Bool) (n : Reg) (v : Dword) : (s.setHalf x n v).fpscr = s.fpscr := by simp [State.setHalf]
@[simp] theorem State.setHalf_fa (s : State) (x : Bool) (n : Reg) (v : Dword) : (s.setHalf x n v).fa = s.fa := by simp [State.setHalf]
@[simp] theorem State.setHalf_fb (s : State) (x : Bool) (n : Reg) (v : Dword) : (s.setHalf x n v).fb = s.fb := by simp [State.setHalf]
@[simp] theorem State.setHalf_ds (s : State) (x : Bool) (n : Reg) (v : Dword) : (s.setHalf x n v).ds = s.ds := by simp [State.setHalf]
@[simp] theorem State.setHalf_irq (s : State) (x : Bool) (n : Reg) (v : Dword) : (s.setHalf x n v).irq = s.irq := by simp [State.setHalf]
@[simp] theorem State.setHalf_resetReq (s : State) (x : Bool) (n : Reg) (v : Dword) : (s.setHalf x n v).resetReq = s.resetReq := by simp [State.setHalf]
@[simp] theorem State.setHalf_sleeping (s : State) (x : Bool) (n : Reg) (v : Dword) : (s.setHalf x n v).sleeping = s.sleeping := by simp [State.setHalf]
@[simp] theorem State.setHalf_lastTrap (s : State) (x : Bool) (n : Reg) (v : Dword) : (s.setHalf x n v).lastTrap = s.lastTrap := by simp [State.setHalf]
@[simp] theorem State.setHalf_stale (s : State) (x : Bool) (n : Reg) (v : Dword) : (s.setHalf x n v).stale = s.stale := by simp [State.setHalf]
@[simp] theorem State.setHalf_history (s : State) (x : Bool) (n : Reg) (v : Dword) : (s.setHalf x n v).history = s.history := by simp [State.setHalf]
@[simp] theorem State.setHalf_mem (s : State) (x : Bool) (n : Reg) (v : Dword) : (s.setHalf x n v).mem = s.mem := by simp [State.setHalf]
@[simp] theorem State.setHalf_freeCount (s : State) (x : Bool) (n : Reg) (v : Dword) : (s.setHalf x n v).freeCount = s.freeCount := by simp [State.setHalf]

/-! ### setOb -/

@[simp] theorem State.setOb_cfg (s : State) (b : BankReg) (v : Quad) : (s.setOb b v).cfg = s.cfg := by unfold State.setOb; split <;> rfl
@[simp] theorem State.setOb_g (s : State) (b : BankReg) (v : Quad) : (s.setOb b v).g = s.g := by unfold State.setOb; split <;> rfl
@[simp] theorem State.setOb_pc (s : State) (b : BankReg) (v : Quad) : (s.setOb b v).pc = s.pc := by unfold State.setOb; split <;> rfl
@[simp] theorem State.setOb_sr (s : State) (b : BankReg) (v : Quad) : (s.setOb b v).sr = s.sr := by unfold State.setOb; split <;> rfl
@[simp] theorem State.setOb_gbr (s : State) (b : BankReg) (v : Quad) : (s.setOb b v).gbr = s.gbr := by unfold State.setOb; split <;> rfl
@[simp] theorem State.setOb_vbr (s : State) (b : BankReg) (v : Quad) : (s.setOb b v).vbr = s.vbr := by unfold State.setOb; split <;> rfl
@[simp] theorem State.setOb_ssr (s : State) (b : BankReg) (v : Quad) : (s.setOb b v).ssr = s.ssr := by unfold State.setOb; split <;> rfl
@[simp] theorem State.setOb_spc (s : State) (b : BankReg) (v : Quad) : (s.setOb b v).spc = s.spc := by unfold State.setOb; split <;> rfl
@[simp] theorem State.setOb_sgr (s : State) (b : BankReg) (v : Quad) : (s.setOb b v).sgr = s.sgr := by unfold State.setOb; split <;> rfl
@[simp] theorem State.setOb_dbr (s : State) (b : BankReg) (v : Quad) : (s.setOb b v).dbr = s.dbr := by unfold State.setOb; split <;> rfl
@[simp] theorem State.setOb_mach (s : State) (b : BankReg) (v : Quad) : (s.setOb b v).mach = s.mach := by unfold State.setOb; split <;> rfl
@[simp] theorem State.setOb_macl (s : State) (b : BankReg) (v : Quad) : (s.setOb b v).macl = s.macl := by unfold State.setOb; split <;> rfl
@[simp] theorem State.setOb_pr (s : State) (b : BankReg) (v : Quad) : (s.setOb b v).pr = s.pr := by unfold State.setOb; split <;> rfl
@[simp] theorem State.setOb_fpul (s : State) (b : BankReg) (v : Quad) : (s.setOb b v).fpul = s.fpul := by unfold State.setOb; split <;> rfl
@[simp] theorem State.setOb_fpscr (s : State) (b : BankReg) (v : Quad) : (s.setOb b v).fpscr = s.fpscr := by unfold State.setOb; split <;> rfl
@[simp] theorem State.setOb_fa (s : State) (b : BankReg) (v : Quad) : (s.setOb b v).fa = s.fa := by unfold State.setOb; split <;> rfl
@[simp] theorem State.setOb_fb (s : State) (b : BankReg) (v : Quad) : (s.setOb b v).fb = s.fb := by unfold State.setOb; split <;> rfl
@[simp] theorem State.setOb_ds (s : State) (b : BankReg) (v : Quad) : (s.setOb b v).ds = s.ds := by unfold State.setOb; split <;> rfl
@[simp] theorem State.setOb_irq (s : State) (b : BankReg) (v : Quad) : (s.setOb b v).irq = s.irq := by unfold State.setOb; split <;> rfl
@[simp] theorem State.setOb_resetReq (s : State) (b : BankReg) (v : Quad) : (s.setOb b v).resetReq = s.resetReq := by unfold State.setOb; split <;> rfl
@[simp] theorem State.setOb_sleeping (s : State) (b : BankReg) (v : Quad) : (s.setOb b v).sleeping = s.sleeping := by unfold State.setOb; split <;> rfl
@[simp] theorem State.setOb_lastTrap (s : State) (b : BankReg) (v : Quad) : (s.setOb b v).lastTrap = s.lastTrap := by unfold State.setOb; split <;> rfl
@[simp] theorem State.setOb_stale (s : State) (b : BankReg) (v : Quad) : (s.setOb b v).stale = s.stale := by unfold State.setOb; split <;> rfl
@[simp] theorem State.setOb_history (s : State) (b : BankReg) (v : Quad) : (s.setOb b v).history = s.history := by unfold State.setOb; split <;> rfl
@[simp] theorem State.setOb_mem (s : State) (b : BankReg) (v : Quad) : (s.setOb b v).mem = s.mem := by unfold State.setOb; split <;> rfl
@[simp] theorem State.setOb_freeCount (s : State) (b : BankReg) (v : Quad) : (s.setOb b v).freeCount = s.freeCount := by unfold State.setOb; split <;> rfl

/-! ### advance -/

@[simp] theorem State.advance_cfg (s : State) (p l : Quad) : (s.advance p l).cfg = s.cfg := by unfold State.advance; split <;> rfl
@[simp] theorem State.advance_ga (s : State) (p l : Quad) : (s.advance p l).ga = s.ga := by unfold State.advance; split <;> rfl
@[simp] theorem State.advance_gb (s : State) (p l : Quad) : (s.advance p l).gb = s.gb := by unfold State.advance; split <;> rfl
@[simp] theorem State.advance_g (s : State) (p l : Quad) : (s.advance p l).g = s.g := by unfold State.advance; split <;> rfl
@[simp] theorem State.advance_sr (s : State) (p l : Quad) : (s.advance p l).sr = s.sr := by unfold State.advance; split <;> rfl
@[simp] theorem State.advance_gbr (s : State) (p l : Quad) : (s.advance p l).gbr = s.gbr := by unfold State.advance; split <;> rfl
@[simp] theorem State.advance_vbr (s : State) (p l : Quad) : (s.advance p l).vbr = s.vbr := by unfold State.advance; split <;> rfl
@[simp] theorem State.advance_ssr (s : State) (p l : Quad) : (s.advance p l).ssr = s.ssr := by unfold State.advance; split <;> rfl
@[simp] theorem State.advance_spc (s : State) (p l : Quad) : (s.advance p l).spc = s.spc := by unfold State.advance; split <;> rfl
@[simp] theorem State.advance_sgr (s : State) (p l : Quad) : (s.advance p l).sgr = s.sgr := by unfold State.advance; split <;> rfl
@[simp] theorem State.advance_dbr (s : State) (p l : Quad) : (s.advance p l).dbr = s.dbr := by unfold State.advance; split <;> rfl
@[simp] theorem State.advance_mach (s : State) (p l : Quad) : (s.advance p l).mach = s.mach := by unfold State.advance; split <;> rfl
@[simp] theorem State.advance_macl (s : State) (p l : Quad) : (s.advance p l).macl = s.macl := by unfold State.advance; split <;> rfl
@[simp] theorem State.advance_pr (s : State) (p l : Quad) : (s.advance p l).pr = s.pr := by unfold State.advance; split <;> rfl
@[simp] theorem State.advance_fpul (s : State) (p l : Quad) : (s.advance p l).fpul = s.fpul := by unfold State.advance; split <;> rfl
@[simp] theorem State.advance_fpscr (s : State) (p l : Quad) : (s.advance p l).fpscr = s.fpscr := by unfold State.advance; split <;> rfl
@[simp] theorem State.advance_fa (s : State) (p l : Quad) : (s.advance p l).fa = s.fa := by unfold State.advance; split <;> rfl
@[simp] theorem State.advance_fb (s : State) (p l : Quad) : (s.advance p l).fb = s.fb := by unfold State.advance; split <;> rfl
@[simp] theorem State.advance_irq (s : State) (p l : Quad) : (s.advance p l).irq = s.irq := by unfold State.advance; split <;> rfl
@[simp] theorem State.advance_resetReq (s : State) (p l : Quad) : (s.advance p l).resetReq = s.resetReq := by unfold State.advance; split <;> rfl
@[simp] theorem State.advance_sleeping (s : State) (p l : Quad) : (s.advance p l).sleeping = s.sleeping := by unfold State.advance; split <;> rfl
@[simp] theorem State.advance_lastTrap (s : State) (p l : Quad) : (s.advance p l).lastTrap = s.lastTrap := by unfold State.advance; split <;> rfl
@[simp] theorem State.advance_stale (s : State) (p l : Quad) : (s.advance p l).stale = s.stale := by unfold State.advance; split <;> rfl
@[simp] theorem State.advance_history (s : State) (p l : Quad) : (s.advance p l).history = s.history := by unfold State.advance; split <;> rfl
@[simp] theorem State.advance_mem (s : State) (p l : Quad) : (s.advance p l).mem = s.mem := by unfold State.advance; split <;> rfl
@[simp] theorem State.advance_freeCount (s : State) (p l : Quad) : (s.advance p l).freeCount = s.freeCount := by unfold State.advance; split <;> rfl

/-! ### jump -/

@[simp] theorem State.jump_cfg (s : State) (t : Quad) : (s.jump t).cfg = s.cfg := rfl
@[simp] theorem State.jump_ga (s : State) (t : Quad) : (s.jump t).ga = s.ga := rfl
@[simp] theorem State.jump_gb (s : State) (t : Quad) : (s.jump t).gb = s.gb := rfl
@[simp] theorem State.jump_g (s : State) (t : Quad) : (s.jump t).g = s.g := rfl
@[simp] theorem State.jump_pc (s : State) (t : Quad) : (s.jump t).pc = s.addr t := rfl
@[simp] theorem State.jump_sr (s : State) (t : Quad) : (s.jump t).sr = s.sr := rfl
@[simp] theorem State.jump_gbr (s : State) (t : Quad) : (s.jump t).gbr = s.gbr := rfl
@[simp] theorem State.jump_vbr (s : State) (t : Quad) : (s.jump t).vbr = s.vbr := rfl
@[simp] theorem State.jump_ssr (s : State) (t : Quad) : (s.jump t).ssr = s.ssr := rfl
@[simp] theorem State.jump_spc (s : State) (t : Quad) : (s.jump t).spc = s.spc := rfl
@[simp] theorem State.jump_sgr (s : State) (t : Quad) : (s.jump t).sgr = s.sgr := rfl
@[simp] theorem State.jump_dbr (s : State) (t : Quad) : (s.jump t).dbr = s.dbr := rfl
@[simp] theorem State.jump_mach (s : State) (t : Quad) : (s.jump t).mach = s.mach := rfl
@[simp] theorem State.jump_macl (s : State) (t : Quad) : (s.jump t).macl = s.macl := rfl
@[simp] theorem State.jump_pr (s : State) (t : Quad) : (s.jump t).pr = s.pr := rfl
@[simp] theorem State.jump_fpul (s : State) (t : Quad) : (s.jump t).fpul = s.fpul := rfl
@[simp] theorem State.jump_fpscr (s : State) (t : Quad) : (s.jump t).fpscr = s.fpscr := rfl
@[simp] theorem State.jump_fa (s : State) (t : Quad) : (s.jump t).fa = s.fa := rfl
@[simp] theorem State.jump_fb (s : State) (t : Quad) : (s.jump t).fb = s.fb := rfl
@[simp] theorem State.jump_ds (s : State) (t : Quad) : (s.jump t).ds = s.ds := rfl
@[simp] theorem State.jump_irq (s : State) (t : Quad) : (s.jump t).irq = s.irq := rfl
@[simp] theorem State.jump_resetReq (s : State) (t : Quad) : (s.jump t).resetReq = s.resetReq := rfl
@[simp] theorem State.jump_sleeping (s : State) (t : Quad) : (s.jump t).sleeping = s.sleeping := rfl
@[simp] theorem State.jump_lastTrap (s : State) (t : Quad) : (s.jump t).lastTrap = s.lastTrap := rfl
@[simp] theorem State.jump_stale (s : State) (t : Quad) : (s.jump t).stale = s.stale := rfl
@[simp] theorem State.jump_history (s : State) (t : Quad) : (s.jump t).history = s.history := rfl
@[simp] theorem State.jump_mem (s : State) (t : Quad) : (s.jump t).mem = s.mem := rfl
@[simp] theorem State.jump_freeCount (s : State) (t : Quad) : (s.jump t).freeCount = s.freeCount := rfl

/-! ### delayedBranch -/

@[simp] theorem State.delayedBranch_cfg (s : State) (l t : Quad) : (s.delayedBranch l t).cfg = s.cfg := rfl
@[simp] theorem State.delayedBranch_ga (s : State) (l t : Quad) : (s.delayedBranch l t).ga = s.ga := rfl
@[simp] theorem State.delayedBranch_gb (s : State) (l t : Quad) : (s.delayedBranch l t).gb = s.gb := rfl
@[simp] theorem State.delayedBranch_g (s : State) (l t : Quad) : (s.delayedBranch l t).g = s.g := rfl
@[simp] theorem State.delayedBranch_pc (s : State) (l t : Quad) : (s.delayedBranch l t).pc = s.addr (s.pcn + l) := rfl
@[simp] theorem State.delayedBranch_sr (s : State) (l t : Quad) : (s.delayedBranch l t).sr = s.sr := rfl
@[simp] theorem State.delayedBranch_gbr (s : State) (l t : Quad) : (s.delayedBranch l t).gbr = s.gbr := rfl
@[simp] theorem State.delayedBranch_vbr (s : State) (l t : Quad) : (s.delayedBranch l t).vbr = s.vbr := rfl
@[simp] theorem State.delayedBranch_ssr (s : State) (l t : Quad) : (s.delayedBranch l t).ssr = s.ssr := rfl
@[simp] theorem State.delayedBranch_spc (s : State) (l t : Quad) : (s.delayedBranch l t).spc = s.spc := rfl
@[simp] theorem State.delayedBranch_sgr (s : State) (l t : Quad) : (s.delayedBranch l t).sgr = s.sgr := rfl
@[simp] theorem State.delayedBranch_dbr (s : State) (l t : Quad) : (s.delayedBranch l t).dbr = s.dbr := rfl
@[simp] theorem State.delayedBranch_mach (s : State) (l t : Quad) : (s.delayedBranch l t).mach = s.mach := rfl
@[simp] theorem State.delayedBranch_macl (s : State) (l t : Quad) : (s.delayedBranch l t).macl = s.macl := rfl
@[simp] theorem State.delayedBranch_pr (s : State) (l t : Quad) : (s.delayedBranch l t).pr = s.pr := rfl
@[simp] theorem State.delayedBranch_fpul (s : State) (l t : Quad) : (s.delayedBranch l t).fpul = s.fpul := rfl
@[simp] theorem State.delayedBranch_fpscr (s : State) (l t : Quad) : (s.delayedBranch l t).fpscr = s.fpscr := rfl
@[simp] theorem State.delayedBranch_fa (s : State) (l t : Quad) : (s.delayedBranch l t).fa = s.fa := rfl
@[simp] theorem State.delayedBranch_fb (s : State) (l t : Quad) : (s.delayedBranch l t).fb = s.fb := rfl
@[simp] theorem State.delayedBranch_ds (s : State) (l t : Quad) : (s.delayedBranch l t).ds = some ⟨s.addr t, s.pcn, false⟩ := rfl
@[simp] theorem State.delayedBranch_irq (s : State) (l t : Quad) : (s.delayedBranch l t).irq = s.irq := rfl
@[simp] theorem State.delayedBranch_resetReq (s : State) (l t : Quad) : (s.delayedBranch l t).resetReq = s.resetReq := rfl
@[simp] theorem State.delayedBranch_sleeping (s : State) (l t : Quad) : (s.delayedBranch l t).sleeping = s.sleeping := rfl
@[simp] theorem State.delayedBranch_lastTrap (s : State) (l t : Quad) : (s.delayedBranch l t).lastTrap = s.lastTrap := rfl
@[simp] theorem State.delayedBranch_stale (s : State) (l t : Quad) : (s.delayedBranch l t).stale = s.stale := rfl
@[simp] theorem State.delayedBranch_history (s : State) (l t : Quad) : (s.delayedBranch l t).history = s.history := rfl
@[simp] theorem State.delayedBranch_mem (s : State) (l t : Quad) : (s.delayedBranch l t).mem = s.mem := rfl
@[simp] theorem State.delayedBranch_freeCount (s : State) (l t : Quad) : (s.delayedBranch l t).freeCount = s.freeCount := rfl

/-! ### setFx -/

@[simp] theorem State.setFx_cfg (s : State) (x : Bool) (i : Reg) (v : Dword) : (s.setFx x i v).cfg = s.cfg := by unfold State.setFx; split <;> rfl
@[simp] theorem State.setFx_ga (s : State) (x : Bool) (i : Reg) (v : Dword) : (s.setFx x i v).ga = s.ga := by unfold State.setFx; split <;> rfl
@[simp] theorem State.setFx_gb (s : State) (x : Bool) (i : Reg) (v : Dword) : (s.setFx x i v).gb = s.gb := by unfold State.setFx; split <;> rfl
@[simp] theorem State.setFx_g (s : State) (x : Bool) (i : Reg) (v : Dword) : (s.setFx x i v).g = s.g := by unfold State.setFx; split <;> rfl
@[simp] theorem State.setFx_pc (s : State) (x : Bool) (i : Reg) (v : Dword) : (s.setFx x i v).pc = s.pc := by unfold State.setFx; split <;> rfl
@[simp] theorem State.setFx_sr (s : State) (x : Bool) (i : Reg) (v : Dword) : (s.setFx x i v).sr = s.sr := by unfold State.setFx; split <;> rfl
@[simp] theorem State.setFx_gbr (s : State) (x : Bool) (i : Reg) (v : Dword) : (s.setFx x i v).gbr = s.gbr := by unfold State.setFx; split <;> rfl
@[simp] theorem State.setFx_vbr (s : State) (x : Bool) (i : Reg) (v : Dword) : (s.setFx x i v).vbr = s.vbr := by unfold State.setFx; split <;> rfl
@[simp] theorem State.setFx_ssr (s : State) (x : Bool) (i : Reg) (v : Dword) : (s.setFx x i v).ssr = s.ssr := by unfold State.setFx; split <;> rfl
@[simp] theorem State.setFx_spc (s : State) (x : Bool) (i : Reg) (v : Dword) : (s.setFx x i v).spc = s.spc := by unfold State.setFx; split <;> rfl
@[simp] theorem State.setFx_sgr (s : State) (x : Bool) (i : Reg) (v : Dword) : (s.setFx x i v).sgr = s.sgr := by unfold State.setFx; split <;> rfl
@[simp] theorem State.setFx_dbr (s : State) (x : Bool) (i : Reg) (v : Dword) : (s.setFx x i v).dbr = s.dbr := by unfold State.setFx; split <;> rfl
@[simp] theorem State.setFx_mach (s : State) (x : Bool) (i : Reg) (v : Dword) : (s.setFx x i v).mach = s.mach := by unfold State.setFx; split <;> rfl
@[simp] theorem State.setFx_macl (s : State) (x : Bool) (i : Reg) (v : Dword) : (s.setFx x i v).macl = s.macl := by unfold State.setFx; split <;> rfl
@[simp] theorem State.setFx_pr (s : State) (x : Bool) (i : Reg) (v : Dword) : (s.setFx x i v).pr = s.pr := by unfold State.setFx; split <;> rfl
@[simp] theorem State.setFx_fpul (s : State) (x : Bool) (i : Reg) (v : Dword) : (s.setFx x i v).fpul = s.fpul := by unfold State.setFx; split <;> rfl
@[simp] theorem State.setFx_fpscr (s : State) (x : Bool) (i : Reg) (v : Dword) : (s.setFx x i v).fpscr = s.fpscr := by unfold State.setFx; split <;> rfl
@[simp] theorem State.setFx_ds (s : State) (x : Bool) (i : Reg) (v : Dword) : (s.setFx x i v).ds = s.ds := by unfold State.setFx; split <;> rfl
@[simp] theorem State.setFx_irq (s : State) (x : Bool) (i : Reg) (v : Dword) : (s.setFx x i v).irq = s.irq := by unfold State.setFx; split <;> rfl
@[simp] theorem State.setFx_resetReq (s : State) (x : Bool) (i : Reg) (v : Dword) : (s.setFx x i v).resetReq = s.resetReq := by unfold State.setFx; split <;> rfl
@[simp] theorem State.setFx_sleeping (s : State) (x : Bool) (i : Reg) (v : Dword) : (s.setFx x i v).sleeping = s.sleeping := by unfold State.setFx; split <;> rfl
@[simp] theorem State.setFx_lastTrap (s : State) (x : Bool) (i : Reg) (v : Dword) : (s.setFx x i v).lastTrap = s.lastTrap := by unfold State.setFx; split <;> rfl
@[simp] theorem State.setFx_stale (s : State) (x : Bool) (i : Reg) (v : Dword) : (s.setFx x i v).stale = s.stale := by unfold State.setFx; split <;> rfl
@[simp] theorem State.setFx_history (s : State) (x : Bool) (i : Reg) (v : Dword) : (s.setFx x i v).history = s.history := by unfold State.setFx; split <;> rfl
@[simp] theorem State.setFx_mem (s : State) (x : Bool) (i : Reg) (v : Dword) : (s.setFx x i v).mem = s.mem := by unfold State.setFx; split <;> rfl
@[simp] theorem State.setFx_freeCount (s : State) (x : Bool) (i : Reg) (v : Dword) : (s.setFx x i v).freeCount = s.freeCount := by unfold State.setFx; split <;> rfl

/-! ### setPair -/

@[simp] theorem State.setPair_cfg (s : State) (b : Bool) (n : Reg) (v : Quad) : (s.setPair b n v).cfg = s.cfg := by simp [State.setPair]
@[simp] theorem State.setPair_ga (s : State) (b : Bool) (n : Reg) (v : Quad) : (s.setPair b n v).ga = s.ga := by simp [State.setPair]
@[simp] theorem State.setPair_gb (s : State) (b : Bool) (n : Reg) (v : Quad) : (s.setPair b n v).gb = s.gb := by simp [State.setPair]
@[simp] theorem State.setPair_g (s : State) (b : Bool) (n : Reg) (v : Quad) : (s.setPair b n v).g = s.g := by simp [State.setPair]
@[simp] theorem State.setPair_pc (s : State) (b : Bool) (n : Reg) (v : Quad) : (s.setPair b n v).pc = s.pc := by simp [State.setPair]
@[simp] theorem State.setPair_sr (s : State) (b : Bool) (n : Reg) (v : Quad) : (s.setPair b n v).sr = s.sr := by simp [State.setPair]
@[simp] theorem State.setPair_gbr (s : State) (b : Bool) (n : Reg) (v : Quad) : (s.setPair b n v).gbr = s.gbr := by simp [State.setPair]
@[simp] theorem State.setPair_vbr (s : State) (b : Bool) (n : Reg) (v : Quad) : (s.setPair b n v).vbr = s.vbr := by simp [State.setPair]
@[simp] theorem State.setPair_ssr (s : State) (b : Bool) (n : Reg) (v : Quad) : (s.setPair b n v).ssr = s.ssr := by simp [State.setPair]
@[simp] theorem State.setPair_spc (s : State) (b : Bool) (n : Reg) (v : Quad) : (s.setPair b n v).spc = s.spc := by simp [State.setPair]
@[simp] theorem State.setPair_sgr (s : State) (b : Bool) (n : Reg) (v : Quad) : (s.setPair b n v).sgr = s.sgr := by simp [State.setPair]
@[simp] theorem State.setPair_dbr (s : State) (b : Bool) (n : Reg) (v : Quad) : (s.setPair b n v).dbr = s.dbr := by simp [State.setPair]
@[simp] theorem State.setPair_mach (s : State) (b : Bool) (n : Reg) (v : Quad) : (s.setPair b n v).mach = s.mach := by simp [State.setPair]
@[simp] theorem State.setPair_macl (s : State) (b : Bool) (n : Reg) (v : Quad) : (s.setPair b n v).macl = s.macl := by simp [State.setPair]
@[simp] theorem State.setPair_pr (s : State) (b : Bool) (n : Reg) (v : Quad) : (s.setPair b n v).pr = s.pr := by simp [State.setPair]
@[simp] theorem State.setPair_fpul (s : State) (b : Bool) (n : Reg) (v : Quad) : (s.setPair b n v).fpul = s.fpul := by simp [State.setPair]
@[simp] theorem State.setPair_fpscr (s : State) (b : Bool) (n : Reg) (v : Quad) : (s.setPair b n v).fpscr = s.fpscr := by simp [State.setPair]
@[simp] theorem State.setPair_ds (s : State) (b : Bool) (n : Reg) (v : Quad) : (s.setPair b n v).ds = s.ds := by simp [State.setPair]
@[simp] theorem State.setPair_irq (s : State) (b : Bool) (n : Reg) (v : Quad) : (s.setPair b n v).irq = s.irq := by simp [State.setPair]
@[simp] theorem State.setPair_resetReq (s : State) (b : Bool) (n : Reg) (v : Quad) : (s.setPair b n v).resetReq = s.resetReq := by simp [State.setPair]
@[simp] theorem State.setPair_sleeping (s : State) (b : Bool) (n : Reg) (v : Quad) : (s.setPair b n v).sleeping = s.sleeping := by simp [State.setPair]
@[simp] theorem State.setPair_lastTrap (s : State) (b : Bool) (n : Reg) (v : Quad) : (s.setPair b n v).lastTrap = s.lastTrap := by simp [State.setPair]
@[simp] theorem State.setPair_stale (s : State) (b : Bool) (n : Reg) (v : Quad) : (s.setPair b n v).stale = s.stale := by simp [State.setPair]
@[simp] theorem State.setPair_history (s : State) (b : Bool) (n : Reg) (v : Quad) : (s.setPair b n v).history = s.history := by simp [State.setPair]
@[simp] theorem State.setPair_mem (s : State) (b : Bool) (n : Reg) (v : Quad) : (s.setPair b n v).mem = s.mem := by simp [State.setPair]
@[simp] theorem State.setPair_freeCount (s : State) (b : Bool) (n : Reg) (v : Quad) : (s.setPair b n v).freeCount = s.freeCount := by simp [State.setPair]

/-! ### setFpReg -/

@[simp] theorem State.setFpReg_cfg (s : State) (d b : Bool) (n : Reg) (v : Quad) : (s.setFpReg d b n v).cfg = s.cfg := by unfold State.setFpReg; split <;> simp
@[simp] theorem State.setFpReg_ga (s : State) (d b : Bool) (n : Reg) (v : Quad) : (s.setFpReg d b n v).ga = s.ga := by unfold State.setFpReg; split <;> simp
@[simp] theorem State.setFpReg_gb (s : State) (d b : Bool) (n : Reg) (v : Quad) : (s.setFpReg d b n v).gb = s.gb := by unfold State.setFpReg; split <;> simp
@[simp] theorem State.setFpReg_g (s : State) (d b : Bool) (n : Reg) (v : Quad) : (s.setFpReg d b n v).g = s.g := by unfold State.setFpReg; split <;> simp
@[simp] theorem State.setFpReg_pc (s : State) (d b : Bool) (n : Reg) (v : Quad) : (s.setFpReg d b n v).pc = s.pc := by unfold State.setFpReg; split <;> simp
@[simp] theorem State.setFpReg_sr (s : State) (d b : Bool) (n : Reg) (v : Quad) : (s.setFpReg d b n v).sr = s.sr := by unfold State.setFpReg; split <;> simp
@[simp] theorem State.setFpReg_gbr (s : State) (d b : Bool) (n : Reg) (v : Quad) : (s.setFpReg d b n v).gbr = s.gbr := by unfold State.setFpReg; split <;> simp
@[simp] theorem State.setFpReg_vbr (s : State) (d b : Bool) (n : Reg) (v : Quad) : (s.setFpReg d b n v).vbr = s.vbr := by unfold State.setFpReg; split <;> simp
@[simp] theorem State.setFpReg_ssr (s : State) (d b : Bool) (n : Reg) (v : Quad) : (s.setFpReg d b n v).ssr = s.ssr := by unfold State.setFpReg; split <;> simp
@[simp] theorem State.setFpReg_spc (s : State) (d b : Bool) (n : Reg) (v : Quad) : (s.setFpReg d b n v).spc = s.spc := by unfold State.setFpReg; split <;> simp
@[simp] theorem State.setFpReg_sgr (s : State) (d b : Bool) (n : Reg) (v : Quad) : (s.setFpReg d b n v).sgr = s.sgr := by unfold State.setFpReg; split <;> simp
@[simp] theorem State.setFpReg_dbr (s : State) (d b : Bool) (n : Reg) (v : Quad) : (s.setFpReg d b n v).dbr = s.dbr := by unfold State.setFpReg; split <;> simp
@[simp] theorem State.setFpReg_mach (s : State) (d b : Bool) (n : Reg) (v : Quad) : (s.setFpReg d b n v).mach = s.mach := by unfold State.setFpReg; split <;> simp
@[simp] theorem State.setFpReg_macl (s : State) (d b : Bool) (n : Reg) (v : Quad) : (s.setFpReg d b n v).macl = s.macl := by unfold State.setFpReg; split <;> simp
@[simp] theorem State.setFpReg_pr (s : State) (d b : Bool) (n : Reg) (v : Quad) : (s.setFpReg d b n v).pr = s.pr := by unfold State.setFpReg; split <;> simp
@[simp] theorem State.setFpReg_fpul (s : State) (d b : Bool) (n : Reg) (v : Quad) : (s.setFpReg d b n v).fpul = s.fpul := by unfold State.setFpReg; split <;> simp
@[simp] theorem State.setFpReg_fpscr (s : State) (d b : Bool) (n : Reg) (v : Quad) : (s.setFpReg d b n v).fpscr = s.fpscr := by unfold State.setFpReg; split <;> simp
@[simp] theorem State.setFpReg_ds (s : State) (d b : Bool) (n : Reg) (v : Quad) : (s.setFpReg d b n v).ds = s.ds := by unfold State.setFpReg; split <;> simp
@[simp] theorem State.setFpReg_irq (s : State) (d b : Bool) (n : Reg) (v : Quad) : (s.setFpReg d b n v).irq = s.irq := by unfold State.setFpReg; split <;> simp
@[simp] theorem State.setFpReg_resetReq (s : State) (d b : Bool) (n : Reg) (v : Quad) : (s.setFpReg d b n v).resetReq = s.resetReq := by unfold State.setFpReg; split <;> simp
@[simp] theorem State.setFpReg_sleeping (s : State) (d b : Bool) (n : Reg) (v : Quad) : (s.setFpReg d b n v).sleeping = s.sleeping := by unfold State.setFpReg; split <;> simp
@[simp] theorem State.setFpReg_lastTrap (s : State) (d b : Bool) (n : Reg) (v : Quad) : (s.setFpReg d b n v).lastTrap = s.lastTrap := by unfold State.setFpReg; split <;> simp
@[simp] theorem State.setFpReg_stale (s : State) (d b : Bool) (n : Reg) (v : Quad) : (s.setFpReg d b n v).stale = s.stale := by unfold State.setFpReg; split <;> simp
@[simp] theorem State.setFpReg_history (s : State) (d b : Bool) (n : Reg) (v : Quad) : (s.setFpReg d b n v).history = s.history := by unfold State.setFpReg; split <;> simp
@[simp] theorem State.setFpReg_mem (s : State) (d b : Bool) (n : Reg) (v : Quad) : (s.setFpReg d b n v).mem = s.mem := by unfold State.setFpReg; split <;> simp
@[simp] theorem State.setFpReg_freeCount (s : State) (d b : Bool) (n : Reg) (v : Quad) : (s.setFpReg d b n v).freeCount = s.freeCount := by unfold State.setFpReg; split <;> simp

/-! ### setOpd -/

@[simp] theorem State.setOpd_cfg (s : State) (n : Reg) (v : Quad) : (s.setOpd n v).cfg = s.cfg := by simp [State.setOpd]
@[simp] theorem State.setOpd_ga (s : State) (n : Reg) (v : Quad) : (s.setOpd n v).ga = s.ga := by simp [State.setOpd]
@[simp] theorem State.setOpd_gb (s : State) (n : Reg) (v : Quad) : (s.setOpd n v).gb = s.gb := by simp [State.setOpd]
@[simp] theorem State.setOpd_g (s : State) (n : Reg) (v : Quad) : (s.setOpd n v).g = s.g := by simp [State.setOpd]
@[simp] theorem State.setOpd_pc (s : State) (n : Reg) (v : Quad) : (s.setOpd n v).pc = s.pc := by simp [State.setOpd]
@[simp] theorem State.setOpd_sr (s : State) (n : Reg) (v : Quad) : (s.setOpd n v).sr = s.sr := by simp [State.setOpd]
@[simp] theorem State.setOpd_gbr (s : State) (n : Reg) (v : Quad) : (s.setOpd n v).gbr = s.gbr := by simp [State.setOpd]
@[simp] theorem State.setOpd_vbr (s : State) (n : Reg) (v : Quad) : (s.setOpd n v).vbr = s.vbr := by simp [State.setOpd]
@[simp] theorem State.setOpd_ssr (s : State) (n : Reg) (v : Quad) : (s.setOpd n v).ssr = s.ssr := by simp [State.setOpd]
@[simp] theorem State.setOpd_spc (s : State) (n : Reg) (v : Quad) : (s.setOpd n v).spc = s.spc := by simp [State.setOpd]
@[simp] theorem State.setOpd_sgr (s : State) (n : Reg) (v : Quad) : (s.setOpd n v).sgr = s.sgr := by simp [State.setOpd]
@[simp] theorem State.setOpd_dbr (s : State) (n : Reg) (v : Quad) : (s.setOpd n v).dbr = s.dbr := by simp [State.setOpd]
@[simp] theorem State.setOpd_mach (s : State) (n : Reg) (v : Quad) : (s.setOpd n v).mach = s.mach := by simp [State.setOpd]
@[simp] theorem State.setOpd_macl (s : State) (n : Reg) (v : Quad) : (s.setOpd n v).macl = s.macl := by simp [State.setOpd]
@[simp] theorem State.setOpd_pr (s : State) (n : Reg) (v : Quad) : (s.setOpd n v).pr = s.pr := by simp [State.setOpd]
@[simp] theorem State.setOpd_fpul (s : State) (n : Reg) (v : Quad) : (s.setOpd n v).fpul = s.fpul := by simp [State.setOpd]
@[simp] theorem State.setOpd_fpscr (s : State) (n : Reg) (v : Quad) : (s.setOpd n v).fpscr = s.fpscr := by simp [State.setOpd]
@[simp] theorem State.setOpd_ds (s : State) (n : Reg) (v : Quad) : (s.setOpd n v).ds = s.ds := by simp [State.setOpd]
@[simp] theorem State.setOpd_irq (s : State) (n : Reg) (v : Quad) : (s.setOpd n v).irq = s.irq := by simp [State.setOpd]
@[simp] theorem State.setOpd_resetReq (s : State) (n : Reg) (v : Quad) : (s.setOpd n v).resetReq = s.resetReq := by simp [State.setOpd]
@[simp] theorem State.setOpd_sleeping (s : State) (n : Reg) (v : Quad) : (s.setOpd n v).sleeping = s.sleeping := by simp [State.setOpd]
@[simp] theorem State.setOpd_lastTrap (s : State) (n : Reg) (v : Quad) : (s.setOpd n v).lastTrap = s.lastTrap := by simp [State.setOpd]
@[simp] theorem State.setOpd_stale (s : State) (n : Reg) (v : Quad) : (s.setOpd n v).stale = s.stale := by simp [State.setOpd]
@[simp] theorem State.setOpd_history (s : State) (n : Reg) (v : Quad) : (s.setOpd n v).history = s.history := by simp [State.setOpd]
@[simp] theorem State.setOpd_mem (s : State) (n : Reg) (v : Quad) : (s.setOpd n v).mem = s.mem := by simp [State.setOpd]
@[simp] theorem State.setOpd_freeCount (s : State) (n : Reg) (v : Quad) : (s.setOpd n v).freeCount = s.freeCount := by simp [State.setOpd]

/-! ### trapEntry -/

@[simp] theorem State.trapEntry_cfg (s : State) (k : TrapKind) (w : Bool) (v p : Quad) : (s.trapEntry k w v p).cfg = s.cfg := rfl
@[simp] theorem State.trapEntry_ga (s : State) (k : TrapKind) (w : Bool) (v p : Quad) : (s.trapEntry k w v p).ga = s.ga := rfl
@[simp] theorem State.trapEntry_gb (s : State) (k : TrapKind) (w : Bool) (v p : Quad) : (s.trapEntry k w v p).gb = s.gb := rfl
@[simp] theorem State.trapEntry_g (s : State) (k : TrapKind) (w : Bool) (v p : Quad) : (s.trapEntry k w v p).g = s.g := rfl
@[simp] theorem State.trapEntry_pc (s : State) (k : TrapKind) (w : Bool) (v p : Quad) : (s.trapEntry k w v p).pc = s.handlerPc k := rfl
@[simp] theorem State.trapEntry_sr (s : State) (k : TrapKind) (w : Bool) (v p : Quad) : (s.trapEntry k w v p).sr = s.trapSr := rfl
@[simp] theorem State.trapEntry_gbr (s : State) (k : TrapKind) (w : Bool) (v p : Quad) : (s.trapEntry k w v p).gbr = s.gbr := rfl
@[simp] theorem State.trapEntry_vbr (s : State) (k : TrapKind) (w : Bool) (v p : Quad) : (s.trapEntry k w v p).vbr = s.vbr := rfl
@[simp] theorem State.trapEntry_ssr (s : State) (k : TrapKind) (w : Bool) (v p : Quad) : (s.trapEntry k w v p).ssr = s.sr := rfl
@[simp] theorem State.trapEntry_spc (s : State) (k : TrapKind) (w : Bool) (v p : Quad) : (s.trapEntry k w v p).spc = p := rfl
@[simp] theorem State.trapEntry_sgr (s : State) (k : TrapKind) (w : Bool) (v p : Quad) : (s.trapEntry k w v p).sgr = if s.is64 then s.r 15 else zx32 (lo32 (s.r 15)) := rfl
@[simp] theorem State.trapEntry_dbr (s : State) (k : TrapKind) (w : Bool) (v p : Quad) : (s.trapEntry k w v p).dbr = s.dbr := rfl
@[simp] theorem State.trapEntry_mach (s : State) (k : TrapKind) (w : Bool) (v p : Quad) : (s.trapEntry k w v p).mach = s.mach := rfl
@[simp] theorem State.trapEntry_macl (s : State) (k : TrapKind) (w : Bool) (v p : Quad) : (s.trapEntry k w v p).macl = s.macl := rfl
@[simp] theorem State.trapEntry_pr (s : State) (k : TrapKind) (w : Bool) (v p : Quad) : (s.trapEntry k w v p).pr = s.pr := rfl
@[simp] theorem State.trapEntry_fpul (s : State) (k : TrapKind) (w : Bool) (v p : Quad) : (s.trapEntry k w v p).fpul = s.fpul := rfl
@[simp] theorem State.trapEntry_fpscr (s : State) (k : TrapKind) (w : Bool) (v p : Quad) : (s.trapEntry k w v p).fpscr = s.fpscr := rfl
@[simp] theorem State.trapEntry_fa (s : State) (k : TrapKind) (w : Bool) (v p : Quad) : (s.trapEntry k w v p).fa = s.fa := rfl
@[simp] theorem State.trapEntry_fb (s : State) (k : TrapKind) (w : Bool) (v p : Quad) : (s.trapEntry k w v p).fb = s.fb := rfl
@[simp] theorem State.trapEntry_ds (s : State) (k : TrapKind) (w : Bool) (v p : Quad) : (s.trapEntry k w v p).ds = none := rfl
@[simp] theorem State.trapEntry_irq (s : State) (k : TrapKind) (w : Bool) (v p : Quad) : (s.trapEntry k w v p).irq = s.irq := rfl
@[simp] theorem State.trapEntry_resetReq (s : State) (k : TrapKind) (w : Bool) (v p : Quad) : (s.trapEntry k w v p).resetReq = s.resetReq := rfl
@[simp] theorem State.trapEntry_sleeping (s : State) (k : TrapKind) (w : Bool) (v p : Quad) : (s.trapEntry k w v p).sleeping = false := rfl
@[simp] theorem State.trapEntry_lastTrap (s : State) (k : TrapKind) (w : Bool) (v p : Quad) : (s.trapEntry k w v p).lastTrap = ⟨k, causeCode s.cfg k w v, v⟩ := rfl
@[simp] theorem State.trapEntry_stale (s : State) (k : TrapKind) (w : Bool) (v p : Quad) : (s.trapEntry k w v p).stale = s.stale := rfl
@[simp] theorem State.trapEntry_history (s : State) (k : TrapKind) (w : Bool) (v p : Quad) : (s.trapEntry k w v p).history = s.history := rfl
@[simp] theorem State.trapEntry_mem (s : State) (k : TrapKind) (w : Bool) (v p : Quad) : (s.trapEntry k w v p).mem = s.mem := rfl
@[simp] theorem State.trapEntry_freeCount (s : State) (k : TrapKind) (w : Bool) (v p : Quad) : (s.trapEntry k w v p).freeCount = s.freeCount := rfl

/-! ### setR: modes -/

@[simp] theorem State.setR_is64 (s : State) (n : Reg) (v : Quad) : (s.setR n v).is64 = s.is64 := by simp [State.is64]
@[simp] theorem State.setR_jq (s : State) (n : Reg) (v : Quad) : (s.setR n v).jq = s.jq := by simp [State.jq, State.is64]
@[simp] theorem State.setR_dq (s : State) (n : Reg) (v : Quad) : (s.setR n v).dq = s.dq := by simp [State.dq, State.jq, State.is64]
@[simp] theorem State.setR_hasRh (s : State) (n : Reg) (v : Quad) : (s.setR n v).hasRh = s.hasRh := by simp [State.hasRh, State.is64]
@[simp] theorem State.setR_md (s : State) (n : Reg) (v : Quad) : (s.setR n v).md = s.md := by simp [State.md]
@[simp] theorem State.setR_bankB (s : State) (n : Reg) (v : Quad) : (s.setR n v).bankB = s.bankB := by simp [State.bankB, State.md, State.rb]
@[simp] theorem State.setR_t (s : State) (n : Reg) (v : Quad) : (s.setR n v).t = s.t := by simp [State.t]
@[simp] theorem State.setR_addr (s : State) (n : Reg) (v : Quad) (x : Quad) : (s.setR n v).addr x = s.addr x := by simp [State.addr]

/-! ### wr: modes -/

@[simp] theorem State.wr_is64 (s : State) (q : Bool) (n : Reg) (v : Quad) : (s.wr q n v).is64 = s.is64 := by simp [State.is64]
@[simp] theorem State.wr_jq (s : State) (q : Bool) (n : Reg) (v : Quad) : (s.wr q n v).jq = s.jq := by simp [State.jq, State.is64]
@[simp] theorem State.wr_dq (s : State) (q : Bool) (n : Reg) (v : Quad) : (s.wr q n v).dq = s.dq := by simp [State.dq, State.jq, State.is64]
@[simp] theorem State.wr_hasRh (s : State) (q : Bool) (n : Reg) (v : Quad) : (s.wr q n v).hasRh = s.hasRh := by simp [State.hasRh, State.is64]
@[simp] theorem State.wr_md (s : State) (q : Bool) (n : Reg) (v : Quad) : (s.wr q n v).md = s.md := by simp [State.md]
@[simp] theorem State.wr_bankB (s : State) (q : Bool) (n : Reg) (v : Quad) : (s.wr q n v).bankB = s.bankB := by simp [State.bankB, State.md, State.rb]
@[simp] theorem State.wr_t (s : State) (q : Bool) (n : Reg) (v : Quad) : (s.wr q n v).t = s.t := by simp [State.t]
@[simp] theorem State.wr_addr (s : State) (q : Bool) (n : Reg) (v : Quad) (x : Quad) : (s.wr q n v).addr x = s.addr x := by simp [State.addr]

/-! ### wrA: modes -/

@[simp] theorem State.wrA_is64 (s : State) (n : Reg) (v : Quad) : (s.wrA n v).is64 = s.is64 := by simp [State.is64]
@[simp] theorem State.wrA_jq (s : State) (n : Reg) (v : Quad) : (s.wrA n v).jq = s.jq := by simp [State.jq, State.is64]
@[simp] theorem State.wrA_dq (s : State) (n : Reg) (v : Quad) : (s.wrA n v).dq = s.dq := by simp [State.dq, State.jq, State.is64]
@[simp] theorem State.wrA_hasRh (s : State) (n : Reg) (v : Quad) : (s.wrA n v).hasRh = s.hasRh := by simp [State.hasRh, State.is64]
@[simp] theorem State.wrA_md (s : State) (n : Reg) (v : Quad) : (s.wrA n v).md = s.md := by simp [State.md]
@[simp] theorem State.wrA_bankB (s : State) (n : Reg) (v : Quad) : (s.wrA n v).bankB = s.bankB := by simp [State.bankB, State.md, State.rb]
@[simp] theorem State.wrA_t (s : State) (n : Reg) (v : Quad) : (s.wrA n v).t = s.t := by simp [State.t]
@[simp] theorem State.wrA_addr (s : State) (n : Reg) (v : Quad) (x : Quad) : (s.wrA n v).addr x = s.addr x := by simp [State.addr]

/-! ### setHalf: modes -/

@[simp] theorem State.setHalf_is64 (s : State) (x : Bool) (n : Reg) (v : Dword) : (s.setHalf x n v).is64 = s.is64 := by simp [State.is64]
@[simp] theorem State.setHalf_jq (s : State) (x : Bool) (n : Reg) (v : Dword) : (s.setHalf x n v).jq = s.jq := by simp [State.jq, State.is64]
@[simp] theorem State.setHalf_dq (s : State) (x : Bool) (n : Reg) (v : Dword) : (s.setHalf x n v).dq = s.dq := by simp [State.dq, State.jq, State.is64]
@[simp] theorem State.setHalf_hasRh (s : State) (x : Bool) (n : Reg) (v : Dword) : (s.setHalf x n v).hasRh = s.hasRh := by simp [State.hasRh, State.is64]
@[simp] theorem State.setHalf_md (s : State) (x : Bool) (n : Reg) (v : Dword) : (s.setHalf x n v).md = s.md := by simp [State.md]
@[simp] theorem State.setHalf_bankB (s : State) (x : Bool) (n : Reg) (v : Dword) : (s.setHalf x n v).bankB = s.bankB := by simp [State.bankB, State.md, State.rb]
@[simp] theorem State.setHalf_t (s : State) (x : Bool) (n : Reg) (v : Dword) : (s.setHalf x n v).t = s.t := by simp [State.t]
@[simp] theorem State.setHalf_addr (s : State) (x : Bool) (n : Reg) (v : Dword) (a : Quad) : (s.setHalf x n v).addr a = s.addr a := by simp [State.addr]

/-! ### setOb: modes -/

@[simp] theorem State.setOb_is64 (s : State) (b : BankReg) (v : Quad) : (s.setOb b v).is64 = s.is64 := by simp [State.is64]
@[simp] theorem State.setOb_jq (s : State) (b : BankReg) (v : Quad) : (s.setOb b v).jq = s.jq := by simp [State.jq, State.is64]
@[simp] theorem State.setOb_dq (s : State) (b : BankReg) (v : Quad) : (s.setOb b v).dq = s.dq := by simp [State.dq, State.jq, State.is64]
@[simp] theorem State.setOb_hasRh (s : State) (b : BankReg) (v : Quad) : (s.setOb b v).hasRh = s.hasRh := by simp [State.hasRh, State.is64]
@[simp] theorem State.setOb_md (s : State) (b : BankReg) (v : Quad) : (s.setOb b v).md = s.md := by simp [State.md]
@[simp] theorem State.setOb_bankB (s : State) (b : BankReg) (v : Quad) : (s.setOb b v).bankB = s.bankB := by simp [State.bankB, State.md, State.rb]
@[simp] theorem State.setOb_t (s : State) (b : BankReg) (v : Quad) : (s.setOb b v).t = s.t := by simp [State.t]
@[simp] theorem State.setOb_addr (s : State) (b : BankReg) (v : Quad) (x : Quad) : (s.setOb b v).addr x = s.addr x := by simp [State.addr]

/-! ### setFx: modes -/

@[simp] theorem State.setFx_is64 (s : State) (x : Bool) (i : Reg) (v : Dword) : (s.setFx x i v).is64 = s.is64 := by simp [State.is64]
@[simp] theorem State.setFx_jq (s : State) (x : Bool) (i : Reg) (v : Dword) : (s.setFx x i v).jq = s.jq := by simp [State.jq, State.is64]
@[simp] theorem State.setFx_dq (s : State) (x : Bool) (i : Reg) (v : Dword) : (s.setFx x i v).dq = s.dq := by simp [State.dq, State.jq, State.is64]
@[simp] theorem State.setFx_hasRh (s : State) (x : Bool) (i : Reg) (v : Dword) : (s.setFx x i v).hasRh = s.hasRh := by simp [State.hasRh, State.is64]
@[simp] theorem State.setFx_md (s : State) (x : Bool) (i : Reg) (v : Dword) : (s.setFx x i v).md = s.md := by simp [State.md]
@[simp] theorem State.setFx_bankB (s : State) (x : Bool) (i : Reg) (v : Dword) : (s.setFx x i v).bankB = s.bankB := by simp [State.bankB, State.md, State.rb]
@[simp] theorem State.setFx_t (s : State) (x : Bool) (i : Reg) (v : Dword) : (s.setFx x i v).t = s.t := by simp [State.t]
@[simp] theorem State.setFx_addr (s : State) (x : Bool) (i : Reg) (v : Dword) (a : Quad) : (s.setFx x i v).addr a = s.addr a := by simp [State.addr]

/-! ### setPair: modes -/

@[simp] theorem State.setPair_is64 (s : State) (b : Bool) (n : Reg) (v : Quad) : (s.setPair b n v).is64 = s.is64 := by simp [State.is64]
@[simp] theorem State.setPair_jq (s : State) (b : Bool) (n : Reg) (v : Quad) : (s.setPair b n v).jq = s.jq := by simp [State.jq, State.is64]
@[simp] theorem State.setPair_dq (s : State) (b : Bool) (n : Reg) (v : Quad) : (s.setPair b n v).dq = s.dq := by simp [State.dq, State.jq, State.is64]
@[simp] theorem State.setPair_hasRh (s : State) (b : Bool) (n : Reg) (v : Quad) : (s.setPair b n v).hasRh = s.hasRh := by simp [State.hasRh, State.is64]
@[simp] theorem State.setPair_md (s : State) (b : Bool) (n : Reg) (v : Quad) : (s.setPair b n v).md = s.md := by simp [State.md]
@[simp] theorem State.setPair_bankB (s : State) (b : Bool) (n : Reg) (v : Quad) : (s.setPair b n v).bankB = s.bankB := by simp [State.bankB, State.md, State.rb]
@[simp] theorem State.setPair_t (s : State) (b : Bool) (n : Reg) (v : Quad) : (s.setPair b n v).t = s.t := by simp [State.t]
@[simp] theorem State.setPair_addr (s : State) (b : Bool) (n : Reg) (v : Quad) (x : Quad) : (s.setPair b n v).addr x = s.addr x := by simp [State.addr]

/-! ### advance: modes -/

@[simp] theorem State.advance_is64 (s : State) (p l : Quad) : (s.advance p l).is64 = s.is64 := by simp [State.is64]
@[simp] theorem State.advance_jq (s : State) (p l : Quad) : (s.advance p l).jq = s.jq := by simp [State.jq, State.is64]
@[simp] theorem State.advance_dq (s : State) (p l : Quad) : (s.advance p l).dq = s.dq := by simp [State.dq, State.jq, State.is64]
@[simp] theorem State.advance_hasRh (s : State) (p l : Quad) : (s.advance p l).hasRh = s.hasRh := by simp [State.hasRh, State.is64]
@[simp] theorem State.advance_md (s : State) (p l : Quad) : (s.advance p l).md = s.md := by simp [State.md]
@[simp] theorem State.advance_bankB (s : State) (p l : Quad) : (s.advance p l).bankB = s.bankB := by simp [State.bankB, State.md, State.rb]
@[simp] theorem State.advance_t (s : State) (p l : Quad) : (s.advance p l).t = s.t := by simp [State.t]
@[simp] theorem State.advance_addr (s : State) (p l : Quad) (x : Quad) : (s.advance p l).addr x = s.addr x := by simp [State.addr]

end Sys2Proof.Machine
end

