-- ==== Sys2Proof/Laws/Memory.lean ====
section
/-! SUPPORT. Laws/Memory.lean: reading and writing memory, STALE and the history of
stores, and what each access primitive can do. -/
namespace Sys2Proof.Machine

/-! ### One byte -/

/-- A canonical memory lists no address at or below its lower bound. -/
theorem Memory.read_of_lt {m : Memory} {a : Nat} (h : ∀ c ∈ m, a < c.1) : Memory.read m a = 0 := by
  induction m with
  | nil => rfl
  | cons x m ih =>
    have hx := h x (by simp)
    simp only [Memory.read]
    rw [if_neg (by omega)]
    exact ih fun c hc => h c (by simp [hc])

/-- Reading after a write: the byte written at its address, every other byte as before. -/
theorem Memory.read_write {m : Memory} (h : Memory.wf m) (a x : Nat) (b : Byte) :
    Memory.read (Memory.write m a b) x = if x = a then b else Memory.read m x := by
  obtain ⟨hp, -⟩ := h
  induction m with
  | nil =>
    simp only [Memory.write]
    by_cases hb : b = 0
    · rw [if_pos hb, hb]
      exact (ite_self _).symm
    · rw [if_neg hb]
      simp only [Memory.read, @eq_comm _ a x]
  | cons c m ih =>
    obtain ⟨hc, hm⟩ := List.pairwise_cons.1 hp
    have hr : ∀ y, y ≤ c.1 → Memory.read m y = 0 :=
      fun y hy => Memory.read_of_lt fun d hd => lt_of_le_of_lt hy (hc d hd)
    simp only [Memory.write]
    split
    · by_cases hb : b = 0
      · simp only [hb, if_true, Memory.read]
        split_ifs with h1 h2
        · omega
        · rfl
        · exact hr x (by omega)
        · rfl
      · simp only [hb, if_false, Memory.read, @eq_comm _ a x]
    · split
      · rename_i h1 h2
        by_cases hb : b = 0
        · simp only [hb, if_true, Memory.read]
          split_ifs with h3 h4
          · exact hr x (by omega)
          · omega
          · rfl
        · simp only [hb, if_false, Memory.read]
          split_ifs <;> first | rfl | omega
      · simp only [Memory.read, ih hm]
        split_ifs <;> first | rfl | omega

/-- The addresses of a written memory are the written one and the old ones. -/
theorem Memory.mem_write {m : Memory} {a : Nat} {b : Byte} {c : Host.Cell} (h : c ∈ Memory.write m a b) :
    c = (a, b) ∧ b ≠ 0 ∨ c ∈ m := by
  induction m with
  | nil => by_cases hb : b = 0 <;> simp_all [Memory.write]
  | cons x m ih =>
    simp only [Memory.write] at h
    split_ifs at h
    · exact .inr h
    · rcases List.mem_cons.1 h with h | h
      · exact .inl ⟨h, by assumption⟩
      · exact .inr h
    · exact .inr (List.mem_cons_of_mem _ h)
    · rcases List.mem_cons.1 h with h | h
      · exact .inl ⟨h, by assumption⟩
      · exact .inr (List.mem_cons_of_mem _ h)
    · rcases List.mem_cons.1 h with h | h
      · exact .inr (by simp [h])
      · rcases ih h with h | h
        · exact .inl h
        · exact .inr (List.mem_cons_of_mem _ h)

/-- A write keeps the canonical form. -/
theorem Memory.wf_write {m : Memory} (h : Memory.wf m) (a : Nat) (b : Byte) : Memory.wf (Memory.write m a b) := by
  obtain ⟨hp, hz⟩ := h
  refine ⟨?_, fun c hc => ?_⟩
  · induction m with
    | nil =>
      simp only [Memory.write]
      split_ifs <;> simp
    | cons x m ih =>
      obtain ⟨hx, hm⟩ := List.pairwise_cons.1 hp
      simp only [Memory.write]
      split_ifs
      · exact hp
      · refine List.pairwise_cons.2 ⟨fun c hc => ?_, hp⟩
        rcases List.mem_cons.1 hc with rfl | hc
        · assumption
        · have := hx c hc
          show a < c.1
          omega
      · exact hm
      · refine List.pairwise_cons.2 ⟨fun c hc => ?_, hm⟩
        have := hx c hc
        show a < c.1
        omega
      · refine List.pairwise_cons.2 ⟨fun c hc => ?_, ih hm fun c hc => hz c (by simp [hc])⟩
        rcases Memory.mem_write hc with ⟨rfl, -⟩ | hc
        · show x.1 < a
          omega
        · exact hx c hc
  · rcases Memory.mem_write hc with ⟨rfl, hb⟩ | hc
    · exact hb
    · exact hz c hc

/-! ### STALE -/

/-- The addresses of STALE after one was added. -/
@[simp] theorem mem_staleAdd (l : List Nat) (a x : Nat) : x ∈ staleAdd l a ↔ x ∈ l ∨ x = a := by
  induction l with
  | nil => simp [staleAdd]
  | cons c l ih =>
    simp only [staleAdd]
    split_ifs with h1 h2
    · simp only [List.mem_cons]
      tauto
    · simp only [List.mem_cons, h2]
      tauto
    · simp only [List.mem_cons, ih]
      tauto

/-- Adding an address keeps STALE in rising order. -/
theorem staleWf_staleAdd {l : List Nat} (h : staleWf l) (a : Nat) : staleWf (staleAdd l a) := by
  induction l with
  | nil => simp [staleAdd]
  | cons x l ih =>
    obtain ⟨hx, hl⟩ := List.pairwise_cons.1 h
    simp only [staleAdd]
    split_ifs
    · refine List.pairwise_cons.2 ⟨fun c hc => ?_, h⟩
      rcases List.mem_cons.1 hc with rfl | hc
      · assumption
      · have := hx c hc
        omega
    · exact h
    · refine List.pairwise_cons.2 ⟨fun c hc => ?_, ih hl⟩
      rcases (mem_staleAdd l a c).1 hc with hc | rfl
      · exact hx c hc
      · omega

/-! ### Several bytes -/

/-- Memory after a run of bytes. -/
def putMem (m : Memory) (p : Nat) : List Byte → Memory
  | [] => m
  | b :: rest => putMem (Memory.write m p b) (p + 1) rest

/-- STALE after a run of `n` bytes stored at the logical address `a`. -/
def putStale (f : Quad → Nat) (l : List Nat) (a : Quad) : Nat → List Nat
  | 0 => l
  | n + 1 => putStale f (staleAdd l (f a)) (a + 1) n

/-- The history after a run of bytes stored at the physical address `p`. -/
def putHistory (h : List CacheEvent) (m : Memory) (p : Nat) : List Byte → List CacheEvent
  | [] => h
  | b :: rest => putHistory (.stored p (Memory.read m p) :: h) (Memory.write m p b) (p + 1) rest

/-- `putBytes` changes memory, STALE and the history only. -/
theorem State.putBytes_eq (s : State) (a : Quad) (p : Nat) (bs : List Byte) :
    s.putBytes a p bs =
      { s with
        mem := putMem s.mem p bs
        stale := putStale (fun x => (s.addr x).toNat) s.stale a bs.length
        history := putHistory s.history s.mem p bs } := by
  induction bs generalizing s a p with
  | nil => rfl
  | cons b bs ih => rw [State.putBytes, ih]; rfl

/-- A run of bytes keeps the canonical form. -/
theorem wf_putMem {m : Memory} (h : Memory.wf m) (p : Nat) (bs : List Byte) : Memory.wf (putMem m p bs) := by
  induction bs generalizing m p with
  | nil => exact h
  | cons b bs ih => exact ih (Memory.wf_write h p b) _

/-- Bytes outside a run read as before. -/
theorem read_putMem_of_not {m : Memory} (h : Memory.wf m) (p x : Nat) (bs : List Byte)
    (hx : x < p ∨ p + bs.length ≤ x) : Memory.read (putMem m p bs) x = Memory.read m x := by
  induction bs generalizing m p with
  | nil => rfl
  | cons b bs ih =>
    simp only [List.length_cons] at hx
    rw [putMem, ih (Memory.wf_write h p b) _ (by omega), Memory.read_write h, if_neg (by omega)]

/-- A run of bytes reads back. -/
theorem bytesAt_putMem {m : Memory} (h : Memory.wf m) (p : Nat) (bs : List Byte) :
    bytesAt (putMem m p bs) p bs.length = bs := by
  induction bs generalizing m p with
  | nil => rfl
  | cons b bs ih =>
    have hw := Memory.wf_write h p b
    simp only [List.length_cons, bytesAt, putMem]
    rw [ih hw, read_putMem_of_not hw _ _ _ (by omega), Memory.read_write h, if_pos rfl]

/-- A run of bytes keeps STALE in rising order. -/
theorem staleWf_putStale (f : Quad → Nat) {l : List Nat} (h : staleWf l) (a : Quad) (n : Nat) :
    staleWf (putStale f l a n) := by
  induction n generalizing l a with
  | zero => exact h
  | succ n ih => exact ih (staleWf_staleAdd h _) _

/-- STALE after a run of bytes holds the old addresses and those of the run. -/
theorem mem_putStale (f : Quad → Nat) (l : List Nat) (a : Quad) (n x : Nat) :
    x ∈ putStale f l a n ↔ x ∈ l ∨ ∃ k < n, f (a + BitVec.ofNat 64 k) = x := by
  induction n generalizing l a with
  | zero => simp [putStale]
  | succ n ih =>
    have hk : ∀ k, a + 1 + BitVec.ofNat 64 k = a + BitVec.ofNat 64 (k + 1) := by
      intro k
      rw [BitVec.add_assoc]
      congr 1
      apply BitVec.eq_of_toNat_eq
      simp [Nat.add_comm]
    rw [putStale, ih, mem_staleAdd]
    simp only [hk, or_assoc]
    refine or_congr_right ⟨?_, ?_⟩
    · rintro (rfl | ⟨k, h1, h2⟩)
      · exact ⟨0, by omega, by simp⟩
      · exact ⟨k + 1, by omega, h2⟩
    · rintro ⟨k, h1, h2⟩
      cases k with
      | zero => exact .inl (by simpa using h2.symm)
      | succ k => exact .inr ⟨k, by omega, h2⟩

/-- What was there at the last ICBI or at reset is not changed by a run of bytes. -/
theorem oldByte_putHistory {m : Memory} (hm : Memory.wf m) (h : List CacheEvent) (p c x : Nat) (bs : List Byte) :
    oldByte (putHistory h m p bs) c x (Memory.read (putMem m p bs) x) = oldByte h c x (Memory.read m x) := by
  induction bs generalizing m h p with
  | nil => rfl
  | cons b bs ih =>
    rw [putHistory, putMem, ih (Memory.wf_write hm p b), oldByte, Memory.read_write hm]
    by_cases hx : x = p
    · rw [if_pos hx.symm, hx]
    · rw [if_neg (Ne.symm hx), if_neg hx]

/-- After an ICBI, what is there now is what was there at the last ICBI of each address it covers. -/
theorem oldByte_icbi (h : List CacheEvent) {draw : Nat} {a : Quad} {c : Nat} (hc : icbiCovers draw a c = true)
    (p : Nat) (now : Byte) : oldByte (.icbi draw a :: h) c p now = now := by
  rw [oldByte, if_pos hc]

/-- How many bytes `toBytes` gives. -/
@[simp] theorem length_toBytes (e : Endian) (n : Nat) (v : Quad) : (toBytes e n v).length = n := by
  have h : ∀ n v, (toBytesLe n v).length = n := by
    intro n
    induction n with
    | zero => intro v; rfl
    | succ n ih => intro v; simp [toBytesLe, ih]
  cases e <;> simp [toBytes, h]

/-! ### The access primitives -/

/-- What passes the device check is the address that went in, and it lies in no device region. -/
theorem notDevice_ok {k : MapKind} {a : Quad} {p q : Nat} (h : notDevice k a p = .ok q) :
    q = p ∧ isDevice k p = false := by
  unfold notDevice at h
  cases hd : isDevice k p
  · exact ⟨by simpa [hd] using h.symm, rfl⟩
  · simp [hd] at h

/-- A read whose address resolves gives the bytes there. -/
theorem State.load_ok {s : State} {a : Quad} {n p : Nat} (h : s.resolve .read s.md (alignOf n) a = .ok p) :
    s.load a n = .ok (ofBytes s.cfg.endian (bytesAt s.mem p n)) := by
  rw [State.load, h]; rfl

/-- A read whose address does not resolve stops with the reason. -/
theorem State.load_error {s : State} {a : Quad} {n : Nat} {e : Stop}
    (h : s.resolve .read s.md (alignOf n) a = .error e) : s.load a n = .error e := by
  rw [State.load, h]; rfl

/-- The same for an unaligned read. -/
theorem State.loadU_ok {s : State} {a : Quad} {n p : Nat} (h : s.resolve .read s.md 1 a = .ok p) :
    s.loadU a n = .ok (ofBytes s.cfg.endian (bytesAt s.mem p n)) := by
  rw [State.loadU, h]; rfl

/-- The same for an unaligned read. -/
theorem State.loadU_error {s : State} {a : Quad} {n : Nat} {e : Stop}
    (h : s.resolve .read s.md 1 a = .error e) : s.loadU a n = .error e := by
  rw [State.loadU, h]; rfl

/-- A write whose address resolves stores the bytes there and changes nothing else. -/
theorem State.store_ok {s : State} {a v : Quad} {n p : Nat} (h : s.resolve .write s.md (alignOf n) a = .ok p) :
    s.store a n v = .ok (s.putBytes a p (toBytes s.cfg.endian n v)) := by
  rw [State.store, h]; rfl

/-- A write whose address does not resolve stops with the reason. -/
theorem State.store_error {s : State} {a v : Quad} {n : Nat} {e : Stop}
    (h : s.resolve .write s.md (alignOf n) a = .error e) : s.store a n v = .error e := by
  rw [State.store, h]; rfl

/-- The same for an unaligned write. -/
theorem State.storeU_ok {s : State} {a v : Quad} {n p : Nat} (h : s.resolve .write s.md 1 a = .ok p) :
    s.storeU a n v = .ok (s.putBytes a p (toBytes s.cfg.endian n v)) := by
  rw [State.storeU, h]; rfl

/-- The same for an unaligned write. -/
theorem State.storeU_error {s : State} {a v : Quad} {n : Nat} {e : Stop}
    (h : s.resolve .write s.md 1 a = .error e) : s.storeU a n v = .error e := by
  rw [State.storeU, h]; rfl

/-- What a store leaves in memory, STALE and the history, in any state that agrees with it there. -/
theorem State.storedIn_putBytes {s t : State} (h : Memory.wf s.mem) (a : Quad) (p n : Nat) (v : Quad)
    (hm : t.mem = (s.putBytes a p (toBytes s.cfg.endian n v)).mem)
    (hs : t.stale = (s.putBytes a p (toBytes s.cfg.endian n v)).stale)
    (hh : t.history = (s.putBytes a p (toBytes s.cfg.endian n v)).history) : s.StoredIn t p n a v := by
  rw [State.putBytes_eq] at hm hs hh
  refine ⟨?_, fun x hx => ?_, fun x => ?_, fun c x => ?_⟩
  · rw [hm]
    simpa using bytesAt_putMem h p (toBytes s.cfg.endian n v)
  · rw [hm]
    exact read_putMem_of_not h _ _ _ (by simpa using hx)
  · rw [hs]
    simpa using mem_putStale _ s.stale a n x
  · rw [hm, hh]
    exact oldByte_putHistory h s.history p c x _

/-! ### Accesses do not look at registers, memory or the program counter -/

/-- `resolve` depends on the parameters and SR alone. -/
theorem State.resolve_congr {s t : State} (hc : t.cfg = s.cfg) (hr : t.sr = s.sr) (k : Access) (md : Bool) (al : Nat)
    (a : Quad) : t.resolve k md al a = s.resolve k md al a := by
  cases s
  cases t
  simp only at hc hr
  subst hc hr
  rfl

end Sys2Proof.Machine
end

