-- ==== Sys2Proof/Laws/Operands.lean ====
section
/-! SUPPORT. Laws/Operands.lean: halves of quads, addresses, the register writes, the computations at W = OPW, and how an
instruction ends, each said once. -/
namespace Sys2Proof.Machine

/-! ### Halves -/

/-- A bit of two halves joined. -/
theorem getLsbD_halves (h l : Dword) (i : Nat) :
    (h ++ l : Quad).getLsbD i = if i < 32 then l.getLsbD i else h.getLsbD (i - 32) :=
  (BitVec.getLsbD_append (x := h) (y := l)).trans (by split <;> rfl)

@[simp] theorem lo32_append (h l : Dword) : lo32 (h ++ l) = l := by
  unfold lo32
  ext i hi
  rw [BitVec.getElem_setWidth, getLsbD_halves, if_pos hi, BitVec.getLsbD_eq_getElem]

@[simp] theorem hi32_append (h l : Dword) : hi32 (h ++ l) = h := by
  unfold hi32
  ext i hi
  rw [BitVec.getElem_extractLsb', getLsbD_halves, if_neg (by omega), Nat.add_sub_cancel_left,
    BitVec.getLsbD_eq_getElem]

@[simp] theorem hi32_lo32 (x : Quad) : hi32 x ++ lo32 x = x := by
  ext i hi
  show (x.extractLsb' 32 32 ++ x.setWidth 32 : BitVec (32 + 32))[i] = x[i]
  rw [BitVec.getElem_append]
  split
  · rw [BitVec.getElem_setWidth, BitVec.getLsbD_eq_getElem]
  · rw [BitVec.getElem_extractLsb', show 32 + (i - 32) = i by omega, BitVec.getLsbD_eq_getElem]

@[simp] theorem lo32_zx32 (x : Dword) : lo32 (zx32 x) = x := by
  unfold lo32 zx32
  ext i hi
  simp

@[simp] theorem hi32_zx32 (x : Dword) : hi32 (zx32 x) = 0 := by
  unfold hi32 zx32
  ext i hi
  simp

@[simp] theorem lo32_signExtend {w : Nat} (x : BitVec w) : lo32 (x.signExtend 64) = x.signExtend 32 := by
  unfold lo32
  ext i hi
  simp [BitVec.getElem_signExtend, show i < 64 by omega]

@[simp] theorem lo32_setWidth {w : Nat} (x : BitVec w) : lo32 (x.setWidth 64) = x.setWidth 32 := by
  unfold lo32
  ext i hi
  simp

theorem zx32_lo32_toNat (x : Quad) : (zx32 (lo32 x)).toNat = x.toNat % 2 ^ 32 := by
  simp only [zx32, lo32, BitVec.toNat_setWidth]
  omega

@[simp] theorem merge_true (old v : Quad) : merge true old v = v := rfl
@[simp] theorem merge_false (old v : Quad) : merge false old v = hi32 old ++ lo32 v := rfl

/-! ### Addresses -/

/-- Reducing an address twice is reducing it once. -/
@[simp] theorem State.addr_addr (s : State) (x : Quad) : s.addr (s.addr x) = s.addr x := by
  unfold State.addr
  split <;> simp

/-- A sum may be reduced before or after. -/
@[simp] theorem State.addr_addr_add (s : State) (x y : Quad) : s.addr (s.addr x + y) = s.addr (x + y) := by
  unfold State.addr
  split
  · rfl
  · apply BitVec.eq_of_toNat_eq
    simp only [zx32_lo32_toNat, BitVec.toNat_add]
    omega

/-- A multiple of the scale. -/
@[simp] theorem quadOf_two : quadOf 2 = 2 := rfl

/-! ### Register writes -/

/-- `R[n] <-{W} v` with W = OPW. -/
theorem State.wr_opw (s : State) (n : Reg) (v : Quad) : s.wr s.dq n v = s.writeW n v (lo32 v) := by
  unfold State.wr State.writeW
  cases s.dq <;> simp [State.setHalf]

/-- `R[n] <-{AW} v`. -/
theorem State.wrA_eq (s : State) (n : Reg) (v : Quad) : s.wrA n v = s.writeA n v := by
  unfold State.wrA State.wr State.writeA
  cases s.jq <;> simp [State.setHalf]

/-- A write at 32 bits is a write of the low half. -/
theorem State.wr_false (s : State) (n : Reg) (v : Quad) : s.wr false n v = s.setHalf false n (lo32 v) := rfl

/-- A write at 64 bits is a write of the cell. -/
@[simp] theorem State.wr_true (s : State) (n : Reg) (v : Quad) : s.wr true n v = s.setR n v := rfl

/-- DQ = 1 needs JQ = 1. -/
theorem State.jq_of_dq {s : State} (h : s.dq = true) : s.jq = true := by
  simp only [State.dq, Bool.and_eq_true] at h
  exact h.1

/-- JQ = 1 needs a BJX1-64, which has high halves. -/
theorem State.hasRh_of_jq {s : State} (h : s.jq = true) : s.hasRh = true := by
  simp only [State.jq, Bool.and_eq_true] at h
  simp [State.hasRh, h.1]

/-- A load write: sign- or zero-extended to the width of the write (rule R56). -/
theorem State.wrLoad_eq (s : State) (n : Reg) (bits : Nat) (e : Ext) (v : Quad) (h : bits ≠ 64) :
    s.wrLoad n bits e v = s.writeW n (extend e bits v) (lo32 (extend e bits v)) := by
  unfold State.wrLoad
  rw [show (s.dq || bits == 64) = s.dq by simp [h], State.wr_opw]

/-- A 64-bit load writes the whole cell (rule R56). -/
theorem State.wrLoad_64 (s : State) (n : Reg) (e : Ext) (v : Quad) : s.wrLoad n 64 e v = s.setR n v := by
  unfold State.wrLoad
  simp only [beq_self_eq_true, Bool.or_true, State.wr_true]
  cases e <;> simp [extend, sxN, zxN]

/-! ### Computations at W = OPW -/

theorem State.binOp_eq (s : State) (f : (w : Nat) → BitVec w → BitVec w → BitVec w) (n : Reg) (a b : Quad) :
    s.binOp f n a b = s.resultW n a b fun w a b _ => (some (f w a b), none) := by
  unfold State.binOp State.resultW State.result64 State.result32 State.putT
  cases s.dq <;> simp [binQ, State.wr_false]

theorem State.binTOp_eq (s : State) (f : (w : Nat) → BitVec w → BitVec w → Bool → BitVec w × Bool) (n : Reg)
    (a b : Quad) : s.binTOp f n a b = s.resultW n a b fun w a b t => (some (f w a b t).1, some (f w a b t).2) := by
  unfold State.binTOp State.resultW State.result64 State.result32 State.putT
  cases s.dq <;> simp [binTQ, State.wr_false]

theorem State.cmpOp_eq (s : State) (f : (w : Nat) → BitVec w → BitVec w → Bool) (n : Reg) (a b : Quad) :
    s.cmpOp f a b = s.resultW n a b fun w a b _ => (none, some (f w a b)) := by
  unfold State.cmpOp State.resultW State.result64 State.result32 State.putT
  cases s.dq <;> simp [cmpQ]

theorem State.unOp_eq (s : State) (f : (w : Nat) → BitVec w → BitVec w) (n : Reg) :
    s.unOp f n = s.resultW n (s.r n) 0 fun w a _ _ => (some (f w a), none) := by
  unfold State.unOp State.resultW State.result64 State.result32 State.putT
  cases s.dq <;> simp [unQ, State.wr_false]

theorem State.unTOp_eq (s : State) (f : (w : Nat) → BitVec w → Bool → BitVec w × Bool) (n : Reg) :
    s.unTOp f n = s.resultW n (s.r n) 0 fun w a _ t => (some (f w a t).1, some (f w a t).2) := by
  unfold State.unTOp State.resultW State.result64 State.result32 State.putT
  cases s.dq <;> simp [unTQ, State.wr_false]

/-! ### An indivisible read and write -/

/-- What `bothChecked` can do: the exception of the read, or else of the write, or else the rest. -/
theorem State.bothChecked_cases (s : State) (ea : Quad) (n : Nat) (r : Res State) :
    (∃ e, s.resolve .read s.md (alignOf n) ea = .error (.exc e) ∧ s.bothChecked ea n r = .error (.exc e)) ∨
      (∀ e, s.resolve .read s.md (alignOf n) ea ≠ .error (.exc e)) ∧
        ((∃ e, s.resolve .write s.md (alignOf n) ea = .error (.exc e) ∧ s.bothChecked ea n r = .error (.exc e)) ∨
          (∀ e, s.resolve .write s.md (alignOf n) ea ≠ .error (.exc e)) ∧ s.bothChecked ea n r = r) := by
  unfold State.bothChecked
  rcases s.resolve .read s.md (alignOf n) ea with (e | x) | p
  · exact .inl ⟨e, rfl, rfl⟩
  all_goals
    refine .inr ⟨by simp, ?_⟩
    rcases s.resolve .write s.md (alignOf n) ea with (e | x) | q
    · exact .inl ⟨e, rfl, rfl⟩
    all_goals exact .inr ⟨by simp, rfl⟩

/-- Where neither check raises an exception, the rest runs. -/
theorem State.bothChecked_ok {s : State} {ea : Quad} {n : Nat}
    (hr : ∀ e, s.resolve .read s.md (alignOf n) ea ≠ .error (.exc e))
    (hw : ∀ e, s.resolve .write s.md (alignOf n) ea ≠ .error (.exc e)) (r : Res State) :
    s.bothChecked ea n r = r := by
  rcases s.bothChecked_cases ea n r with ⟨e, h, -⟩ | ⟨-, ⟨e, h, -⟩ | ⟨-, h⟩⟩
  · exact absurd h (hr e)
  · exact absurd h (hw e)
  · exact h

/-- The read's exception comes first. -/
theorem State.bothChecked_read {s : State} {ea : Quad} {n : Nat} {e : Exc}
    (h : s.resolve .read s.md (alignOf n) ea = .error (.exc e)) (r : Res State) :
    s.bothChecked ea n r = .error (.exc e) := by
  rw [State.bothChecked, h]

/-- The write's exception comes next, even where the read would be the platform's. -/
theorem State.bothChecked_write {s : State} {ea : Quad} {n : Nat} {e : Exc}
    (hr : ∀ e, s.resolve .read s.md (alignOf n) ea ≠ .error (.exc e))
    (h : s.resolve .write s.md (alignOf n) ea = .error (.exc e)) (r : Res State) :
    s.bothChecked ea n r = .error (.exc e) := by
  rcases s.bothChecked_cases ea n r with ⟨e', h', -⟩ | ⟨-, ⟨e', h', h2⟩ | ⟨h', -⟩⟩
  · exact absurd h' (hr e')
  · have he : e' = e := by simpa using h'.symm.trans h
    rw [h2, he]
  · exact absurd h (h' e)

/-! ### After a store -/

/-- The same state with other contents of memory, STALE and the history of stores. -/
def State.withMem (s : State) (m : Memory) (l : List Nat) (h : List CacheEvent) : State :=
  { s with mem := m, stale := l, history := h }

@[simp] theorem State.withMem_mem (s : State) (m : Memory) (l : List Nat) (h : List CacheEvent) :
    (s.withMem m l h).mem = m := rfl
@[simp] theorem State.withMem_stale (s : State) (m : Memory) (l : List Nat) (h : List CacheEvent) :
    (s.withMem m l h).stale = l := rfl
@[simp] theorem State.withMem_history (s : State) (m : Memory) (l : List Nat) (h : List CacheEvent) :
    (s.withMem m l h).history = h := rfl
@[simp] theorem State.withMem_r (s : State) (m : Memory) (l : List Nat) (h : List CacheEvent) (n : Reg) :
    (s.withMem m l h).r n = s.r n := rfl
@[simp] theorem State.withMem_jq (s : State) (m : Memory) (l : List Nat) (h : List CacheEvent) :
    (s.withMem m l h).jq = s.jq := rfl
@[simp] theorem State.withMem_dq (s : State) (m : Memory) (l : List Nat) (h : List CacheEvent) :
    (s.withMem m l h).dq = s.dq := rfl
@[simp] theorem State.withMem_setT (s : State) (m : Memory) (l : List Nat) (h : List CacheEvent) (b : Bool) :
    (s.withMem m l h).setT b = (s.setT b).withMem m l h := rfl

@[simp] theorem State.withMem_setR (s : State) (m : Memory) (l : List Nat) (h : List CacheEvent) (n : Reg) (v : Quad) :
    (s.withMem m l h).setR n v = (s.setR n v).withMem m l h := by
  have hb : (s.withMem m l h).bankB = s.bankB := rfl
  unfold State.setR
  rw [hb]
  cases n.getLsbD 3 <;> cases s.bankB <;> rfl

@[simp] theorem State.withMem_setHalf (s : State) (m : Memory) (l : List Nat) (h : List CacheEvent) (x : Bool) (n : Reg) (v : Dword) :
    (s.withMem m l h).setHalf x n v = (s.setHalf x n v).withMem m l h := by
  simp [State.setHalf]

@[simp] theorem State.withMem_writeA (s : State) (m : Memory) (l : List Nat) (h : List CacheEvent) (n : Reg) (v : Quad) :
    (s.withMem m l h).writeA n v = (s.writeA n v).withMem m l h := by
  unfold State.writeA
  rw [State.withMem_jq]
  cases s.jq <;> simp

@[simp] theorem State.withMem_writeW (s : State) (m : Memory) (l : List Nat) (h : List CacheEvent) (n : Reg) (v : Quad) (w : Dword) :
    (s.withMem m l h).writeW n v w = (s.writeW n v w).withMem m l h := by
  unfold State.writeW
  rw [State.withMem_dq]
  cases s.dq <;> simp

@[simp] theorem State.withMem_advance (s : State) (m : Memory) (l : List Nat) (h : List CacheEvent) (p n : Quad) :
    (s.withMem m l h).advance p n = (s.advance p n).withMem m l h := by
  have hd : (s.withMem m l h).ds = s.ds := rfl
  unfold State.advance
  rw [hd]
  cases s.ds <;> rfl

/-- States that differ in memory, STALE and the history alone. -/
theorem State.agrees_withMem (s : State) (m : Memory) (l : List Nat) (h : List CacheEvent) : (s.withMem m l h).AgreesOffMemory s := by
  unfold State.AgreesOffMemory
  simp [State.withMem]

/-- A state that a store and then `u` reached. -/
theorem State.stored_withMem {s : State} (h : Memory.wf s.mem) (u : State) (a : Quad) (p n : Nat) (v : Quad) :
    s.StoredIn (u.withMem (putMem s.mem p (toBytes s.cfg.endian n v))
      (putStale (fun x => (s.addr x).toNat) s.stale a n) (putHistory s.history s.mem p (toBytes s.cfg.endian n v)))
      p n a v :=
  State.storedIn_putBytes h a p n v (by rw [State.putBytes_eq]; rfl) (by rw [State.putBytes_eq]; simp)
    (by rw [State.putBytes_eq]; rfl)

/-- `putBytes` as one update. -/
theorem State.putBytes_withMem (s : State) (a : Quad) (p : Nat) (bs : List Byte) :
    s.putBytes a p bs = s.withMem (putMem s.mem p bs) (putStale (fun x => (s.addr x).toNat) s.stale a bs.length)
      (putHistory s.history s.mem p bs) :=
  State.putBytes_eq s a p bs

/-! ### How an instruction ends -/

theorem short_ok (w : IWord) (s u : State) : short w s (.ok u) = .next (s.done16 u) := rfl

theorem short_error (w : IWord) (s : State) (e : Exc) :
    short w s (.error (.exc e)) = .next (s.takeException w e) := rfl

theorem noSlot_ok {s : State} (h : s.ds = none) (w : IWord) (u : State) : noSlot w s (.ok u) = .next u := by
  simp [noSlot, h, settle]

/-- An illegal instruction is one in a delay slot too. -/
theorem noSlot_error_illegal (w : IWord) (s : State) :
    noSlot w s (.error (.exc .illegal)) = .next (s.takeException w .illegal) := by
  unfold noSlot
  split <;> rfl

theorem noSlot_error {s : State} (h : s.ds = none) (w : IWord) (e : Exc) :
    noSlot w s (.error (.exc e)) = .next (s.takeException w e) := by
  simp [noSlot, h, settle]

/-- In a delay slot a form that may not stand there is an illegal instruction (rule R501). -/
theorem noSlot_slot {s : State} (h : s.ds.isSome = true) (w : IWord) (r : Res State) :
    noSlot w s r = .next (s.takeException w .illegal) := by
  simp [noSlot, h, illegal, settle]

theorem shortNoSlot_ok {s : State} (h : s.ds = none) (w : IWord) (u : State) :
    shortNoSlot w s (.ok u) = .next (s.done16 u) := noSlot_ok h w _

theorem wide_ok {s : State} (h : s.ds = none) (w : IWord) (u : State) : wide w s (.ok u) = .next (s.done32 u) :=
  noSlot_ok h w _

theorem wide_error {s : State} (h : s.ds = none) (w : IWord) (e : Exc) :
    wide w s (.error (.exc e)) = .next (s.takeException w e) := noSlot_error h w e

theorem wide_illegal (w : IWord) (s : State) : wide w s illegal = .next (s.takeException w .illegal) :=
  noSlot_error_illegal w s

theorem short_illegal (w : IWord) (s : State) : short w s illegal = .next (s.takeException w .illegal) := rfl

/-- Without a pending branch the end of an instruction is a new PC alone. -/
theorem State.advance_none {s : State} (h : s.ds = none) (p l : Quad) :
    s.advance p l = { s with pc := s.addr (p + l) } := by
  unfold State.advance
  rw [h]

/-- In a delay slot the end of an instruction is the branch. -/
theorem State.advance_some {s : State} {d : DelaySlot} (h : s.ds = some d) (p l : Quad) :
    s.advance p l = { s with pc := s.addr d.target, ds := none } := by
  unfold State.advance
  rw [h]

end Sys2Proof.Machine
end

