-- ==== Sys2Proof/Laws/Bits.lean ====
section
/-! SUPPORT. Laws/Bits.lean: the shifts, rotates and multiply-accumulate results in the form the rules write them. -/
namespace Sys2Proof.Machine

/-- SHAD at every count (rule R461). -/
theorem shiftArith_eq_rule (w : Nat) (x : BitVec w) (c : Int) : shiftArith w x c = shadRule w x c := by
  unfold shiftArith shadRule
  dsimp only
  split
  · rfl
  · split
    · rename_i h
      rw [h]
      simp only [Int.toNat_zero, Nat.sub_zero]
      ext i hi
      rw [BitVec.getElem_sshiftRight]
      split
      · omega
      · split <;> simp_all
    · rfl

/-- SHLD at every count (rule R462). -/
theorem shiftLogic_eq_rule (w : Nat) (x : BitVec w) (c : Int) : shiftLogic w x c = shldRule w x c := by
  unfold shiftLogic shldRule
  dsimp only
  split
  · rfl
  · split
    · rename_i h
      rw [h]
      exact BitVec.eq_of_getLsbD_eq fun i hi => by simp
    · rfl

/-- A nonnegative signed value is its unsigned one. -/
theorem toInt_of_nonneg {w : Nat} {b : BitVec w} (h : 0 ≤ b.toInt) : b.toInt = b.toNat := by
  rw [BitVec.toInt_eq_toNat_cond] at h ⊢
  split at h
  · rw [if_pos ‹_›]
  · have := b.isLt
    omega

/-- The negated count of a right shift, reduced modulo the width. -/
theorem neg_emod_width {w k : Nat} (h : 0 < w) :
    (-(k : Int)) % (w : Int) = if k % w = 0 then 0 else ((w - k % w : Nat) : Int) := by
  have hk := Nat.mod_lt k h
  have e : (k : Int) = w * (k / w : Nat) + (k % w : Nat) := by exact_mod_cast (Nat.div_add_mod k w).symm
  split
  · rename_i hz
    rw [e, hz]
    simp
  · rename_i hz
    have : -(k : Int) = ((w - k % w : Nat) : Int) + w * (-(k / w : Nat) - 1) := by
      rw [Int.mul_sub, Int.mul_neg]
      omega
    rw [this, Int.add_mul_emod_self_left]
    exact Int.emod_eq_of_lt (by omega) (by omega)

/-- Three-address SHLR for a count that is not negative (rule R924). -/
theorem aluShlr_eq {w : Nat} (h : 0 < w) (a b : BitVec w) (hb : 0 ≤ b.toInt) :
    aluShlr w a b = if b = 0 then a else if b.toNat % w = 0 then 0 else a >>> (b.toNat % w) := by
  have e := toInt_of_nonneg hb
  have hlt := Nat.mod_lt b.toNat h
  unfold aluShlr
  rw [e]
  by_cases h0 : b = 0
  · rw [if_pos h0, if_pos (by rw [h0]; rfl)]
  · have hn : b.toNat ≠ 0 := fun hz => h0 (BitVec.eq_of_toNat_eq (by simpa using hz))
    rw [if_neg (by omega), if_neg h0, shiftLogic_eq_rule, shldRule, if_neg (by omega), neg_emod_width h]
    by_cases hz : b.toNat % w = 0
    · rw [if_pos hz, if_pos rfl, if_pos hz]
    · rw [if_neg hz, if_neg (by omega), if_neg hz]
      congr 1
      omega

/-- Three-address SHAR for a count that is not negative (rule R927). -/
theorem aluShar_eq {w : Nat} (h : 0 < w) (a b : BitVec w) (hb : 0 ≤ b.toInt) :
    aluShar w a b =
      if b = 0 then a
      else if b.toNat % w = 0 then (if a.msb then BitVec.allOnes w else 0)
      else a.sshiftRight (b.toNat % w) := by
  have e := toInt_of_nonneg hb
  have hlt := Nat.mod_lt b.toNat h
  unfold aluShar
  rw [e]
  by_cases h0 : b = 0
  · rw [if_pos h0, if_pos (by rw [h0]; rfl)]
  · have hn : b.toNat ≠ 0 := fun hz => h0 (BitVec.eq_of_toNat_eq (by simpa using hz))
    rw [if_neg (by omega), if_neg h0, shiftArith_eq_rule, shadRule, if_neg (by omega), neg_emod_width h]
    by_cases hz : b.toNat % w = 0
    · rw [if_pos hz, if_pos rfl, if_pos hz]
    · rw [if_neg hz, if_neg (by omega), if_neg hz]
      congr 1
      omega

/-- A bit shifted in at the bottom. -/
theorem shiftInLow_fst (w : Nat) (x : BitVec w) (b : Bool) :
    (shiftInLow w x b).1 = (x <<< 1) ||| (if b then 1 else 0) := by
  cases b
  · simp [shiftInLow]
  · simp only [shiftInLow, if_true]
    congr 1
    refine BitVec.eq_of_getLsbD_eq fun i hi => ?_
    by_cases h : i = 0 <;> simp [h, show 0 < w by omega]

/-- A bit shifted in at the top. -/
theorem shiftInHigh_fst {w : Nat} (h : 0 < w) (x : BitVec w) (b : Bool) :
    (shiftInHigh w x b).1 = (x >>> 1) ||| (if b then BitVec.twoPow w (w - 1) else 0) := by
  cases b
  · simp [shiftInHigh]
  · simp only [shiftInHigh, if_true]
    congr 1
    refine BitVec.eq_of_getLsbD_eq fun i hi => ?_
    rw [BitVec.getLsbD_twoPow, BitVec.getLsbD_shiftLeft]
    by_cases hw : i = w - 1
    · subst hw
      simp [h]
    · have hlt : i < w - 1 := by omega
      simp [hlt, Ne.symm hw]

/-- Rotate left by one (rule R467). -/
theorem aluRotl_fst {w : Nat} (h : 1 < w) (x : BitVec w) (t : Bool) : (aluRotl w x t).1 = x.rotateLeft 1 := by
  rw [aluRotl, shiftInLow_fst]
  refine BitVec.eq_of_getLsbD_eq fun i hi => ?_
  rw [BitVec.getLsbD_rotateLeft, Nat.mod_eq_of_lt h, BitVec.getLsbD_or, BitVec.getLsbD_shiftLeft]
  by_cases h0 : i = 0
  · subst h0
    cases hx : x.getLsbD (w - 1) <;> simp [show 0 < w by omega]
  · cases hx : x.getLsbD (w - 1) <;> simp [hi, show ¬ i < 1 by omega, h0]

/-- Rotate right by one (rule R468). -/
theorem aluRotr_fst {w : Nat} (h : 1 < w) (x : BitVec w) (t : Bool) : (aluRotr w x t).1 = x.rotateRight 1 := by
  rw [aluRotr, shiftInHigh_fst (by omega)]
  refine BitVec.eq_of_getLsbD_eq fun i hi => ?_
  rw [BitVec.getLsbD_rotateRight, Nat.mod_eq_of_lt h, BitVec.getLsbD_or, BitVec.getLsbD_ushiftRight]
  by_cases hw : i = w - 1
  · subst hw
    have e : x.getLsbD (1 + (w - 1)) = false := BitVec.getLsbD_of_ge _ _ (by omega)
    rw [e, decide_eq_false (by omega), cond_false, Nat.sub_self, decide_eq_true hi, Bool.true_and, Bool.false_or]
    cases x.getLsbD 0
    · simp
    · rw [if_pos rfl, BitVec.getLsbD_twoPow, decide_eq_true hi, decide_eq_true rfl, Bool.and_self]
  · rw [decide_eq_true (by omega : i < w - 1), cond_true]
    cases x.getLsbD 0
    · simp
    · rw [if_pos rfl, BitVec.getLsbD_twoPow, decide_eq_false (Ne.symm hw), Bool.and_false, Bool.or_false]

/-- MAC.L clamps the sum to 48 bits when S is set (rule R398). -/
theorem macLong_eq (sat : Bool) (acc p : Int) :
    macLong sat acc p =
      BitVec.ofInt 64 (if sat then max (-(2 ^ 47)) (min (2 ^ 47 - 1) (acc + p)) else acc + p) := by
  unfold macLong
  dsimp only
  split
  · split
    · congr 1
      omega
    · split
      · congr 1
        omega
      · congr 1
        omega
  · rfl

end Sys2Proof.Machine
end

