-- ==== Sys2Proof/Laws/Dispatch.lean ====
section
/-! SUPPORT. Laws/Dispatch.lean: what `exec` calls for each constructor, so that no proof unfolds the dispatch. -/
namespace Sys2Proof.Machine

theorem exec_movRmRn (n : BitVec 4) (m : BitVec 4) (s : State) :
    exec (.movRmRn n m) s = execMovRmRn n m s := rfl
theorem exec_movImmRn (n : BitVec 4) (imm : BitVec 8) (s : State) :
    exec (.movImmRn n imm) s = execMovImmRn n imm s := rfl
theorem exec_movBRmAtRn (n : BitVec 4) (m : BitVec 4) (s : State) :
    exec (.movBRmAtRn n m) s = execMovBRmAtRn n m s := rfl
theorem exec_movWQRmAtRn (n : BitVec 4) (m : BitVec 4) (s : State) :
    exec (.movWQRmAtRn n m) s = execMovWQRmAtRn n m s := rfl
theorem exec_movLRmAtRn (n : BitVec 4) (m : BitVec 4) (s : State) :
    exec (.movLRmAtRn n m) s = execMovLRmAtRn n m s := rfl
theorem exec_movBAtRmRn (n : BitVec 4) (m : BitVec 4) (s : State) :
    exec (.movBAtRmRn n m) s = execMovBAtRmRn n m s := rfl
theorem exec_movWQAtRmRn (n : BitVec 4) (m : BitVec 4) (s : State) :
    exec (.movWQAtRmRn n m) s = execMovWQAtRmRn n m s := rfl
theorem exec_movLAtRmRn (n : BitVec 4) (m : BitVec 4) (s : State) :
    exec (.movLAtRmRn n m) s = execMovLAtRmRn n m s := rfl
theorem exec_movBRmAtDecRn (n : BitVec 4) (m : BitVec 4) (s : State) :
    exec (.movBRmAtDecRn n m) s = execMovBRmAtDecRn n m s := rfl
theorem exec_movWQRmAtDecRn (n : BitVec 4) (m : BitVec 4) (s : State) :
    exec (.movWQRmAtDecRn n m) s = execMovWQRmAtDecRn n m s := rfl
theorem exec_movLRmAtDecRn (n : BitVec 4) (m : BitVec 4) (s : State) :
    exec (.movLRmAtDecRn n m) s = execMovLRmAtDecRn n m s := rfl
theorem exec_movBAtRmIncRn (n : BitVec 4) (m : BitVec 4) (s : State) :
    exec (.movBAtRmIncRn n m) s = execMovBAtRmIncRn n m s := rfl
theorem exec_movWQAtRmIncRn (n : BitVec 4) (m : BitVec 4) (s : State) :
    exec (.movWQAtRmIncRn n m) s = execMovWQAtRmIncRn n m s := rfl
theorem exec_movLAtRmIncRn (n : BitVec 4) (m : BitVec 4) (s : State) :
    exec (.movLAtRmIncRn n m) s = execMovLAtRmIncRn n m s := rfl
theorem exec_movBRmAtR0Rn (n : BitVec 4) (m : BitVec 4) (s : State) :
    exec (.movBRmAtR0Rn n m) s = execMovBRmAtR0Rn n m s := rfl
theorem exec_movWQRmAtR0Rn (n : BitVec 4) (m : BitVec 4) (s : State) :
    exec (.movWQRmAtR0Rn n m) s = execMovWQRmAtR0Rn n m s := rfl
theorem exec_movLRmAtR0Rn (n : BitVec 4) (m : BitVec 4) (s : State) :
    exec (.movLRmAtR0Rn n m) s = execMovLRmAtR0Rn n m s := rfl
theorem exec_movBAtR0RmRn (n : BitVec 4) (m : BitVec 4) (s : State) :
    exec (.movBAtR0RmRn n m) s = execMovBAtR0RmRn n m s := rfl
theorem exec_movWQAtR0RmRn (n : BitVec 4) (m : BitVec 4) (s : State) :
    exec (.movWQAtR0RmRn n m) s = execMovWQAtR0RmRn n m s := rfl
theorem exec_movLAtR0RmRn (n : BitVec 4) (m : BitVec 4) (s : State) :
    exec (.movLAtR0RmRn n m) s = execMovLAtR0RmRn n m s := rfl
theorem exec_movLRmAtRnDisp (n : BitVec 4) (m : BitVec 4) (disp : BitVec 4) (s : State) :
    exec (.movLRmAtRnDisp n m disp) s = execMovLRmAtRnDisp n m disp s := rfl
theorem exec_movLAtRmDispRn (n : BitVec 4) (m : BitVec 4) (disp : BitVec 4) (s : State) :
    exec (.movLAtRmDispRn n m disp) s = execMovLAtRmDispRn n m disp s := rfl
theorem exec_movBR0AtRnDisp (n : BitVec 4) (disp : BitVec 4) (s : State) :
    exec (.movBR0AtRnDisp n disp) s = execMovBR0AtRnDisp n disp s := rfl
theorem exec_movWQR0AtRnDisp (n : BitVec 4) (disp : BitVec 4) (s : State) :
    exec (.movWQR0AtRnDisp n disp) s = execMovWQR0AtRnDisp n disp s := rfl
theorem exec_movBAtRmDispR0 (m : BitVec 4) (disp : BitVec 4) (s : State) :
    exec (.movBAtRmDispR0 m disp) s = execMovBAtRmDispR0 m disp s := rfl
theorem exec_movWQAtRmDispR0 (m : BitVec 4) (disp : BitVec 4) (s : State) :
    exec (.movWQAtRmDispR0 m disp) s = execMovWQAtRmDispR0 m disp s := rfl
theorem exec_movWQAtPcDispRn (n : BitVec 4) (disp : BitVec 8) (s : State) :
    exec (.movWQAtPcDispRn n disp) s = execMovWQAtPcDispRn n disp s := rfl
theorem exec_movLAtPcDispRn (n : BitVec 4) (disp : BitVec 8) (s : State) :
    exec (.movLAtPcDispRn n disp) s = execMovLAtPcDispRn n disp s := rfl
theorem exec_movaAtPcDispR0 (disp : BitVec 8) (s : State) :
    exec (.movaAtPcDispR0 disp) s = execMovaAtPcDispR0 disp s := rfl
theorem exec_movBR0AtGbrDisp (disp : BitVec 8) (s : State) :
    exec (.movBR0AtGbrDisp disp) s = execMovBR0AtGbrDisp disp s := rfl
theorem exec_movWQR0AtGbrDisp (disp : BitVec 8) (s : State) :
    exec (.movWQR0AtGbrDisp disp) s = execMovWQR0AtGbrDisp disp s := rfl
theorem exec_movLR0AtGbrDisp (disp : BitVec 8) (s : State) :
    exec (.movLR0AtGbrDisp disp) s = execMovLR0AtGbrDisp disp s := rfl
theorem exec_movBAtGbrDispR0 (disp : BitVec 8) (s : State) :
    exec (.movBAtGbrDispR0 disp) s = execMovBAtGbrDispR0 disp s := rfl
theorem exec_movWQAtGbrDispR0 (disp : BitVec 8) (s : State) :
    exec (.movWQAtGbrDispR0 disp) s = execMovWQAtGbrDispR0 disp s := rfl
theorem exec_movLAtGbrDispR0 (disp : BitVec 8) (s : State) :
    exec (.movLAtGbrDispR0 disp) s = execMovLAtGbrDispR0 disp s := rfl
theorem exec_movBR0AtRnInc (n : BitVec 4) (s : State) :
    exec (.movBR0AtRnInc n) s = execMovBR0AtRnInc n s := rfl
theorem exec_movWQR0AtRnInc (n : BitVec 4) (s : State) :
    exec (.movWQR0AtRnInc n) s = execMovWQR0AtRnInc n s := rfl
theorem exec_movLR0AtRnInc (n : BitVec 4) (s : State) :
    exec (.movLR0AtRnInc n) s = execMovLR0AtRnInc n s := rfl
theorem exec_movBAtDecRmR0 (m : BitVec 4) (s : State) :
    exec (.movBAtDecRmR0 m) s = execMovBAtDecRmR0 m s := rfl
theorem exec_movWQAtDecRmR0 (m : BitVec 4) (s : State) :
    exec (.movWQAtDecRmR0 m) s = execMovWQAtDecRmR0 m s := rfl
theorem exec_movLAtDecRmR0 (m : BitVec 4) (s : State) :
    exec (.movLAtDecRmR0 m) s = execMovLAtDecRmR0 m s := rfl
theorem exec_pushLQRm (m : BitVec 4) (s : State) :
    exec (.pushLQRm m) s = execPushLQRm m s := rfl
theorem exec_popLQRn (n : BitVec 4) (s : State) :
    exec (.popLQRn n) s = execPopLQRn n s := rfl
theorem exec_movQWAtR0Rn (n : BitVec 4) (s : State) :
    exec (.movQWAtR0Rn n) s = execMovQWAtR0Rn n s := rfl
theorem exec_movQWRmAtR0 (m : BitVec 4) (s : State) :
    exec (.movQWRmAtR0 m) s = execMovQWRmAtR0 m s := rfl
theorem exec_movuaLAtRmR0 (m : BitVec 4) (s : State) :
    exec (.movuaLAtRmR0 m) s = execMovuaLAtRmR0 m s := rfl
theorem exec_movuaLAtRmIncR0 (m : BitVec 4) (s : State) :
    exec (.movuaLAtRmIncR0 m) s = execMovuaLAtRmIncR0 m s := rfl
theorem exec_movuaLR0AtRm (m : BitVec 4) (s : State) :
    exec (.movuaLR0AtRm m) s = execMovuaLR0AtRm m s := rfl
theorem exec_movuaLR0AtDecRm (m : BitVec 4) (s : State) :
    exec (.movuaLR0AtDecRm m) s = execMovuaLR0AtDecRm m s := rfl
theorem exec_movtRn (n : BitVec 4) (s : State) :
    exec (.movtRn n) s = execMovtRn n s := rfl
theorem exec_movrtRn (n : BitVec 4) (s : State) :
    exec (.movrtRn n) s = execMovrtRn n s := rfl
theorem exec_swapBRmRn (n : BitVec 4) (m : BitVec 4) (s : State) :
    exec (.swapBRmRn n m) s = execSwapBRmRn n m s := rfl
theorem exec_swapWRmRn (n : BitVec 4) (m : BitVec 4) (s : State) :
    exec (.swapWRmRn n m) s = execSwapWRmRn n m s := rfl
theorem exec_xtrctRmRn (n : BitVec 4) (m : BitVec 4) (s : State) :
    exec (.xtrctRmRn n m) s = execXtrctRmRn n m s := rfl
theorem exec_movLAtPcIncRn (n : BitVec 4) (s : State) :
    exec (.movLAtPcIncRn n) s = execMovLAtPcIncRn n s := rfl
theorem exec_movQAtPcIncRn (n : BitVec 4) (s : State) :
    exec (.movQAtPcIncRn n) s = execMovQAtPcIncRn n s := rfl
theorem exec_addRmRn (n : BitVec 4) (m : BitVec 4) (s : State) :
    exec (.addRmRn n m) s = execAddRmRn n m s := rfl
theorem exec_addImmRn (n : BitVec 4) (imm : BitVec 8) (s : State) :
    exec (.addImmRn n imm) s = execAddImmRn n imm s := rfl
theorem exec_addcRmRn (n : BitVec 4) (m : BitVec 4) (s : State) :
    exec (.addcRmRn n m) s = execAddcRmRn n m s := rfl
theorem exec_addvRmRn (n : BitVec 4) (m : BitVec 4) (s : State) :
    exec (.addvRmRn n m) s = execAddvRmRn n m s := rfl
theorem exec_subRmRn (n : BitVec 4) (m : BitVec 4) (s : State) :
    exec (.subRmRn n m) s = execSubRmRn n m s := rfl
theorem exec_subcRmRn (n : BitVec 4) (m : BitVec 4) (s : State) :
    exec (.subcRmRn n m) s = execSubcRmRn n m s := rfl
theorem exec_subvRmRn (n : BitVec 4) (m : BitVec 4) (s : State) :
    exec (.subvRmRn n m) s = execSubvRmRn n m s := rfl
theorem exec_negRmRn (n : BitVec 4) (m : BitVec 4) (s : State) :
    exec (.negRmRn n m) s = execNegRmRn n m s := rfl
theorem exec_negcRmRn (n : BitVec 4) (m : BitVec 4) (s : State) :
    exec (.negcRmRn n m) s = execNegcRmRn n m s := rfl
theorem exec_cmpeqRmRn (n : BitVec 4) (m : BitVec 4) (s : State) :
    exec (.cmpeqRmRn n m) s = execCmpeqRmRn n m s := rfl
theorem exec_cmphsRmRn (n : BitVec 4) (m : BitVec 4) (s : State) :
    exec (.cmphsRmRn n m) s = execCmphsRmRn n m s := rfl
theorem exec_cmpgeRmRn (n : BitVec 4) (m : BitVec 4) (s : State) :
    exec (.cmpgeRmRn n m) s = execCmpgeRmRn n m s := rfl
theorem exec_cmphiRmRn (n : BitVec 4) (m : BitVec 4) (s : State) :
    exec (.cmphiRmRn n m) s = execCmphiRmRn n m s := rfl
theorem exec_cmpgtRmRn (n : BitVec 4) (m : BitVec 4) (s : State) :
    exec (.cmpgtRmRn n m) s = execCmpgtRmRn n m s := rfl
theorem exec_cmppzRn (n : BitVec 4) (s : State) :
    exec (.cmppzRn n) s = execCmppzRn n s := rfl
theorem exec_cmpplRn (n : BitVec 4) (s : State) :
    exec (.cmpplRn n) s = execCmpplRn n s := rfl
theorem exec_cmpstrRmRn (n : BitVec 4) (m : BitVec 4) (s : State) :
    exec (.cmpstrRmRn n m) s = execCmpstrRmRn n m s := rfl
theorem exec_cmpeqImmR0 (imm : BitVec 8) (s : State) :
    exec (.cmpeqImmR0 imm) s = execCmpeqImmR0 imm s := rfl
theorem exec_dtRn (n : BitVec 4) (s : State) :
    exec (.dtRn n) s = execDtRn n s := rfl
theorem exec_extsBRmRn (n : BitVec 4) (m : BitVec 4) (s : State) :
    exec (.extsBRmRn n m) s = execExtsBRmRn n m s := rfl
theorem exec_extsWRmRn (n : BitVec 4) (m : BitVec 4) (s : State) :
    exec (.extsWRmRn n m) s = execExtsWRmRn n m s := rfl
theorem exec_extuBRmRn (n : BitVec 4) (m : BitVec 4) (s : State) :
    exec (.extuBRmRn n m) s = execExtuBRmRn n m s := rfl
theorem exec_extuWRmRn (n : BitVec 4) (m : BitVec 4) (s : State) :
    exec (.extuWRmRn n m) s = execExtuWRmRn n m s := rfl
theorem exec_mulLRmRn (n : BitVec 4) (m : BitVec 4) (s : State) :
    exec (.mulLRmRn n m) s = execMulLRmRn n m s := rfl
theorem exec_muluWQRmRn (n : BitVec 4) (m : BitVec 4) (s : State) :
    exec (.muluWQRmRn n m) s = execMuluWQRmRn n m s := rfl
theorem exec_mulsWQRmRn (n : BitVec 4) (m : BitVec 4) (s : State) :
    exec (.mulsWQRmRn n m) s = execMulsWQRmRn n m s := rfl
theorem exec_dmuluLRmRn (n : BitVec 4) (m : BitVec 4) (s : State) :
    exec (.dmuluLRmRn n m) s = execDmuluLRmRn n m s := rfl
theorem exec_dmulsLRmRn (n : BitVec 4) (m : BitVec 4) (s : State) :
    exec (.dmulsLRmRn n m) s = execDmulsLRmRn n m s := rfl
theorem exec_div0sRmRn (n : BitVec 4) (m : BitVec 4) (s : State) :
    exec (.div0sRmRn n m) s = execDiv0sRmRn n m s := rfl
theorem exec_div0u (s : State) :
    exec .div0u s = execDiv0u s := rfl
theorem exec_div1RmRn (n : BitVec 4) (m : BitVec 4) (s : State) :
    exec (.div1RmRn n m) s = execDiv1RmRn n m s := rfl
theorem exec_divuR0Rn (n : BitVec 4) (s : State) :
    exec (.divuR0Rn n) s = execDivuR0Rn n s := rfl
theorem exec_divsR0Rn (n : BitVec 4) (s : State) :
    exec (.divsR0Rn n) s = execDivsR0Rn n s := rfl
theorem exec_macLAtRmIncAtRnInc (n : BitVec 4) (m : BitVec 4) (s : State) :
    exec (.macLAtRmIncAtRnInc n m) s = execMacLAtRmIncAtRnInc n m s := rfl
theorem exec_macWQAtRmIncAtRnInc (n : BitVec 4) (m : BitVec 4) (s : State) :
    exec (.macWQAtRmIncAtRnInc n m) s = execMacWQAtRmIncAtRnInc n m s := rfl
theorem exec_andRmRn (n : BitVec 4) (m : BitVec 4) (s : State) :
    exec (.andRmRn n m) s = execAndRmRn n m s := rfl
theorem exec_andImmR0 (imm : BitVec 8) (s : State) :
    exec (.andImmR0 imm) s = execAndImmR0 imm s := rfl
theorem exec_andBImmAtGbrR0 (imm : BitVec 8) (s : State) :
    exec (.andBImmAtGbrR0 imm) s = execAndBImmAtGbrR0 imm s := rfl
theorem exec_orRmRn (n : BitVec 4) (m : BitVec 4) (s : State) :
    exec (.orRmRn n m) s = execOrRmRn n m s := rfl
theorem exec_orImmR0 (imm : BitVec 8) (s : State) :
    exec (.orImmR0 imm) s = execOrImmR0 imm s := rfl
theorem exec_orBImmAtGbrR0 (imm : BitVec 8) (s : State) :
    exec (.orBImmAtGbrR0 imm) s = execOrBImmAtGbrR0 imm s := rfl
theorem exec_xorRmRn (n : BitVec 4) (m : BitVec 4) (s : State) :
    exec (.xorRmRn n m) s = execXorRmRn n m s := rfl
theorem exec_xorImmR0 (imm : BitVec 8) (s : State) :
    exec (.xorImmR0 imm) s = execXorImmR0 imm s := rfl
theorem exec_xorBImmAtGbrR0 (imm : BitVec 8) (s : State) :
    exec (.xorBImmAtGbrR0 imm) s = execXorBImmAtGbrR0 imm s := rfl
theorem exec_tstRmRn (n : BitVec 4) (m : BitVec 4) (s : State) :
    exec (.tstRmRn n m) s = execTstRmRn n m s := rfl
theorem exec_tstImmR0 (imm : BitVec 8) (s : State) :
    exec (.tstImmR0 imm) s = execTstImmR0 imm s := rfl
theorem exec_tstBImmAtGbrR0 (imm : BitVec 8) (s : State) :
    exec (.tstBImmAtGbrR0 imm) s = execTstBImmAtGbrR0 imm s := rfl
theorem exec_notRmRn (n : BitVec 4) (m : BitVec 4) (s : State) :
    exec (.notRmRn n m) s = execNotRmRn n m s := rfl
theorem exec_tasBAtRn (n : BitVec 4) (s : State) :
    exec (.tasBAtRn n) s = execTasBAtRn n s := rfl
theorem exec_shadRmRn (n : BitVec 4) (m : BitVec 4) (s : State) :
    exec (.shadRmRn n m) s = execShadRmRn n m s := rfl
theorem exec_shldRmRn (n : BitVec 4) (m : BitVec 4) (s : State) :
    exec (.shldRmRn n m) s = execShldRmRn n m s := rfl
theorem exec_shllRn (n : BitVec 4) (s : State) :
    exec (.shllRn n) s = execShllRn n s := rfl
theorem exec_shalRn (n : BitVec 4) (s : State) :
    exec (.shalRn n) s = execShalRn n s := rfl
theorem exec_shlrRn (n : BitVec 4) (s : State) :
    exec (.shlrRn n) s = execShlrRn n s := rfl
theorem exec_sharRn (n : BitVec 4) (s : State) :
    exec (.sharRn n) s = execSharRn n s := rfl
theorem exec_rotlRn (n : BitVec 4) (s : State) :
    exec (.rotlRn n) s = execRotlRn n s := rfl
theorem exec_rotrRn (n : BitVec 4) (s : State) :
    exec (.rotrRn n) s = execRotrRn n s := rfl
theorem exec_rotclRn (n : BitVec 4) (s : State) :
    exec (.rotclRn n) s = execRotclRn n s := rfl
theorem exec_rotcrRn (n : BitVec 4) (s : State) :
    exec (.rotcrRn n) s = execRotcrRn n s := rfl
theorem exec_shll2Rn (n : BitVec 4) (s : State) :
    exec (.shll2Rn n) s = execShll2Rn n s := rfl
theorem exec_shll8Rn (n : BitVec 4) (s : State) :
    exec (.shll8Rn n) s = execShll8Rn n s := rfl
theorem exec_shll16Rn (n : BitVec 4) (s : State) :
    exec (.shll16Rn n) s = execShll16Rn n s := rfl
theorem exec_shlr2Rn (n : BitVec 4) (s : State) :
    exec (.shlr2Rn n) s = execShlr2Rn n s := rfl
theorem exec_shlr8Rn (n : BitVec 4) (s : State) :
    exec (.shlr8Rn n) s = execShlr8Rn n s := rfl
theorem exec_shlr16Rn (n : BitVec 4) (s : State) :
    exec (.shlr16Rn n) s = execShlr16Rn n s := rfl
theorem exec_shll4Rn (n : BitVec 4) (s : State) :
    exec (.shll4Rn n) s = execShll4Rn n s := rfl
theorem exec_shlr4Rn (n : BitVec 4) (s : State) :
    exec (.shlr4Rn n) s = execShlr4Rn n s := rfl
theorem exec_shll32Rn (n : BitVec 4) (s : State) :
    exec (.shll32Rn n) s = execShll32Rn n s := rfl
theorem exec_shlr32Rn (n : BitVec 4) (s : State) :
    exec (.shlr32Rn n) s = execShlr32Rn n s := rfl
theorem exec_rot32Rn (n : BitVec 4) (s : State) :
    exec (.rot32Rn n) s = execRot32Rn n s := rfl
theorem exec_movhiR0RHn (n : BitVec 4) (s : State) :
    exec (.movhiR0RHn n) s = execMovhiR0RHn n s := rfl
theorem exec_movhiRHmR0 (m : BitVec 4) (s : State) :
    exec (.movhiRHmR0 m) s = execMovhiRHmR0 m s := rfl
theorem exec_extuLRn (n : BitVec 4) (s : State) :
    exec (.extuLRn n) s = execExtuLRn n s := rfl
theorem exec_extsLRn (n : BitVec 4) (s : State) :
    exec (.extsLRn n) s = execExtsLRn n s := rfl
theorem exec_bt (disp : BitVec 8) (s : State) :
    exec (.bt disp) s = execBt disp s := rfl
theorem exec_bf (disp : BitVec 8) (s : State) :
    exec (.bf disp) s = execBf disp s := rfl
theorem exec_bts (disp : BitVec 8) (s : State) :
    exec (.bts disp) s = execBts disp s := rfl
theorem exec_bfs (disp : BitVec 8) (s : State) :
    exec (.bfs disp) s = execBfs disp s := rfl
theorem exec_bra (disp : BitVec 12) (s : State) :
    exec (.bra disp) s = execBra disp s := rfl
theorem exec_bsr (disp : BitVec 12) (s : State) :
    exec (.bsr disp) s = execBsr disp s := rfl
theorem exec_brafRm (m : BitVec 4) (s : State) :
    exec (.brafRm m) s = execBrafRm m s := rfl
theorem exec_bsrfRm (m : BitVec 4) (s : State) :
    exec (.bsrfRm m) s = execBsrfRm m s := rfl
theorem exec_jmpAtRm (m : BitVec 4) (s : State) :
    exec (.jmpAtRm m) s = execJmpAtRm m s := rfl
theorem exec_jsrAtRm (m : BitVec 4) (s : State) :
    exec (.jsrAtRm m) s = execJsrAtRm m s := rfl
theorem exec_rts (s : State) :
    exec .rts s = execRts s := rfl
theorem exec_rtsn (s : State) :
    exec .rtsn s = execRtsn s := rfl
theorem exec_rtvnRm (m : BitVec 4) (s : State) :
    exec (.rtvnRm m) s = execRtvnRm m s := rfl
theorem exec_jsrnRm (m : BitVec 4) (s : State) :
    exec (.jsrnRm m) s = execJsrnRm m s := rfl
theorem exec_stcSrRn (n : BitVec 4) (s : State) :
    exec (.stcSrRn n) s = execStcSrRn n s := rfl
theorem exec_stcGbrRn (n : BitVec 4) (s : State) :
    exec (.stcGbrRn n) s = execStcGbrRn n s := rfl
theorem exec_stcVbrRn (n : BitVec 4) (s : State) :
    exec (.stcVbrRn n) s = execStcVbrRn n s := rfl
theorem exec_stcSsrRn (n : BitVec 4) (s : State) :
    exec (.stcSsrRn n) s = execStcSsrRn n s := rfl
theorem exec_stcSpcRn (n : BitVec 4) (s : State) :
    exec (.stcSpcRn n) s = execStcSpcRn n s := rfl
theorem exec_stcRmBRn (n : BitVec 4) (b : BitVec 3) (s : State) :
    exec (.stcRmBRn n b) s = execStcRmBRn n b s := rfl
theorem exec_stcSgrRn (n : BitVec 4) (s : State) :
    exec (.stcSgrRn n) s = execStcSgrRn n s := rfl
theorem exec_stcDbrRn (n : BitVec 4) (s : State) :
    exec (.stcDbrRn n) s = execStcDbrRn n s := rfl
theorem exec_stsMachRn (n : BitVec 4) (s : State) :
    exec (.stsMachRn n) s = execStsMachRn n s := rfl
theorem exec_stsMaclRn (n : BitVec 4) (s : State) :
    exec (.stsMaclRn n) s = execStsMaclRn n s := rfl
theorem exec_stsPrRn (n : BitVec 4) (s : State) :
    exec (.stsPrRn n) s = execStsPrRn n s := rfl
theorem exec_stsFpulRn (n : BitVec 4) (s : State) :
    exec (.stsFpulRn n) s = execStsFpulRn n s := rfl
theorem exec_stsFpscrRn (n : BitVec 4) (s : State) :
    exec (.stsFpscrRn n) s = execStsFpscrRn n s := rfl
theorem exec_ldcRmSr (m : BitVec 4) (s : State) :
    exec (.ldcRmSr m) s = execLdcRmSr m s := rfl
theorem exec_ldcRmGbr (m : BitVec 4) (s : State) :
    exec (.ldcRmGbr m) s = execLdcRmGbr m s := rfl
theorem exec_ldcRmVbr (m : BitVec 4) (s : State) :
    exec (.ldcRmVbr m) s = execLdcRmVbr m s := rfl
theorem exec_ldcRmSsr (m : BitVec 4) (s : State) :
    exec (.ldcRmSsr m) s = execLdcRmSsr m s := rfl
theorem exec_ldcRmSpc (m : BitVec 4) (s : State) :
    exec (.ldcRmSpc m) s = execLdcRmSpc m s := rfl
theorem exec_ldcRmRnB (m : BitVec 4) (b : BitVec 3) (s : State) :
    exec (.ldcRmRnB m b) s = execLdcRmRnB m b s := rfl
theorem exec_ldcRmSgr (m : BitVec 4) (s : State) :
    exec (.ldcRmSgr m) s = execLdcRmSgr m s := rfl
theorem exec_ldcRmDbr (m : BitVec 4) (s : State) :
    exec (.ldcRmDbr m) s = execLdcRmDbr m s := rfl
theorem exec_ldsRmMach (m : BitVec 4) (s : State) :
    exec (.ldsRmMach m) s = execLdsRmMach m s := rfl
theorem exec_ldsRmMacl (m : BitVec 4) (s : State) :
    exec (.ldsRmMacl m) s = execLdsRmMacl m s := rfl
theorem exec_ldsRmPr (m : BitVec 4) (s : State) :
    exec (.ldsRmPr m) s = execLdsRmPr m s := rfl
theorem exec_iclrmdDQ (s : State) :
    exec .iclrmdDQ s = execIclrmdDQ s := rfl
theorem exec_iclrmdJQ (s : State) :
    exec .iclrmdJQ s = execIclrmdJQ s := rfl
theorem exec_iclrmdJDQ (s : State) :
    exec .iclrmdJDQ s = execIclrmdJDQ s := rfl
theorem exec_isetmdDQ (s : State) :
    exec .isetmdDQ s = execIsetmdDQ s := rfl
theorem exec_isetmdJQ (s : State) :
    exec .isetmdJQ s = execIsetmdJQ s := rfl
theorem exec_isetmdJDQ (s : State) :
    exec .isetmdJDQ s = execIsetmdJDQ s := rfl
theorem exec_ldsRmFpul (m : BitVec 4) (s : State) :
    exec (.ldsRmFpul m) s = execLdsRmFpul m s := rfl
theorem exec_ldsRmFpscr (m : BitVec 4) (s : State) :
    exec (.ldsRmFpscr m) s = execLdsRmFpscr m s := rfl
theorem exec_clrt (s : State) :
    exec .clrt s = execClrt s := rfl
theorem exec_sett (s : State) :
    exec .sett s = execSett s := rfl
theorem exec_clrs (s : State) :
    exec .clrs s = execClrs s := rfl
theorem exec_sets (s : State) :
    exec .sets s = execSets s := rfl
theorem exec_nott (s : State) :
    exec .nott s = execNott s := rfl
theorem exec_clrmac (s : State) :
    exec .clrmac s = execClrmac s := rfl
theorem exec_nop (imm : BitVec 4) (s : State) :
    exec (.nop imm) s = execNop imm s := rfl
theorem exec_trapaImm (imm : BitVec 8) (s : State) :
    exec (.trapaImm imm) s = execTrapaImm imm s := rfl
theorem exec_rte (s : State) :
    exec .rte s = execRte s := rfl
theorem exec_sleep (s : State) :
    exec .sleep s = execSleep s := rfl
theorem exec_brk (s : State) :
    exec .brk s = execBrk s := rfl
theorem exec_ldtlb (s : State) :
    exec .ldtlb s = execLdtlb s := rfl
theorem exec_resbank (s : State) :
    exec .resbank s = execResbank s := rfl
theorem exec_synco (s : State) :
    exec .synco s = execSynco s := rfl
theorem exec_prefAtRn (n : BitVec 4) (s : State) :
    exec (.prefAtRn n) s = execPrefAtRn n s := rfl
theorem exec_movcaLR0AtRn (n : BitVec 4) (s : State) :
    exec (.movcaLR0AtRn n) s = execMovcaLR0AtRn n s := rfl
theorem exec_icbiAtRn (n : BitVec 4) (s : State) :
    exec (.icbiAtRn n) s = execIcbiAtRn n s := rfl
theorem exec_casLRmRnAtR0 (n : BitVec 4) (m : BitVec 4) (s : State) :
    exec (.casLRmRnAtR0 n m) s = execCasLRmRnAtR0 n m s := rfl
theorem exec_stsLQMachAtDecRn (n : BitVec 4) (s : State) :
    exec (.stsLQMachAtDecRn n) s = execStsLQMachAtDecRn n s := rfl
theorem exec_stsLQMaclAtDecRn (n : BitVec 4) (s : State) :
    exec (.stsLQMaclAtDecRn n) s = execStsLQMaclAtDecRn n s := rfl
theorem exec_stsLQPrAtDecRn (n : BitVec 4) (s : State) :
    exec (.stsLQPrAtDecRn n) s = execStsLQPrAtDecRn n s := rfl
theorem exec_stcLQSgrAtDecRn (n : BitVec 4) (s : State) :
    exec (.stcLQSgrAtDecRn n) s = execStcLQSgrAtDecRn n s := rfl
theorem exec_stsLQFpulAtDecRn (n : BitVec 4) (s : State) :
    exec (.stsLQFpulAtDecRn n) s = execStsLQFpulAtDecRn n s := rfl
theorem exec_stsLQFpscrAtDecRn (n : BitVec 4) (s : State) :
    exec (.stsLQFpscrAtDecRn n) s = execStsLQFpscrAtDecRn n s := rfl
theorem exec_stcLQDbrAtDecRn (n : BitVec 4) (s : State) :
    exec (.stcLQDbrAtDecRn n) s = execStcLQDbrAtDecRn n s := rfl
theorem exec_stcLQSrAtDecRn (n : BitVec 4) (s : State) :
    exec (.stcLQSrAtDecRn n) s = execStcLQSrAtDecRn n s := rfl
theorem exec_stcLQGbrAtDecRn (n : BitVec 4) (s : State) :
    exec (.stcLQGbrAtDecRn n) s = execStcLQGbrAtDecRn n s := rfl
theorem exec_stcLQVbrAtDecRn (n : BitVec 4) (s : State) :
    exec (.stcLQVbrAtDecRn n) s = execStcLQVbrAtDecRn n s := rfl
theorem exec_stcLQSsrAtDecRn (n : BitVec 4) (s : State) :
    exec (.stcLQSsrAtDecRn n) s = execStcLQSsrAtDecRn n s := rfl
theorem exec_stcLQSpcAtDecRn (n : BitVec 4) (s : State) :
    exec (.stcLQSpcAtDecRn n) s = execStcLQSpcAtDecRn n s := rfl
theorem exec_stcLQRmBAtDecRn (n : BitVec 4) (b : BitVec 3) (s : State) :
    exec (.stcLQRmBAtDecRn n b) s = execStcLQRmBAtDecRn n b s := rfl
theorem exec_ldsLQAtRmIncMach (m : BitVec 4) (s : State) :
    exec (.ldsLQAtRmIncMach m) s = execLdsLQAtRmIncMach m s := rfl
theorem exec_ldsLQAtRmIncMacl (m : BitVec 4) (s : State) :
    exec (.ldsLQAtRmIncMacl m) s = execLdsLQAtRmIncMacl m s := rfl
theorem exec_ldsLQAtRmIncPr (m : BitVec 4) (s : State) :
    exec (.ldsLQAtRmIncPr m) s = execLdsLQAtRmIncPr m s := rfl
theorem exec_ldcLQAtRmIncSgr (m : BitVec 4) (s : State) :
    exec (.ldcLQAtRmIncSgr m) s = execLdcLQAtRmIncSgr m s := rfl
theorem exec_ldsLQAtRmIncFpul (m : BitVec 4) (s : State) :
    exec (.ldsLQAtRmIncFpul m) s = execLdsLQAtRmIncFpul m s := rfl
theorem exec_ldsLQAtRmIncFpscr (m : BitVec 4) (s : State) :
    exec (.ldsLQAtRmIncFpscr m) s = execLdsLQAtRmIncFpscr m s := rfl
theorem exec_ldcLQAtRmIncDbr (m : BitVec 4) (s : State) :
    exec (.ldcLQAtRmIncDbr m) s = execLdcLQAtRmIncDbr m s := rfl
theorem exec_ldcLQAtRmIncSr (m : BitVec 4) (s : State) :
    exec (.ldcLQAtRmIncSr m) s = execLdcLQAtRmIncSr m s := rfl
theorem exec_ldcLQAtRmIncGbr (m : BitVec 4) (s : State) :
    exec (.ldcLQAtRmIncGbr m) s = execLdcLQAtRmIncGbr m s := rfl
theorem exec_ldcLQAtRmIncVbr (m : BitVec 4) (s : State) :
    exec (.ldcLQAtRmIncVbr m) s = execLdcLQAtRmIncVbr m s := rfl
theorem exec_ldcLQAtRmIncSsr (m : BitVec 4) (s : State) :
    exec (.ldcLQAtRmIncSsr m) s = execLdcLQAtRmIncSsr m s := rfl
theorem exec_ldcLQAtRmIncSpc (m : BitVec 4) (s : State) :
    exec (.ldcLQAtRmIncSpc m) s = execLdcLQAtRmIncSpc m s := rfl
theorem exec_ldcLQAtRmIncRnB (m : BitVec 4) (b : BitVec 3) (s : State) :
    exec (.ldcLQAtRmIncRnB m b) s = execLdcLQAtRmIncRnB m b s := rfl
theorem exec_faddFRmFRn (n : BitVec 4) (m : BitVec 4) (s : State) :
    exec (.faddFRmFRn n m) s = execFaddFRmFRn n m s := rfl
theorem exec_fsubFRmFRn (n : BitVec 4) (m : BitVec 4) (s : State) :
    exec (.fsubFRmFRn n m) s = execFsubFRmFRn n m s := rfl
theorem exec_fmulFRmFRn (n : BitVec 4) (m : BitVec 4) (s : State) :
    exec (.fmulFRmFRn n m) s = execFmulFRmFRn n m s := rfl
theorem exec_fdivFRmFRn (n : BitVec 4) (m : BitVec 4) (s : State) :
    exec (.fdivFRmFRn n m) s = execFdivFRmFRn n m s := rfl
theorem exec_fcmpeqFRmFRn (n : BitVec 4) (m : BitVec 4) (s : State) :
    exec (.fcmpeqFRmFRn n m) s = execFcmpeqFRmFRn n m s := rfl
theorem exec_fcmpgtFRmFRn (n : BitVec 4) (m : BitVec 4) (s : State) :
    exec (.fcmpgtFRmFRn n m) s = execFcmpgtFRmFRn n m s := rfl
theorem exec_fmovSAtR0RmFRn (n : BitVec 4) (m : BitVec 4) (s : State) :
    exec (.fmovSAtR0RmFRn n m) s = execFmovSAtR0RmFRn n m s := rfl
theorem exec_fmovSFRmAtR0Rn (n : BitVec 4) (m : BitVec 4) (s : State) :
    exec (.fmovSFRmAtR0Rn n m) s = execFmovSFRmAtR0Rn n m s := rfl
theorem exec_fmovSAtRmFRn (n : BitVec 4) (m : BitVec 4) (s : State) :
    exec (.fmovSAtRmFRn n m) s = execFmovSAtRmFRn n m s := rfl
theorem exec_fmovSAtRmIncFRn (n : BitVec 4) (m : BitVec 4) (s : State) :
    exec (.fmovSAtRmIncFRn n m) s = execFmovSAtRmIncFRn n m s := rfl
theorem exec_fmovSFRmAtRn (n : BitVec 4) (m : BitVec 4) (s : State) :
    exec (.fmovSFRmAtRn n m) s = execFmovSFRmAtRn n m s := rfl
theorem exec_fmovSFRmAtDecRn (n : BitVec 4) (m : BitVec 4) (s : State) :
    exec (.fmovSFRmAtDecRn n m) s = execFmovSFRmAtDecRn n m s := rfl
theorem exec_fmovFRmFRn (n : BitVec 4) (m : BitVec 4) (s : State) :
    exec (.fmovFRmFRn n m) s = execFmovFRmFRn n m s := rfl
theorem exec_fstsFRn (n : BitVec 4) (s : State) :
    exec (.fstsFRn n) s = execFstsFRn n s := rfl
theorem exec_fldsFRm (m : BitVec 4) (s : State) :
    exec (.fldsFRm m) s = execFldsFRm m s := rfl
theorem exec_floatFRn (n : BitVec 4) (s : State) :
    exec (.floatFRn n) s = execFloatFRn n s := rfl
theorem exec_ftrcFRm (m : BitVec 4) (s : State) :
    exec (.ftrcFRm m) s = execFtrcFRm m s := rfl
theorem exec_fnegFRn (n : BitVec 4) (s : State) :
    exec (.fnegFRn n) s = execFnegFRn n s := rfl
theorem exec_fabsFRn (n : BitVec 4) (s : State) :
    exec (.fabsFRn n) s = execFabsFRn n s := rfl
theorem exec_fsqrtFRn (n : BitVec 4) (s : State) :
    exec (.fsqrtFRn n) s = execFsqrtFRn n s := rfl
theorem exec_fldi0FRn (n : BitVec 4) (s : State) :
    exec (.fldi0FRn n) s = execFldi0FRn n s := rfl
theorem exec_fldi1FRn (n : BitVec 4) (s : State) :
    exec (.fldi1FRn n) s = execFldi1FRn n s := rfl
theorem exec_fcnvsdFRn (n : BitVec 4) (s : State) :
    exec (.fcnvsdFRn n) s = execFcnvsdFRn n s := rfl
theorem exec_fcnvdsFRm (m : BitVec 4) (s : State) :
    exec (.fcnvdsFRm m) s = execFcnvdsFRm m s := rfl
theorem exec_psetmdImm4 (imm : BitVec 4) (s : State) :
    exec (.psetmdImm4 imm) s = execPsetmdImm4 imm s := rfl
theorem exec_fschg (s : State) :
    exec .fschg s = execFschg s := rfl
theorem exec_fpchg (s : State) :
    exec .fpchg s = execFpchg s := rfl
theorem exec_frchg (s : State) :
    exec .frchg s = execFrchg s := rfl
theorem exec_fmacFRmFRn (n : BitVec 4) (m : BitVec 4) (s : State) :
    exec (.fmacFRmFRn n m) s = execFmacFRmFRn n m s := rfl
theorem exec_xvFmovSAtRmRoFRn (v : BitVec 4) (o : BitVec 4) (n : BitVec 4) (m : BitVec 4) (s : State) :
    exec (.xvFmovSAtRmRoFRn v o n m) s = execXvFmovSAtRmRoFRn v o n m s := rfl
theorem exec_xvFmovSFRmAtRnRo (v : BitVec 4) (o : BitVec 4) (n : BitVec 4) (m : BitVec 4) (s : State) :
    exec (.xvFmovSFRmAtRnRo v o n m) s = execXvFmovSFRmAtRnRo v o n m s := rfl
theorem exec_xvFmovSAtRmDisp4FRn (v : BitVec 4) (disp : BitVec 4) (n : BitVec 4) (m : BitVec 4) (s : State) :
    exec (.xvFmovSAtRmDisp4FRn v disp n m) s = execXvFmovSAtRmDisp4FRn v disp n m s := rfl
theorem exec_xvFmovSAtRmIncFRn (v : BitVec 4) (n : BitVec 4) (m : BitVec 4) (s : State) :
    exec (.xvFmovSAtRmIncFRn v n m) s = execXvFmovSAtRmIncFRn v n m s := rfl
theorem exec_xvFmovSFRmAtRnDisp4 (v : BitVec 4) (disp : BitVec 4) (n : BitVec 4) (m : BitVec 4) (s : State) :
    exec (.xvFmovSFRmAtRnDisp4 v disp n m) s = execXvFmovSFRmAtRnDisp4 v disp n m s := rfl
theorem exec_xvFmovSFRmAtDecRn (v : BitVec 4) (n : BitVec 4) (m : BitVec 4) (s : State) :
    exec (.xvFmovSFRmAtDecRn v n m) s = execXvFmovSFRmAtDecRn v n m s := rfl
theorem exec_xvFmovFRmFRn (v : BitVec 8) (n : BitVec 4) (m : BitVec 4) (s : State) :
    exec (.xvFmovFRmFRn v n m) s = execXvFmovFRmFRn v n m s := rfl
theorem exec_xPsetmdImm12 (imm : BitVec 12) (s : State) :
    exec (.xPsetmdImm12 imm) s = execXPsetmdImm12 imm s := rfl
theorem exec_xMovBRmAtRnRoDisp4 (o : BitVec 4) (disp : BitVec 4) (n : BitVec 4) (m : BitVec 4) (s : State) :
    exec (.xMovBRmAtRnRoDisp4 o disp n m) s = execXMovBRmAtRnRoDisp4 o disp n m s := rfl
theorem exec_xMovWRmAtRnRoDisp4 (o : BitVec 4) (disp : BitVec 4) (n : BitVec 4) (m : BitVec 4) (s : State) :
    exec (.xMovWRmAtRnRoDisp4 o disp n m) s = execXMovWRmAtRnRoDisp4 o disp n m s := rfl
theorem exec_xMovLRmAtRnRoDisp4 (o : BitVec 4) (disp : BitVec 4) (n : BitVec 4) (m : BitVec 4) (s : State) :
    exec (.xMovLRmAtRnRoDisp4 o disp n m) s = execXMovLRmAtRnRoDisp4 o disp n m s := rfl
theorem exec_xMovQRmAtRnRoDisp4 (o : BitVec 4) (disp : BitVec 4) (n : BitVec 4) (m : BitVec 4) (s : State) :
    exec (.xMovQRmAtRnRoDisp4 o disp n m) s = execXMovQRmAtRnRoDisp4 o disp n m s := rfl
theorem exec_xMovBAtRmRoDisp4Rn (o : BitVec 4) (disp : BitVec 4) (n : BitVec 4) (m : BitVec 4) (s : State) :
    exec (.xMovBAtRmRoDisp4Rn o disp n m) s = execXMovBAtRmRoDisp4Rn o disp n m s := rfl
theorem exec_xMovWAtRmRoDisp4Rn (o : BitVec 4) (disp : BitVec 4) (n : BitVec 4) (m : BitVec 4) (s : State) :
    exec (.xMovWAtRmRoDisp4Rn o disp n m) s = execXMovWAtRmRoDisp4Rn o disp n m s := rfl
theorem exec_xMovLAtRmRoDisp4Rn (o : BitVec 4) (disp : BitVec 4) (n : BitVec 4) (m : BitVec 4) (s : State) :
    exec (.xMovLAtRmRoDisp4Rn o disp n m) s = execXMovLAtRmRoDisp4Rn o disp n m s := rfl
theorem exec_xMovQAtRmRoDisp4Rn (o : BitVec 4) (disp : BitVec 4) (n : BitVec 4) (m : BitVec 4) (s : State) :
    exec (.xMovQAtRmRoDisp4Rn o disp n m) s = execXMovQAtRmRoDisp4Rn o disp n m s := rfl
theorem exec_xMovLRmAtRnRoDisp8s (disp : BitVec 8) (n : BitVec 4) (m : BitVec 4) (o : BitVec 4) (s : State) :
    exec (.xMovLRmAtRnRoDisp8s disp n m o) s = execXMovLRmAtRnRoDisp8s disp n m o s := rfl
theorem exec_xMovLAtRmRoDisp8sRn (disp : BitVec 8) (n : BitVec 4) (m : BitVec 4) (o : BitVec 4) (s : State) :
    exec (.xMovLAtRmRoDisp8sRn disp n m o) s = execXMovLAtRmRoDisp8sRn disp n m o s := rfl
theorem exec_xMovBRmAtRnDisp8s (disp : BitVec 8) (n : BitVec 4) (m : BitVec 4) (s : State) :
    exec (.xMovBRmAtRnDisp8s disp n m) s = execXMovBRmAtRnDisp8s disp n m s := rfl
theorem exec_xMovWRmAtRnDisp8s (disp : BitVec 8) (n : BitVec 4) (m : BitVec 4) (s : State) :
    exec (.xMovWRmAtRnDisp8s disp n m) s = execXMovWRmAtRnDisp8s disp n m s := rfl
theorem exec_xMovLRmAtRnDisp8s (disp : BitVec 8) (n : BitVec 4) (m : BitVec 4) (s : State) :
    exec (.xMovLRmAtRnDisp8s disp n m) s = execXMovLRmAtRnDisp8s disp n m s := rfl
theorem exec_xMovQRmAtRnDisp8s (disp : BitVec 8) (n : BitVec 4) (m : BitVec 4) (s : State) :
    exec (.xMovQRmAtRnDisp8s disp n m) s = execXMovQRmAtRnDisp8s disp n m s := rfl
theorem exec_xFmovSFRmAtRnDisp8s (disp : BitVec 8) (n : BitVec 4) (m : BitVec 4) (s : State) :
    exec (.xFmovSFRmAtRnDisp8s disp n m) s = execXFmovSFRmAtRnDisp8s disp n m s := rfl
theorem exec_xFmovDDRmAtRnDisp8s (disp : BitVec 8) (n : BitVec 4) (m : BitVec 4) (s : State) :
    exec (.xFmovDDRmAtRnDisp8s disp n m) s = execXFmovDDRmAtRnDisp8s disp n m s := rfl
theorem exec_xFmovSAtRmDisp8sFRn (disp : BitVec 8) (n : BitVec 4) (m : BitVec 4) (s : State) :
    exec (.xFmovSAtRmDisp8sFRn disp n m) s = execXFmovSAtRmDisp8sFRn disp n m s := rfl
theorem exec_xFmovDAtRmDisp8sDRn (disp : BitVec 8) (n : BitVec 4) (m : BitVec 4) (s : State) :
    exec (.xFmovDAtRmDisp8sDRn disp n m) s = execXFmovDAtRmDisp8sDRn disp n m s := rfl
theorem exec_xAndRmImm8Rn (imm : BitVec 8) (n : BitVec 4) (m : BitVec 4) (s : State) :
    exec (.xAndRmImm8Rn imm n m) s = execXAndRmImm8Rn imm n m s := rfl
theorem exec_xXorRmImm8Rn (imm : BitVec 8) (n : BitVec 4) (m : BitVec 4) (s : State) :
    exec (.xXorRmImm8Rn imm n m) s = execXXorRmImm8Rn imm n m s := rfl
theorem exec_xOrRmImm8Rn (imm : BitVec 8) (n : BitVec 4) (m : BitVec 4) (s : State) :
    exec (.xOrRmImm8Rn imm n m) s = execXOrRmImm8Rn imm n m s := rfl
theorem exec_xMullRmImm8Rn (imm : BitVec 8) (n : BitVec 4) (m : BitVec 4) (s : State) :
    exec (.xMullRmImm8Rn imm n m) s = execXMullRmImm8Rn imm n m s := rfl
theorem exec_xCmpeqImm12Rn (imm : BitVec 12) (n : BitVec 4) (s : State) :
    exec (.xCmpeqImm12Rn imm n) s = execXCmpeqImm12Rn imm n s := rfl
theorem exec_xCmphsImm12Rn (imm : BitVec 12) (n : BitVec 4) (s : State) :
    exec (.xCmphsImm12Rn imm n) s = execXCmphsImm12Rn imm n s := rfl
theorem exec_xCmpgeImm12Rn (imm : BitVec 12) (n : BitVec 4) (s : State) :
    exec (.xCmpgeImm12Rn imm n) s = execXCmpgeImm12Rn imm n s := rfl
theorem exec_xCmphiImm12Rn (imm : BitVec 12) (n : BitVec 4) (s : State) :
    exec (.xCmphiImm12Rn imm n) s = execXCmphiImm12Rn imm n s := rfl
theorem exec_xCmpgtImm12Rn (imm : BitVec 12) (n : BitVec 4) (s : State) :
    exec (.xCmpgtImm12Rn imm n) s = execXCmpgtImm12Rn imm n s := rfl
theorem exec_xSubRmImm8Rn (imm : BitVec 8) (n : BitVec 4) (m : BitVec 4) (s : State) :
    exec (.xSubRmImm8Rn imm n m) s = execXSubRmImm8Rn imm n m s := rfl
theorem exec_xAddRmImm8Rn (imm : BitVec 8) (n : BitVec 4) (m : BitVec 4) (s : State) :
    exec (.xAddRmImm8Rn imm n m) s = execXAddRmImm8Rn imm n m s := rfl
theorem exec_xMovBImmAtRn (imm : BitVec 8) (n : BitVec 4) (s : State) :
    exec (.xMovBImmAtRn imm n) s = execXMovBImmAtRn imm n s := rfl
theorem exec_xMovWImmAtRn (imm : BitVec 8) (n : BitVec 4) (s : State) :
    exec (.xMovWImmAtRn imm n) s = execXMovWImmAtRn imm n s := rfl
theorem exec_xMovLImmAtRn (imm : BitVec 8) (n : BitVec 4) (s : State) :
    exec (.xMovLImmAtRn imm n) s = execXMovLImmAtRn imm n s := rfl
theorem exec_xMovQImmAtRn (imm : BitVec 8) (n : BitVec 4) (s : State) :
    exec (.xMovQImmAtRn imm n) s = execXMovQImmAtRn imm n s := rfl
theorem exec_xMovBImmAtDecRn (imm : BitVec 8) (n : BitVec 4) (s : State) :
    exec (.xMovBImmAtDecRn imm n) s = execXMovBImmAtDecRn imm n s := rfl
theorem exec_xMovWImmAtDecRn (imm : BitVec 8) (n : BitVec 4) (s : State) :
    exec (.xMovWImmAtDecRn imm n) s = execXMovWImmAtDecRn imm n s := rfl
theorem exec_xMovLImmAtDecRn (imm : BitVec 8) (n : BitVec 4) (s : State) :
    exec (.xMovLImmAtDecRn imm n) s = execXMovLImmAtDecRn imm n s := rfl
theorem exec_xMovQImmAtDecRn (imm : BitVec 8) (n : BitVec 4) (s : State) :
    exec (.xMovQImmAtDecRn imm n) s = execXMovQImmAtDecRn imm n s := rfl
theorem exec_xShadRmImmRn (imm : BitVec 8) (n : BitVec 4) (m : BitVec 4) (s : State) :
    exec (.xShadRmImmRn imm n m) s = execXShadRmImmRn imm n m s := rfl
theorem exec_xShldRmImmRn (imm : BitVec 8) (n : BitVec 4) (m : BitVec 4) (s : State) :
    exec (.xShldRmImmRn imm n m) s = execXShldRmImmRn imm n m s := rfl
theorem exec_xMovBAtRmDisp8sRn (disp : BitVec 8) (n : BitVec 4) (m : BitVec 4) (s : State) :
    exec (.xMovBAtRmDisp8sRn disp n m) s = execXMovBAtRmDisp8sRn disp n m s := rfl
theorem exec_xMovWAtRmDisp8sRn (disp : BitVec 8) (n : BitVec 4) (m : BitVec 4) (s : State) :
    exec (.xMovWAtRmDisp8sRn disp n m) s = execXMovWAtRmDisp8sRn disp n m s := rfl
theorem exec_xMovLAtRmDisp8sRn (disp : BitVec 8) (n : BitVec 4) (m : BitVec 4) (s : State) :
    exec (.xMovLAtRmDisp8sRn disp n m) s = execXMovLAtRmDisp8sRn disp n m s := rfl
theorem exec_xMovQAtRmDisp8sRn (disp : BitVec 8) (n : BitVec 4) (m : BitVec 4) (s : State) :
    exec (.xMovQAtRmDisp8sRn disp n m) s = execXMovQAtRmDisp8sRn disp n m s := rfl
theorem exec_xLeaBAtRmRoDisp4Rn (o : BitVec 4) (disp : BitVec 4) (n : BitVec 4) (m : BitVec 4) (s : State) :
    exec (.xLeaBAtRmRoDisp4Rn o disp n m) s = execXLeaBAtRmRoDisp4Rn o disp n m s := rfl
theorem exec_xLeaWAtRmRoDisp4Rn (o : BitVec 4) (disp : BitVec 4) (n : BitVec 4) (m : BitVec 4) (s : State) :
    exec (.xLeaWAtRmRoDisp4Rn o disp n m) s = execXLeaWAtRmRoDisp4Rn o disp n m s := rfl
theorem exec_xLeaLAtRmRoDisp4Rn (o : BitVec 4) (disp : BitVec 4) (n : BitVec 4) (m : BitVec 4) (s : State) :
    exec (.xLeaLAtRmRoDisp4Rn o disp n m) s = execXLeaLAtRmRoDisp4Rn o disp n m s := rfl
theorem exec_xLeaQAtRmRoDisp4Rn (o : BitVec 4) (disp : BitVec 4) (n : BitVec 4) (m : BitVec 4) (s : State) :
    exec (.xLeaQAtRmRoDisp4Rn o disp n m) s = execXLeaQAtRmRoDisp4Rn o disp n m s := rfl
theorem exec_xLeaBAtRmDisp8sRn (disp : BitVec 8) (n : BitVec 4) (m : BitVec 4) (s : State) :
    exec (.xLeaBAtRmDisp8sRn disp n m) s = execXLeaBAtRmDisp8sRn disp n m s := rfl
theorem exec_xLeaWAtRmDisp8sRn (disp : BitVec 8) (n : BitVec 4) (m : BitVec 4) (s : State) :
    exec (.xLeaWAtRmDisp8sRn disp n m) s = execXLeaWAtRmDisp8sRn disp n m s := rfl
theorem exec_xLeaLAtRmDisp8sRn (disp : BitVec 8) (n : BitVec 4) (m : BitVec 4) (s : State) :
    exec (.xLeaLAtRmDisp8sRn disp n m) s = execXLeaLAtRmDisp8sRn disp n m s := rfl
theorem exec_xLeaQAtRmDisp8sRn (disp : BitVec 8) (n : BitVec 4) (m : BitVec 4) (s : State) :
    exec (.xLeaQAtRmDisp8sRn disp n m) s = execXLeaQAtRmDisp8sRn disp n m s := rfl
theorem exec_xMovuBAtRmDisp8sRn (disp : BitVec 8) (n : BitVec 4) (m : BitVec 4) (s : State) :
    exec (.xMovuBAtRmDisp8sRn disp n m) s = execXMovuBAtRmDisp8sRn disp n m s := rfl
theorem exec_xMovuWAtRmDisp8sRn (disp : BitVec 8) (n : BitVec 4) (m : BitVec 4) (s : State) :
    exec (.xMovuWAtRmDisp8sRn disp n m) s = execXMovuWAtRmDisp8sRn disp n m s := rfl
theorem exec_xMovuLAtRmDisp8sRn (disp : BitVec 8) (n : BitVec 4) (m : BitVec 4) (s : State) :
    exec (.xMovuLAtRmDisp8sRn disp n m) s = execXMovuLAtRmDisp8sRn disp n m s := rfl
theorem exec_xAddImm16Rn (imm : BitVec 16) (n : BitVec 4) (s : State) :
    exec (.xAddImm16Rn imm n) s = execXAddImm16Rn imm n s := rfl
theorem exec_xBranDisp16 (disp : BitVec 16) (s : State) :
    exec (.xBranDisp16 disp) s = execXBranDisp16 disp s := rfl
theorem exec_xBsrnDisp16 (disp : BitVec 16) (s : State) :
    exec (.xBsrnDisp16 disp) s = execXBsrnDisp16 disp s := rfl
theorem exec_xCmpeqImm16R0 (imm : BitVec 16) (s : State) :
    exec (.xCmpeqImm16R0 imm) s = execXCmpeqImm16R0 imm s := rfl
theorem exec_xBtDisp16 (disp : BitVec 16) (s : State) :
    exec (.xBtDisp16 disp) s = execXBtDisp16 disp s := rfl
theorem exec_xLdhf16ImmFpul (imm : BitVec 16) (s : State) :
    exec (.xLdhf16ImmFpul imm) s = execXLdhf16ImmFpul imm s := rfl
theorem exec_xBfDisp16 (disp : BitVec 16) (s : State) :
    exec (.xBfDisp16 disp) s = execXBfDisp16 disp s := rfl
theorem exec_xLdsh16ImmR0 (imm : BitVec 16) (s : State) :
    exec (.xLdsh16ImmR0 imm) s = execXLdsh16ImmR0 imm s := rfl
theorem exec_xBtsDisp16 (disp : BitVec 16) (s : State) :
    exec (.xBtsDisp16 disp) s = execXBtsDisp16 disp s := rfl
theorem exec_xBfsDisp16 (disp : BitVec 16) (s : State) :
    exec (.xBfsDisp16 disp) s = execXBfsDisp16 disp s := rfl
theorem exec_xMovaAtPcDisp13Rn (disp : BitVec 13) (n : BitVec 4) (s : State) :
    exec (.xMovaAtPcDisp13Rn disp n) s = execXMovaAtPcDisp13Rn disp n s := rfl
theorem exec_xMovuWAtPcDisp13Rn (disp : BitVec 13) (n : BitVec 4) (s : State) :
    exec (.xMovuWAtPcDisp13Rn disp n) s = execXMovuWAtPcDisp13Rn disp n s := rfl
theorem exec_xFmovSAtPcDisp13FRn (disp : BitVec 13) (n : BitVec 4) (s : State) :
    exec (.xFmovSAtPcDisp13FRn disp n) s = execXFmovSAtPcDisp13FRn disp n s := rfl
theorem exec_xMovuWAtPcDisp13RHn (disp : BitVec 13) (n : BitVec 4) (s : State) :
    exec (.xMovuWAtPcDisp13RHn disp n) s = execXMovuWAtPcDisp13RHn disp n s := rfl
theorem exec_xFmovSAtPcDisp13XFn (disp : BitVec 13) (n : BitVec 4) (s : State) :
    exec (.xFmovSAtPcDisp13XFn disp n) s = execXFmovSAtPcDisp13XFn disp n s := rfl
theorem exec_xMovuWAtPcDisp13RQn (disp : BitVec 13) (n : BitVec 4) (s : State) :
    exec (.xMovuWAtPcDisp13RQn disp n) s = execXMovuWAtPcDisp13RQn disp n s := rfl
theorem exec_xFmovDAtPcDisp13YDn (disp : BitVec 13) (n : BitVec 4) (s : State) :
    exec (.xFmovDAtPcDisp13YDn disp n) s = execXFmovDAtPcDisp13YDn disp n s := rfl
theorem exec_xFmovDAtPcDisp13DRn (disp : BitVec 13) (n : BitVec 4) (s : State) :
    exec (.xFmovDAtPcDisp13DRn disp n) s = execXFmovDAtPcDisp13DRn disp n s := rfl
theorem exec_xBraDisp20 (disp : BitVec 20) (s : State) :
    exec (.xBraDisp20 disp) s = execXBraDisp20 disp s := rfl
theorem exec_xBsrDisp20 (disp : BitVec 20) (s : State) :
    exec (.xBsrDisp20 disp) s = execXBsrDisp20 disp s := rfl
theorem exec_xTstImm12Rn (imm : BitVec 12) (n : BitVec 4) (s : State) :
    exec (.xTstImm12Rn imm n) s = execXTstImm12Rn imm n s := rfl
theorem exec_xAndImm12Rn (imm : BitVec 12) (n : BitVec 4) (s : State) :
    exec (.xAndImm12Rn imm n) s = execXAndImm12Rn imm n s := rfl
theorem exec_xXorImm12Rn (imm : BitVec 12) (n : BitVec 4) (s : State) :
    exec (.xXorImm12Rn imm n) s = execXXorImm12Rn imm n s := rfl
theorem exec_xOrImm12Rn (imm : BitVec 12) (n : BitVec 4) (s : State) :
    exec (.xOrImm12Rn imm n) s = execXOrImm12Rn imm n s := rfl
theorem exec_xMovLAtPcDisp13Rn (disp : BitVec 13) (n : BitVec 4) (s : State) :
    exec (.xMovLAtPcDisp13Rn disp n) s = execXMovLAtPcDisp13Rn disp n s := rfl
theorem exec_xMovWAtPcDisp13Rn (disp : BitVec 13) (n : BitVec 4) (s : State) :
    exec (.xMovWAtPcDisp13Rn disp n) s = execXMovWAtPcDisp13Rn disp n s := rfl
theorem exec_xMovLAtPcDisp13RHn (disp : BitVec 13) (n : BitVec 4) (s : State) :
    exec (.xMovLAtPcDisp13RHn disp n) s = execXMovLAtPcDisp13RHn disp n s := rfl
theorem exec_xMovWAtPcDisp13RHn (disp : BitVec 13) (n : BitVec 4) (s : State) :
    exec (.xMovWAtPcDisp13RHn disp n) s = execXMovWAtPcDisp13RHn disp n s := rfl
theorem exec_xMovLAtPcDisp13RQn (disp : BitVec 13) (n : BitVec 4) (s : State) :
    exec (.xMovLAtPcDisp13RQn disp n) s = execXMovLAtPcDisp13RQn disp n s := rfl
theorem exec_xMovWAtPcDisp13RQn (disp : BitVec 13) (n : BitVec 4) (s : State) :
    exec (.xMovWAtPcDisp13RQn disp n) s = execXMovWAtPcDisp13RQn disp n s := rfl
theorem exec_xMovuLAtPcDisp13RQn (disp : BitVec 13) (n : BitVec 4) (s : State) :
    exec (.xMovuLAtPcDisp13RQn disp n) s = execXMovuLAtPcDisp13RQn disp n s := rfl
theorem exec_xMovQAtPcDisp13RQn (disp : BitVec 13) (n : BitVec 4) (s : State) :
    exec (.xMovQAtPcDisp13RQn disp n) s = execXMovQAtPcDisp13RQn disp n s := rfl
theorem exec_xMovImm16Rn (imm : BitVec 16) (n : BitVec 4) (s : State) :
    exec (.xMovImm16Rn imm n) s = execXMovImm16Rn imm n s := rfl
theorem exec_oMovLRmAtRnDisp5 (nx : Bool) (mx : Bool) (bx : Bool) (n : BitVec 4) (m : BitVec 4) (disp : BitVec 4) (s : State) :
    exec (.oMovLRmAtRnDisp5 nx mx bx n m disp) s = execOMovLRmAtRnDisp5 nx mx bx n m disp s := rfl
theorem exec_oMovQRmAtRnDisp5 (nx : Bool) (mx : Bool) (bx : Bool) (n : BitVec 4) (m : BitVec 4) (disp : BitVec 4) (s : State) :
    exec (.oMovQRmAtRnDisp5 nx mx bx n m disp) s = execOMovQRmAtRnDisp5 nx mx bx n m disp s := rfl
theorem exec_oMovBRmAtRn (q : Bool) (nx : Bool) (mx : Bool) (bx : Bool) (n : BitVec 4) (m : BitVec 4) (s : State) :
    exec (.oMovBRmAtRn q nx mx bx n m) s = execOMovBRmAtRn q nx mx bx n m s := rfl
theorem exec_oMovWRmAtRn (q : Bool) (nx : Bool) (mx : Bool) (bx : Bool) (n : BitVec 4) (m : BitVec 4) (s : State) :
    exec (.oMovWRmAtRn q nx mx bx n m) s = execOMovWRmAtRn q nx mx bx n m s := rfl
theorem exec_oMovLRmAtRn (q : Bool) (nx : Bool) (mx : Bool) (bx : Bool) (n : BitVec 4) (m : BitVec 4) (s : State) :
    exec (.oMovLRmAtRn q nx mx bx n m) s = execOMovLRmAtRn q nx mx bx n m s := rfl
theorem exec_oMovBRmAtDecRn (q : Bool) (nx : Bool) (mx : Bool) (bx : Bool) (n : BitVec 4) (m : BitVec 4) (s : State) :
    exec (.oMovBRmAtDecRn q nx mx bx n m) s = execOMovBRmAtDecRn q nx mx bx n m s := rfl
theorem exec_oMovWRmAtDecRn (q : Bool) (nx : Bool) (mx : Bool) (bx : Bool) (n : BitVec 4) (m : BitVec 4) (s : State) :
    exec (.oMovWRmAtDecRn q nx mx bx n m) s = execOMovWRmAtDecRn q nx mx bx n m s := rfl
theorem exec_oMovLRmAtDecRn (q : Bool) (nx : Bool) (mx : Bool) (bx : Bool) (n : BitVec 4) (m : BitVec 4) (s : State) :
    exec (.oMovLRmAtDecRn q nx mx bx n m) s = execOMovLRmAtDecRn q nx mx bx n m s := rfl
theorem exec_oTstRmRn (q : Bool) (nx : Bool) (mx : Bool) (bx : Bool) (n : BitVec 4) (m : BitVec 4) (s : State) :
    exec (.oTstRmRn q nx mx bx n m) s = execOTstRmRn q nx mx bx n m s := rfl
theorem exec_oAndRmRn (q : Bool) (nx : Bool) (mx : Bool) (bx : Bool) (n : BitVec 4) (m : BitVec 4) (s : State) :
    exec (.oAndRmRn q nx mx bx n m) s = execOAndRmRn q nx mx bx n m s := rfl
theorem exec_oXorRmRn (q : Bool) (nx : Bool) (mx : Bool) (bx : Bool) (n : BitVec 4) (m : BitVec 4) (s : State) :
    exec (.oXorRmRn q nx mx bx n m) s = execOXorRmRn q nx mx bx n m s := rfl
theorem exec_oOrRmRn (q : Bool) (nx : Bool) (mx : Bool) (bx : Bool) (n : BitVec 4) (m : BitVec 4) (s : State) :
    exec (.oOrRmRn q nx mx bx n m) s = execOOrRmRn q nx mx bx n m s := rfl
theorem exec_oCmpeqRmRn (q : Bool) (nx : Bool) (mx : Bool) (bx : Bool) (n : BitVec 4) (m : BitVec 4) (s : State) :
    exec (.oCmpeqRmRn q nx mx bx n m) s = execOCmpeqRmRn q nx mx bx n m s := rfl
theorem exec_oCmphsRmRn (q : Bool) (nx : Bool) (mx : Bool) (bx : Bool) (n : BitVec 4) (m : BitVec 4) (s : State) :
    exec (.oCmphsRmRn q nx mx bx n m) s = execOCmphsRmRn q nx mx bx n m s := rfl
theorem exec_oCmpgeRmRn (q : Bool) (nx : Bool) (mx : Bool) (bx : Bool) (n : BitVec 4) (m : BitVec 4) (s : State) :
    exec (.oCmpgeRmRn q nx mx bx n m) s = execOCmpgeRmRn q nx mx bx n m s := rfl
theorem exec_oCmphiRmRn (q : Bool) (nx : Bool) (mx : Bool) (bx : Bool) (n : BitVec 4) (m : BitVec 4) (s : State) :
    exec (.oCmphiRmRn q nx mx bx n m) s = execOCmphiRmRn q nx mx bx n m s := rfl
theorem exec_oCmpgtRmRn (q : Bool) (nx : Bool) (mx : Bool) (bx : Bool) (n : BitVec 4) (m : BitVec 4) (s : State) :
    exec (.oCmpgtRmRn q nx mx bx n m) s = execOCmpgtRmRn q nx mx bx n m s := rfl
theorem exec_oSubRmRn (q : Bool) (nx : Bool) (mx : Bool) (bx : Bool) (n : BitVec 4) (m : BitVec 4) (s : State) :
    exec (.oSubRmRn q nx mx bx n m) s = execOSubRmRn q nx mx bx n m s := rfl
theorem exec_oSubcRmRn (q : Bool) (nx : Bool) (mx : Bool) (bx : Bool) (n : BitVec 4) (m : BitVec 4) (s : State) :
    exec (.oSubcRmRn q nx mx bx n m) s = execOSubcRmRn q nx mx bx n m s := rfl
theorem exec_oSubvRmRn (q : Bool) (nx : Bool) (mx : Bool) (bx : Bool) (n : BitVec 4) (m : BitVec 4) (s : State) :
    exec (.oSubvRmRn q nx mx bx n m) s = execOSubvRmRn q nx mx bx n m s := rfl
theorem exec_oAddRmRn (q : Bool) (nx : Bool) (mx : Bool) (bx : Bool) (n : BitVec 4) (m : BitVec 4) (s : State) :
    exec (.oAddRmRn q nx mx bx n m) s = execOAddRmRn q nx mx bx n m s := rfl
theorem exec_oAddcRmRn (q : Bool) (nx : Bool) (mx : Bool) (bx : Bool) (n : BitVec 4) (m : BitVec 4) (s : State) :
    exec (.oAddcRmRn q nx mx bx n m) s = execOAddcRmRn q nx mx bx n m s := rfl
theorem exec_oAddvRmRn (q : Bool) (nx : Bool) (mx : Bool) (bx : Bool) (n : BitVec 4) (m : BitVec 4) (s : State) :
    exec (.oAddvRmRn q nx mx bx n m) s = execOAddvRmRn q nx mx bx n m s := rfl
theorem exec_oMovLAtRmDisp5Rn (nx : Bool) (mx : Bool) (bx : Bool) (n : BitVec 4) (m : BitVec 4) (disp : BitVec 4) (s : State) :
    exec (.oMovLAtRmDisp5Rn nx mx bx n m disp) s = execOMovLAtRmDisp5Rn nx mx bx n m disp s := rfl
theorem exec_oMovQAtRmDisp5Rn (nx : Bool) (mx : Bool) (bx : Bool) (n : BitVec 4) (m : BitVec 4) (disp : BitVec 4) (s : State) :
    exec (.oMovQAtRmDisp5Rn nx mx bx n m disp) s = execOMovQAtRmDisp5Rn nx mx bx n m disp s := rfl
theorem exec_oMovBAtRmRn (q : Bool) (nx : Bool) (mx : Bool) (bx : Bool) (n : BitVec 4) (m : BitVec 4) (s : State) :
    exec (.oMovBAtRmRn q nx mx bx n m) s = execOMovBAtRmRn q nx mx bx n m s := rfl
theorem exec_oMovWAtRmRn (q : Bool) (nx : Bool) (mx : Bool) (bx : Bool) (n : BitVec 4) (m : BitVec 4) (s : State) :
    exec (.oMovWAtRmRn q nx mx bx n m) s = execOMovWAtRmRn q nx mx bx n m s := rfl
theorem exec_oMovLAtRmRn (q : Bool) (nx : Bool) (mx : Bool) (bx : Bool) (n : BitVec 4) (m : BitVec 4) (s : State) :
    exec (.oMovLAtRmRn q nx mx bx n m) s = execOMovLAtRmRn q nx mx bx n m s := rfl
theorem exec_oMovRmRn (q : Bool) (nx : Bool) (mx : Bool) (bx : Bool) (n : BitVec 4) (m : BitVec 4) (s : State) :
    exec (.oMovRmRn q nx mx bx n m) s = execOMovRmRn q nx mx bx n m s := rfl
theorem exec_oMovBAtRmIncRn (q : Bool) (nx : Bool) (mx : Bool) (bx : Bool) (n : BitVec 4) (m : BitVec 4) (s : State) :
    exec (.oMovBAtRmIncRn q nx mx bx n m) s = execOMovBAtRmIncRn q nx mx bx n m s := rfl
theorem exec_oMovWAtRmIncRn (q : Bool) (nx : Bool) (mx : Bool) (bx : Bool) (n : BitVec 4) (m : BitVec 4) (s : State) :
    exec (.oMovWAtRmIncRn q nx mx bx n m) s = execOMovWAtRmIncRn q nx mx bx n m s := rfl
theorem exec_oMovLAtRmIncRn (q : Bool) (nx : Bool) (mx : Bool) (bx : Bool) (n : BitVec 4) (m : BitVec 4) (s : State) :
    exec (.oMovLAtRmIncRn q nx mx bx n m) s = execOMovLAtRmIncRn q nx mx bx n m s := rfl
theorem exec_oNotRmRn (q : Bool) (nx : Bool) (mx : Bool) (bx : Bool) (n : BitVec 4) (m : BitVec 4) (s : State) :
    exec (.oNotRmRn q nx mx bx n m) s = execONotRmRn q nx mx bx n m s := rfl
theorem exec_oNegcRmRn (q : Bool) (nx : Bool) (mx : Bool) (bx : Bool) (n : BitVec 4) (m : BitVec 4) (s : State) :
    exec (.oNegcRmRn q nx mx bx n m) s = execONegcRmRn q nx mx bx n m s := rfl
theorem exec_oNegRmRn (q : Bool) (nx : Bool) (mx : Bool) (bx : Bool) (n : BitVec 4) (m : BitVec 4) (s : State) :
    exec (.oNegRmRn q nx mx bx n m) s = execONegRmRn q nx mx bx n m s := rfl
theorem exec_oExtuBRmRn (q : Bool) (nx : Bool) (mx : Bool) (bx : Bool) (n : BitVec 4) (m : BitVec 4) (s : State) :
    exec (.oExtuBRmRn q nx mx bx n m) s = execOExtuBRmRn q nx mx bx n m s := rfl
theorem exec_oExtuWRmRn (q : Bool) (nx : Bool) (mx : Bool) (bx : Bool) (n : BitVec 4) (m : BitVec 4) (s : State) :
    exec (.oExtuWRmRn q nx mx bx n m) s = execOExtuWRmRn q nx mx bx n m s := rfl
theorem exec_oExtsBRmRn (q : Bool) (nx : Bool) (mx : Bool) (bx : Bool) (n : BitVec 4) (m : BitVec 4) (s : State) :
    exec (.oExtsBRmRn q nx mx bx n m) s = execOExtsBRmRn q nx mx bx n m s := rfl
theorem exec_oExtsWRmRn (q : Bool) (nx : Bool) (mx : Bool) (bx : Bool) (n : BitVec 4) (m : BitVec 4) (s : State) :
    exec (.oExtsWRmRn q nx mx bx n m) s = execOExtsWRmRn q nx mx bx n m s := rfl
theorem exec_oMovImm10Rn (q : Bool) (nx : Bool) (mx : Bool) (bx : Bool) (n : BitVec 4) (imm : BitVec 8) (s : State) :
    exec (.oMovImm10Rn q nx mx bx n imm) s = execOMovImm10Rn q nx mx bx n imm s := rfl
theorem exec_tAddRsRtRn (nx : Bool) (sx : Bool) (tx : Bool) (n : BitVec 4) (rs : BitVec 4) (rt : BitVec 4) (s : State) :
    exec (.tAddRsRtRn nx sx tx n rs rt) s = execTAddRsRtRn nx sx tx n rs rt s := rfl
theorem exec_tAddRsRtRnQuad (n : BitVec 4) (rs : BitVec 4) (rt : BitVec 4) (s : State) :
    exec (.tAddRsRtRnQuad n rs rt) s = execTAddRsRtRnQuad n rs rt s := rfl
theorem exec_tAddLRsImm5Rn (tx : Bool) (n : BitVec 4) (rs : BitVec 4) (rt : BitVec 4) (s : State) :
    exec (.tAddLRsImm5Rn tx n rs rt) s = execTAddLRsImm5Rn tx n rs rt s := rfl
theorem exec_tAddQRsImm6Rn (sx : Bool) (tx : Bool) (n : BitVec 4) (rs : BitVec 4) (rt : BitVec 4) (s : State) :
    exec (.tAddQRsImm6Rn sx tx n rs rt) s = execTAddQRsImm6Rn sx tx n rs rt s := rfl
theorem exec_tSubRsRtRn (nx : Bool) (sx : Bool) (tx : Bool) (n : BitVec 4) (rs : BitVec 4) (rt : BitVec 4) (s : State) :
    exec (.tSubRsRtRn nx sx tx n rs rt) s = execTSubRsRtRn nx sx tx n rs rt s := rfl
theorem exec_tSubRsRtRnQuad (n : BitVec 4) (rs : BitVec 4) (rt : BitVec 4) (s : State) :
    exec (.tSubRsRtRnQuad n rs rt) s = execTSubRsRtRnQuad n rs rt s := rfl
theorem exec_tSubLRsImm5Rn (tx : Bool) (n : BitVec 4) (rs : BitVec 4) (rt : BitVec 4) (s : State) :
    exec (.tSubLRsImm5Rn tx n rs rt) s = execTSubLRsImm5Rn tx n rs rt s := rfl
theorem exec_tSubQRsImm6Rn (sx : Bool) (tx : Bool) (n : BitVec 4) (rs : BitVec 4) (rt : BitVec 4) (s : State) :
    exec (.tSubQRsImm6Rn sx tx n rs rt) s = execTSubQRsImm6Rn sx tx n rs rt s := rfl
theorem exec_tMulRsRtRn (nx : Bool) (sx : Bool) (tx : Bool) (n : BitVec 4) (rs : BitVec 4) (rt : BitVec 4) (s : State) :
    exec (.tMulRsRtRn nx sx tx n rs rt) s = execTMulRsRtRn nx sx tx n rs rt s := rfl
theorem exec_tMulRsRtRnQuad (n : BitVec 4) (rs : BitVec 4) (rt : BitVec 4) (s : State) :
    exec (.tMulRsRtRnQuad n rs rt) s = execTMulRsRtRnQuad n rs rt s := rfl
theorem exec_tAndRsRtRn (nx : Bool) (sx : Bool) (tx : Bool) (n : BitVec 4) (rs : BitVec 4) (rt : BitVec 4) (s : State) :
    exec (.tAndRsRtRn nx sx tx n rs rt) s = execTAndRsRtRn nx sx tx n rs rt s := rfl
theorem exec_tAndRsRtRnQuad (n : BitVec 4) (rs : BitVec 4) (rt : BitVec 4) (s : State) :
    exec (.tAndRsRtRnQuad n rs rt) s = execTAndRsRtRnQuad n rs rt s := rfl
theorem exec_tOrRsRtRn (nx : Bool) (sx : Bool) (tx : Bool) (n : BitVec 4) (rs : BitVec 4) (rt : BitVec 4) (s : State) :
    exec (.tOrRsRtRn nx sx tx n rs rt) s = execTOrRsRtRn nx sx tx n rs rt s := rfl
theorem exec_tOrRsRtRnQuad (n : BitVec 4) (rs : BitVec 4) (rt : BitVec 4) (s : State) :
    exec (.tOrRsRtRnQuad n rs rt) s = execTOrRsRtRnQuad n rs rt s := rfl
theorem exec_tXorRsRtRn (nx : Bool) (sx : Bool) (tx : Bool) (n : BitVec 4) (rs : BitVec 4) (rt : BitVec 4) (s : State) :
    exec (.tXorRsRtRn nx sx tx n rs rt) s = execTXorRsRtRn nx sx tx n rs rt s := rfl
theorem exec_tXorRsRtRnQuad (n : BitVec 4) (rs : BitVec 4) (rt : BitVec 4) (s : State) :
    exec (.tXorRsRtRnQuad n rs rt) s = execTXorRsRtRnQuad n rs rt s := rfl
theorem exec_tShllRsRtRn (nx : Bool) (sx : Bool) (tx : Bool) (n : BitVec 4) (rs : BitVec 4) (rt : BitVec 4) (s : State) :
    exec (.tShllRsRtRn nx sx tx n rs rt) s = execTShllRsRtRn nx sx tx n rs rt s := rfl
theorem exec_tShllRsRtRnQuad (n : BitVec 4) (rs : BitVec 4) (rt : BitVec 4) (s : State) :
    exec (.tShllRsRtRnQuad n rs rt) s = execTShllRsRtRnQuad n rs rt s := rfl
theorem exec_tShllLRsImm5Rn (tx : Bool) (n : BitVec 4) (rs : BitVec 4) (rt : BitVec 4) (s : State) :
    exec (.tShllLRsImm5Rn tx n rs rt) s = execTShllLRsImm5Rn tx n rs rt s := rfl
theorem exec_tShllQRsImm6Rn (sx : Bool) (tx : Bool) (n : BitVec 4) (rs : BitVec 4) (rt : BitVec 4) (s : State) :
    exec (.tShllQRsImm6Rn sx tx n rs rt) s = execTShllQRsImm6Rn sx tx n rs rt s := rfl
theorem exec_tShlrRsRtRn (nx : Bool) (sx : Bool) (tx : Bool) (n : BitVec 4) (rs : BitVec 4) (rt : BitVec 4) (s : State) :
    exec (.tShlrRsRtRn nx sx tx n rs rt) s = execTShlrRsRtRn nx sx tx n rs rt s := rfl
theorem exec_tShlrRsRtRnQuad (n : BitVec 4) (rs : BitVec 4) (rt : BitVec 4) (s : State) :
    exec (.tShlrRsRtRnQuad n rs rt) s = execTShlrRsRtRnQuad n rs rt s := rfl
theorem exec_tShlrLRsImm5Rn (tx : Bool) (n : BitVec 4) (rs : BitVec 4) (rt : BitVec 4) (s : State) :
    exec (.tShlrLRsImm5Rn tx n rs rt) s = execTShlrLRsImm5Rn tx n rs rt s := rfl
theorem exec_tShlrQRsImm6Rn (sx : Bool) (tx : Bool) (n : BitVec 4) (rs : BitVec 4) (rt : BitVec 4) (s : State) :
    exec (.tShlrQRsImm6Rn sx tx n rs rt) s = execTShlrQRsImm6Rn sx tx n rs rt s := rfl
theorem exec_tSharRsRtRn (nx : Bool) (sx : Bool) (tx : Bool) (n : BitVec 4) (rs : BitVec 4) (rt : BitVec 4) (s : State) :
    exec (.tSharRsRtRn nx sx tx n rs rt) s = execTSharRsRtRn nx sx tx n rs rt s := rfl
theorem exec_tSharRsRtRnQuad (n : BitVec 4) (rs : BitVec 4) (rt : BitVec 4) (s : State) :
    exec (.tSharRsRtRnQuad n rs rt) s = execTSharRsRtRnQuad n rs rt s := rfl
theorem exec_tSharLRsImm5Rn (tx : Bool) (n : BitVec 4) (rs : BitVec 4) (rt : BitVec 4) (s : State) :
    exec (.tSharLRsImm5Rn tx n rs rt) s = execTSharLRsImm5Rn tx n rs rt s := rfl
theorem exec_tSharQRsImm6Rn (sx : Bool) (tx : Bool) (n : BitVec 4) (rs : BitVec 4) (rt : BitVec 4) (s : State) :
    exec (.tSharQRsImm6Rn sx tx n rs rt) s = execTSharQRsImm6Rn sx tx n rs rt s := rfl
theorem exec_tFaddFRsFRtFRn (q : Bool) (nx : Bool) (sx : Bool) (tx : Bool) (n : BitVec 4) (rs : BitVec 4) (rt : BitVec 4) (s : State) :
    exec (.tFaddFRsFRtFRn q nx sx tx n rs rt) s = execTFaddFRsFRtFRn q nx sx tx n rs rt s := rfl
theorem exec_tFsubFRsFRtFRn (q : Bool) (nx : Bool) (sx : Bool) (tx : Bool) (n : BitVec 4) (rs : BitVec 4) (rt : BitVec 4) (s : State) :
    exec (.tFsubFRsFRtFRn q nx sx tx n rs rt) s = execTFsubFRsFRtFRn q nx sx tx n rs rt s := rfl
theorem exec_tFmulFRsFRtFRn (q : Bool) (nx : Bool) (sx : Bool) (tx : Bool) (n : BitVec 4) (rs : BitVec 4) (rt : BitVec 4) (s : State) :
    exec (.tFmulFRsFRtFRn q nx sx tx n rs rt) s = execTFmulFRsFRtFRn q nx sx tx n rs rt s := rfl
theorem exec_tFdivFRsFRtFRn (q : Bool) (nx : Bool) (sx : Bool) (tx : Bool) (n : BitVec 4) (rs : BitVec 4) (rt : BitVec 4) (s : State) :
    exec (.tFdivFRsFRtFRn q nx sx tx n rs rt) s = execTFdivFRsFRtFRn q nx sx tx n rs rt s := rfl
theorem exec_movi24Imm24R0 (imm : BitVec 24) (s : State) :
    exec (.movi24Imm24R0 imm) s = execMovi24Imm24R0 imm s := rfl
theorem exec_movi20ImmRn (n : BitVec 4) (imm : BitVec 20) (s : State) :
    exec (.movi20ImmRn n imm) s = execMovi20ImmRn n imm s := rfl
theorem exec_movi20sImmRn (n : BitVec 4) (imm : BitVec 20) (s : State) :
    exec (.movi20sImmRn n imm) s = execMovi20sImmRn n imm s := rfl
theorem exec_wMovBRmAtRnDisp (n : BitVec 4) (m : BitVec 4) (disp : BitVec 12) (s : State) :
    exec (.wMovBRmAtRnDisp n m disp) s = execWMovBRmAtRnDisp n m disp s := rfl
theorem exec_wMovWRmAtRnDisp (n : BitVec 4) (m : BitVec 4) (disp : BitVec 12) (s : State) :
    exec (.wMovWRmAtRnDisp n m disp) s = execWMovWRmAtRnDisp n m disp s := rfl
theorem exec_wMovLRmAtRnDisp (n : BitVec 4) (m : BitVec 4) (disp : BitVec 12) (s : State) :
    exec (.wMovLRmAtRnDisp n m disp) s = execWMovLRmAtRnDisp n m disp s := rfl
theorem exec_wFmovSFRmAtRnDisp (n : BitVec 4) (m : BitVec 4) (disp : BitVec 12) (s : State) :
    exec (.wFmovSFRmAtRnDisp n m disp) s = execWFmovSFRmAtRnDisp n m disp s := rfl
theorem exec_wMovBAtRmDispRn (n : BitVec 4) (m : BitVec 4) (disp : BitVec 12) (s : State) :
    exec (.wMovBAtRmDispRn n m disp) s = execWMovBAtRmDispRn n m disp s := rfl
theorem exec_wMovWAtRmDispRn (n : BitVec 4) (m : BitVec 4) (disp : BitVec 12) (s : State) :
    exec (.wMovWAtRmDispRn n m disp) s = execWMovWAtRmDispRn n m disp s := rfl
theorem exec_wMovLAtRmDispRn (n : BitVec 4) (m : BitVec 4) (disp : BitVec 12) (s : State) :
    exec (.wMovLAtRmDispRn n m disp) s = execWMovLAtRmDispRn n m disp s := rfl
theorem exec_wFmovSAtRmDispFRn (n : BitVec 4) (m : BitVec 4) (disp : BitVec 12) (s : State) :
    exec (.wFmovSAtRmDispFRn n m disp) s = execWFmovSAtRmDispFRn n m disp s := rfl
theorem exec_wMovuBAtRmDispRn (n : BitVec 4) (m : BitVec 4) (disp : BitVec 12) (s : State) :
    exec (.wMovuBAtRmDispRn n m disp) s = execWMovuBAtRmDispRn n m disp s := rfl
theorem exec_wMovuWAtRmDispRn (n : BitVec 4) (m : BitVec 4) (disp : BitVec 12) (s : State) :
    exec (.wMovuWAtRmDispRn n m disp) s = execWMovuWAtRmDispRn n m disp s := rfl
theorem exec_zAddQImm48Rn (n : BitVec 4) (imm : BitVec 48) (s : State) :
    exec (.zAddQImm48Rn n imm) s = execZAddQImm48Rn n imm s := rfl
theorem exec_zBraDisp48 (disp : BitVec 48) (s : State) :
    exec (.zBraDisp48 disp) s = execZBraDisp48 disp s := rfl
theorem exec_zBsrDisp48 (disp : BitVec 48) (s : State) :
    exec (.zBsrDisp48 disp) s = execZBsrDisp48 disp s := rfl
theorem exec_zMovQImm48Rn (n : BitVec 4) (imm : BitVec 48) (s : State) :
    exec (.zMovQImm48Rn n imm) s = execZMovQImm48Rn n imm s := rfl
theorem exec_resXpfx1 (p : BitVec 8) (s : State) :
    exec (.resXpfx1 p) s = execResXpfx1 p s := rfl
theorem exec_resXpfx3 (p : BitVec 8) (s : State) :
    exec (.resXpfx3 p) s = execResXpfx3 p s := rfl
theorem exec_resXpfx4 (p : BitVec 8) (s : State) :
    exec (.resXpfx4 p) s = execResXpfx4 p s := rfl
theorem exec_resXpfx5 (p : BitVec 8) (s : State) :
    exec (.resXpfx5 p) s = execResXpfx5 p s := rfl
theorem exec_resXpfy0 (p : BitVec 8) (s : State) :
    exec (.resXpfy0 p) s = execResXpfy0 p s := rfl
theorem exec_resXpfy1 (p : BitVec 8) (s : State) :
    exec (.resXpfy1 p) s = execResXpfy1 p s := rfl
theorem exec_resXpfz1 (p : BitVec 8) (s : State) :
    exec (.resXpfz1 p) s = execResXpfz1 p s := rfl
theorem exec_resXpfv0 (p : BitVec 8) (s : State) :
    exec (.resXpfv0 p) s = execResXpfv0 p s := rfl
theorem exec_res3xx9 (p : BitVec 8) (s : State) :
    exec (.res3xx9 p) s = execRes3xx9 p s := rfl
theorem exec_res8C1x (p : BitVec 4) (s : State) :
    exec (.res8C1x p) s = execRes8C1x p s := rfl
theorem exec_res8C2x (p : BitVec 4) (s : State) :
    exec (.res8C2x p) s = execRes8C2x p s := rfl
theorem exec_res8C4x (p : BitVec 4) (s : State) :
    exec (.res8C4x p) s = execRes8C4x p s := rfl
theorem exec_res8C5x (p : BitVec 4) (s : State) :
    exec (.res8C5x p) s = execRes8C5x p s := rfl
theorem exec_res8C6x (p : BitVec 4) (s : State) :
    exec (.res8C6x p) s = execRes8C6x p s := rfl
theorem exec_res8C7x (p : BitVec 4) (s : State) :
    exec (.res8C7x p) s = execRes8C7x p s := rfl
theorem exec_res8C8x (p : BitVec 7) (s : State) :
    exec (.res8C8x p) s = execRes8C8x p s := rfl
theorem exec_resTacb9 (p : BitVec 4) (r : BitVec 12) (s : State) :
    exec (.resTacb9 p r) s = execResTacb9 p r s := rfl
theorem exec_resTacbA (p : BitVec 4) (r : BitVec 12) (s : State) :
    exec (.resTacbA p r) s = execResTacbA p r s := rfl
theorem exec_resTacbB (p : BitVec 4) (r : BitVec 12) (s : State) :
    exec (.resTacbB p r) s = execResTacbB p r s := rfl

end Sys2Proof.Machine
end

