-- ==== Sys2Proof/Laws/Encoding.lean ====
section
/-! SUPPORT. Laws/Encoding.lean: nibbles and fields taken apart and joined, and words through bytes. -/
namespace Sys2Proof

/-! ### Nibbles -/

/-- A bit of a word from its nibbles. -/
theorem getLsbD_mk4 (a b c d : Nib) (i : Nat) :
    (mk4 a b c d).getLsbD i =
      if i < 4 then d.getLsbD i
      else if i < 8 then c.getLsbD (i - 4)
      else if i < 12 then b.getLsbD (i - 8)
      else a.getLsbD (i - 12) := by
  have h : (mk4 a b c d).getLsbD i = (((a ++ b) ++ c) ++ d : BitVec (4 + 4 + 4 + 4)).getLsbD i := rfl
  rw [h, BitVec.getLsbD_append, BitVec.getLsbD_append, BitVec.getLsbD_append]
  split
  · rfl
  · by_cases h8 : i < 8
    · rw [if_pos (by omega), if_pos h8]
    · rw [if_neg (by omega), if_neg h8, show i - 4 - 4 = i - 8 by omega]
      by_cases h12 : i < 12
      · rw [if_pos (by omega), if_pos h12]
      · rw [if_neg (by omega), if_neg h12, show i - 8 - 4 = i - 12 by omega]

@[simp] theorem nib_mk4_0 (a b c d : Nib) : nib (mk4 a b c d) 0 = d :=
  BitVec.eq_of_getLsbD_eq fun i hi => by
    rw [nib, BitVec.getLsbD_extractLsb', getLsbD_mk4, if_pos (by omega)]
    simp [hi]

@[simp] theorem nib_mk4_1 (a b c d : Nib) : nib (mk4 a b c d) 1 = c :=
  BitVec.eq_of_getLsbD_eq fun i hi => by
    rw [nib, BitVec.getLsbD_extractLsb', getLsbD_mk4, if_neg (by omega), if_pos (by omega)]
    simp [hi]

@[simp] theorem nib_mk4_2 (a b c d : Nib) : nib (mk4 a b c d) 2 = b :=
  BitVec.eq_of_getLsbD_eq fun i hi => by
    rw [nib, BitVec.getLsbD_extractLsb', getLsbD_mk4, if_neg (by omega), if_neg (by omega), if_pos (by omega)]
    simp [hi]

@[simp] theorem nib_mk4_3 (a b c d : Nib) : nib (mk4 a b c d) 3 = a :=
  BitVec.eq_of_getLsbD_eq fun i hi => by
    rw [nib, BitVec.getLsbD_extractLsb', getLsbD_mk4, if_neg (by omega), if_neg (by omega), if_neg (by omega)]
    simp [hi]

/-- The bits of a nibble built from bits. -/
@[simp] theorem getLsbD_bits4_3 (a b c d : Bool) : (bits4 a b c d).getLsbD 3 = a := by revert a b c d; decide
@[simp] theorem getLsbD_bits4_2 (a b c d : Bool) : (bits4 a b c d).getLsbD 2 = b := by revert a b c d; decide
@[simp] theorem getLsbD_bits4_1 (a b c d : Bool) : (bits4 a b c d).getLsbD 1 = c := by revert a b c d; decide
@[simp] theorem getLsbD_bits4_0 (a b c d : Bool) : (bits4 a b c d).getLsbD 0 = d := by revert a b c d; decide

@[simp] theorem getElem_bits4_3 (a b c d : Bool) : (bits4 a b c d)[3] = a := by revert a b c d; decide
@[simp] theorem getElem_bits4_2 (a b c d : Bool) : (bits4 a b c d)[2] = b := by revert a b c d; decide
@[simp] theorem getElem_bits4_1 (a b c d : Bool) : (bits4 a b c d)[1] = c := by revert a b c d; decide
@[simp] theorem getElem_bits4_0 (a b c d : Bool) : (bits4 a b c d)[0] = d := by revert a b c d; decide

/-- The fields of a nibble of three bits and one. -/
@[simp] theorem extract_join31_hi (p : BitVec 3) (x : BitVec 1) : (p ++ x : BitVec (3 + 1)).extractLsb' 1 3 = p := by
  revert p x; decide
@[simp] theorem extract_join31_lo (p : BitVec 3) (x : BitVec 1) : (p ++ x : BitVec (3 + 1)).extractLsb' 0 1 = x := by
  revert p x; decide

/-- The fields of a nibble of one bit and three. -/
@[simp] theorem extract_join13_hi (x : BitVec 1) (p : BitVec 3) : (x ++ p : BitVec (1 + 3)).extractLsb' 3 1 = x := by
  revert p x; decide
@[simp] theorem extract_join13_lo (x : BitVec 1) (p : BitVec 3) : (x ++ p : BitVec (1 + 3)).extractLsb' 0 3 = p := by
  revert p x; decide

/-! ### Fields -/

/-- Two neighbouring fields of a value joined. -/
theorem join_fields {w : Nat} (x : BitVec w) (s k l : Nat) :
    x.extractLsb' (s + l) k ++ x.extractLsb' s l = x.extractLsb' s (k + l) :=
  BitVec.eq_of_getLsbD_eq fun i hi => by
    rw [BitVec.getLsbD_append, BitVec.getLsbD_extractLsb', BitVec.getLsbD_extractLsb', BitVec.getLsbD_extractLsb']
    by_cases h : i < l
    · rw [if_pos h, decide_eq_true h, decide_eq_true (by omega : i < k + l)]
    · rw [if_neg h, decide_eq_true (by omega : i - l < k), decide_eq_true (by omega : i < k + l),
        show s + l + (i - l) = s + i by omega]

/-- All the bits of a value. -/
theorem whole_field {w : Nat} (x : BitVec w) : x.extractLsb' 0 w = x :=
  BitVec.eq_of_getLsbD_eq fun i hi => by rw [BitVec.getLsbD_extractLsb', decide_eq_true hi, Nat.zero_add, Bool.true_and]

/-- An eight-bit field from its two nibbles. -/
@[simp] theorem join8 (x : BitVec 8) : (x.extractLsb' 4 4 ++ x.extractLsb' 0 4 : BitVec (4 + 4)) = x := by
  rw [join_fields x 0 4 4]
  exact whole_field x

/-- A twelve-bit field from its three nibbles. -/
@[simp] theorem join12 (x : BitVec 12) :
    (x.extractLsb' 8 4 ++ x.extractLsb' 4 4 ++ x.extractLsb' 0 4 : BitVec (4 + 4 + 4)) = x := by
  rw [join_fields x 4 4 4, join_fields x 0 (4 + 4) 4]
  exact whole_field x

/-- A thirteen-bit field from its bit and three nibbles. -/
@[simp] theorem join13 (x : BitVec 13) :
    (x.extractLsb' 12 1 ++ x.extractLsb' 8 4 ++ x.extractLsb' 4 4 ++ x.extractLsb' 0 4 : BitVec (1 + 4 + 4 + 4)) = x := by
  rw [join_fields x 8 1 4, join_fields x 4 (1 + 4) 4, join_fields x 0 (1 + 4 + 4) 4]
  exact whole_field x

/-- A sixteen-bit field from its four nibbles. -/
@[simp] theorem join16 (x : BitVec 16) :
    (x.extractLsb' 12 4 ++ x.extractLsb' 8 4 ++ x.extractLsb' 4 4 ++ x.extractLsb' 0 4 : BitVec (4 + 4 + 4 + 4)) = x := by
  rw [join_fields x 8 4 4, join_fields x 4 (4 + 4) 4, join_fields x 0 (4 + 4 + 4) 4]
  exact whole_field x

/-- A twenty-bit field from its five nibbles. -/
@[simp] theorem join20 (x : BitVec 20) :
    (x.extractLsb' 16 4 ++ x.extractLsb' 12 4 ++ x.extractLsb' 8 4 ++ x.extractLsb' 4 4 ++ x.extractLsb' 0 4 :
      BitVec (4 + 4 + 4 + 4 + 4)) = x := by
  rw [join_fields x 12 4 4, join_fields x 8 (4 + 4) 4, join_fields x 4 (4 + 4 + 4) 4, join_fields x 0 (4 + 4 + 4 + 4) 4]
  exact whole_field x

/-- A twenty-four-bit field from its six nibbles. -/
@[simp] theorem join24 (x : BitVec 24) :
    (x.extractLsb' 20 4 ++ x.extractLsb' 16 4 ++ x.extractLsb' 12 4 ++ x.extractLsb' 8 4 ++ x.extractLsb' 4 4 ++
      x.extractLsb' 0 4 : BitVec (4 + 4 + 4 + 4 + 4 + 4)) = x := by
  rw [join_fields x 16 4 4, join_fields x 12 (4 + 4) 4, join_fields x 8 (4 + 4 + 4) 4, join_fields x 4 (4 + 4 + 4 + 4) 4,
    join_fields x 0 (4 + 4 + 4 + 4 + 4) 4]
  exact whole_field x

/-- A word from four nibbles of a wider field. -/
theorem mk4_fields {w : Nat} (x : BitVec w) (s : Nat) :
    mk4 (x.extractLsb' (s + 12) 4) (x.extractLsb' (s + 8) 4) (x.extractLsb' (s + 4) 4) (x.extractLsb' s 4) =
      x.extractLsb' s 16 := by
  show (x.extractLsb' (s + 8 + 4) 4 ++ x.extractLsb' (s + 4 + 4) 4 ++ x.extractLsb' (s + 4) 4 ++ x.extractLsb' s 4 :
    BitVec (4 + 4 + 4 + 4)) = x.extractLsb' s (4 + 4 + 4 + 4)
  rw [join_fields x (s + 8) 4 4, join_fields x (s + 4) (4 + 4) 4, join_fields x s (4 + 4 + 4) 4]

/-- A forty-eight-bit field from three words. -/
@[simp] theorem join48 (x : BitVec 48) :
    (x.extractLsb' 32 16 ++ x.extractLsb' 16 16 ++ x.extractLsb' 0 16 : BitVec (16 + 16 + 16)) = x := by
  rw [join_fields x 16 16 16, join_fields x 0 (16 + 16) 16]
  exact whole_field x

/-! ### Words and bytes -/

/-- A word read back from its two bytes. -/
@[simp] theorem wordsOfBytes_wordBytes (e : Endian) (w : IWord) (bs : List Byte) :
    wordsOfBytes e (wordBytes e w ++ bs) = w :: wordsOfBytes e bs := by
  have h : (w.extractLsb' 8 8 ++ w.extractLsb' 0 8 : BitVec (8 + 8)) = w := by
    rw [join_fields w 0 8 8]
    exact whole_field w
  cases e <;> exact congrArg (· :: _) h

/-- The words of an instruction read back from its bytes. -/
theorem wordsOfBytes_flatMap (e : Endian) (ws : List IWord) (bs : List Byte) :
    wordsOfBytes e (ws.flatMap (wordBytes e) ++ bs) = ws ++ wordsOfBytes e bs := by
  induction ws with
  | nil => rfl
  | cons w ws ih => rw [List.flatMap_cons, List.append_assoc, wordsOfBytes_wordBytes, ih, List.cons_append]

end Sys2Proof
end

