-- ==== Sys2Proof/Laws/PerInstr.lean ====
section
/-! SUPPORT. Laws/PerInstr.lean: statements made for every instruction, one lemma for each constructor. -/
namespace Sys2Proof.Laws.EncodeLength

/-- In a mode that selects the row of `i`, the length read off its first word (rule R186) is the length of its
encoding. -/
def Statement (i : Instr) : Prop := ∀ jq, i.legalIn jq = true → lengthOf jq (firstWord i) = i.length

/-- The length of a first word from its nibbles. -/
theorem of_nibbles {jq : Bool} {a b c d : Nib} {n : Nat} (h : lengthNib jq a b c d = n) :
    lengthOf jq (mk4 a b c d) = n := by simpa [lengthOf] using h

/-- The top bit of a nibble that starts with 1. -/
theorem top_of_one : ∀ x : BitVec 3, (1#1 ++ x : Nib).getLsbD 3 = true := by decide

theorem movRmRn (n : BitVec 4) (m : BitVec 4) : Statement (.movRmRn n m) :=
  fun _ _ => of_nibbles rfl
theorem movImmRn (n : BitVec 4) (imm : BitVec 8) : Statement (.movImmRn n imm) :=
  fun _ _ => of_nibbles rfl
theorem movBRmAtRn (n : BitVec 4) (m : BitVec 4) : Statement (.movBRmAtRn n m) :=
  fun _ _ => of_nibbles rfl
theorem movWQRmAtRn (n : BitVec 4) (m : BitVec 4) : Statement (.movWQRmAtRn n m) :=
  fun _ _ => of_nibbles rfl
theorem movLRmAtRn (n : BitVec 4) (m : BitVec 4) : Statement (.movLRmAtRn n m) :=
  fun _ _ => of_nibbles rfl
theorem movBAtRmRn (n : BitVec 4) (m : BitVec 4) : Statement (.movBAtRmRn n m) :=
  fun _ _ => of_nibbles rfl
theorem movWQAtRmRn (n : BitVec 4) (m : BitVec 4) : Statement (.movWQAtRmRn n m) :=
  fun _ _ => of_nibbles rfl
theorem movLAtRmRn (n : BitVec 4) (m : BitVec 4) : Statement (.movLAtRmRn n m) :=
  fun _ _ => of_nibbles rfl
theorem movBRmAtDecRn (n : BitVec 4) (m : BitVec 4) : Statement (.movBRmAtDecRn n m) :=
  fun _ _ => of_nibbles rfl
theorem movWQRmAtDecRn (n : BitVec 4) (m : BitVec 4) : Statement (.movWQRmAtDecRn n m) :=
  fun _ _ => of_nibbles rfl
theorem movLRmAtDecRn (n : BitVec 4) (m : BitVec 4) : Statement (.movLRmAtDecRn n m) :=
  fun _ _ => of_nibbles rfl
theorem movBAtRmIncRn (n : BitVec 4) (m : BitVec 4) : Statement (.movBAtRmIncRn n m) :=
  fun _ _ => of_nibbles rfl
theorem movWQAtRmIncRn (n : BitVec 4) (m : BitVec 4) : Statement (.movWQAtRmIncRn n m) :=
  fun _ _ => of_nibbles rfl
theorem movLAtRmIncRn (n : BitVec 4) (m : BitVec 4) : Statement (.movLAtRmIncRn n m) :=
  fun _ _ => of_nibbles rfl
theorem movBRmAtR0Rn (n : BitVec 4) (m : BitVec 4) : Statement (.movBRmAtR0Rn n m) :=
  fun _ _ => of_nibbles rfl
theorem movWQRmAtR0Rn (n : BitVec 4) (m : BitVec 4) : Statement (.movWQRmAtR0Rn n m) :=
  fun _ _ => of_nibbles rfl
theorem movLRmAtR0Rn (n : BitVec 4) (m : BitVec 4) : Statement (.movLRmAtR0Rn n m) :=
  fun _ _ => of_nibbles rfl
theorem movBAtR0RmRn (n : BitVec 4) (m : BitVec 4) : Statement (.movBAtR0RmRn n m) :=
  fun _ _ => of_nibbles rfl
theorem movWQAtR0RmRn (n : BitVec 4) (m : BitVec 4) : Statement (.movWQAtR0RmRn n m) :=
  fun _ _ => of_nibbles rfl
theorem movLAtR0RmRn (n : BitVec 4) (m : BitVec 4) : Statement (.movLAtR0RmRn n m) :=
  fun _ _ => of_nibbles rfl
theorem movLRmAtRnDisp (n : BitVec 4) (m : BitVec 4) (disp : BitVec 4) : Statement (.movLRmAtRnDisp n m disp) :=
  fun _ _ => of_nibbles rfl
theorem movLAtRmDispRn (n : BitVec 4) (m : BitVec 4) (disp : BitVec 4) : Statement (.movLAtRmDispRn n m disp) :=
  fun _ _ => of_nibbles rfl
theorem movBR0AtRnDisp (n : BitVec 4) (disp : BitVec 4) : Statement (.movBR0AtRnDisp n disp) :=
  fun _ _ => of_nibbles rfl
theorem movWQR0AtRnDisp (n : BitVec 4) (disp : BitVec 4) : Statement (.movWQR0AtRnDisp n disp) :=
  fun _ _ => of_nibbles rfl
theorem movBAtRmDispR0 (m : BitVec 4) (disp : BitVec 4) : Statement (.movBAtRmDispR0 m disp) :=
  fun _ _ => of_nibbles rfl
theorem movWQAtRmDispR0 (m : BitVec 4) (disp : BitVec 4) : Statement (.movWQAtRmDispR0 m disp) :=
  fun _ _ => of_nibbles rfl
theorem movWQAtPcDispRn (n : BitVec 4) (disp : BitVec 8) : Statement (.movWQAtPcDispRn n disp) :=
  fun _ _ => of_nibbles rfl
theorem movLAtPcDispRn (n : BitVec 4) (disp : BitVec 8) : Statement (.movLAtPcDispRn n disp) :=
  fun _ _ => of_nibbles rfl
theorem movaAtPcDispR0 (disp : BitVec 8) : Statement (.movaAtPcDispR0 disp) :=
  fun jq _ => by cases jq <;> exact of_nibbles rfl
theorem movBR0AtGbrDisp (disp : BitVec 8) : Statement (.movBR0AtGbrDisp disp) :=
  fun jq h => by
    have hj : jq = false := by simpa using (show (!jq) = true from h)
    subst hj
    exact of_nibbles rfl
theorem movWQR0AtGbrDisp (disp : BitVec 8) : Statement (.movWQR0AtGbrDisp disp) :=
  fun jq h => by
    have hj : jq = false := by simpa using (show (!jq) = true from h)
    subst hj
    exact of_nibbles rfl
theorem movLR0AtGbrDisp (disp : BitVec 8) : Statement (.movLR0AtGbrDisp disp) :=
  fun jq h => by
    have hj : jq = false := by simpa using (show (!jq) = true from h)
    subst hj
    exact of_nibbles rfl
theorem movBAtGbrDispR0 (disp : BitVec 8) : Statement (.movBAtGbrDispR0 disp) :=
  fun jq h => by
    have hj : jq = false := by simpa using (show (!jq) = true from h)
    subst hj
    exact of_nibbles rfl
theorem movWQAtGbrDispR0 (disp : BitVec 8) : Statement (.movWQAtGbrDispR0 disp) :=
  fun jq h => by
    have hj : jq = false := by simpa using (show (!jq) = true from h)
    subst hj
    exact of_nibbles rfl
theorem movLAtGbrDispR0 (disp : BitVec 8) : Statement (.movLAtGbrDispR0 disp) :=
  fun jq h => by
    have hj : jq = false := by simpa using (show (!jq) = true from h)
    subst hj
    exact of_nibbles rfl
theorem movBR0AtRnInc (n : BitVec 4) : Statement (.movBR0AtRnInc n) :=
  fun _ _ => of_nibbles rfl
theorem movWQR0AtRnInc (n : BitVec 4) : Statement (.movWQR0AtRnInc n) :=
  fun _ _ => of_nibbles rfl
theorem movLR0AtRnInc (n : BitVec 4) : Statement (.movLR0AtRnInc n) :=
  fun _ _ => of_nibbles rfl
theorem movBAtDecRmR0 (m : BitVec 4) : Statement (.movBAtDecRmR0 m) :=
  fun _ _ => of_nibbles rfl
theorem movWQAtDecRmR0 (m : BitVec 4) : Statement (.movWQAtDecRmR0 m) :=
  fun _ _ => of_nibbles rfl
theorem movLAtDecRmR0 (m : BitVec 4) : Statement (.movLAtDecRmR0 m) :=
  fun _ _ => of_nibbles rfl
theorem pushLQRm (m : BitVec 4) : Statement (.pushLQRm m) :=
  fun _ _ => of_nibbles rfl
theorem popLQRn (n : BitVec 4) : Statement (.popLQRn n) :=
  fun _ _ => of_nibbles rfl
theorem movQWAtR0Rn (n : BitVec 4) : Statement (.movQWAtR0Rn n) :=
  fun _ _ => of_nibbles rfl
theorem movQWRmAtR0 (m : BitVec 4) : Statement (.movQWRmAtR0 m) :=
  fun _ _ => of_nibbles rfl
theorem movuaLAtRmR0 (m : BitVec 4) : Statement (.movuaLAtRmR0 m) :=
  fun _ _ => of_nibbles rfl
theorem movuaLAtRmIncR0 (m : BitVec 4) : Statement (.movuaLAtRmIncR0 m) :=
  fun _ _ => of_nibbles rfl
theorem movuaLR0AtRm (m : BitVec 4) : Statement (.movuaLR0AtRm m) :=
  fun _ _ => of_nibbles rfl
theorem movuaLR0AtDecRm (m : BitVec 4) : Statement (.movuaLR0AtDecRm m) :=
  fun _ _ => of_nibbles rfl
theorem movtRn (n : BitVec 4) : Statement (.movtRn n) :=
  fun _ _ => of_nibbles rfl
theorem movrtRn (n : BitVec 4) : Statement (.movrtRn n) :=
  fun _ _ => of_nibbles rfl
theorem swapBRmRn (n : BitVec 4) (m : BitVec 4) : Statement (.swapBRmRn n m) :=
  fun _ _ => of_nibbles rfl
theorem swapWRmRn (n : BitVec 4) (m : BitVec 4) : Statement (.swapWRmRn n m) :=
  fun _ _ => of_nibbles rfl
theorem xtrctRmRn (n : BitVec 4) (m : BitVec 4) : Statement (.xtrctRmRn n m) :=
  fun _ _ => of_nibbles rfl
theorem movLAtPcIncRn (n : BitVec 4) : Statement (.movLAtPcIncRn n) :=
  fun _ _ => of_nibbles rfl
theorem movQAtPcIncRn (n : BitVec 4) : Statement (.movQAtPcIncRn n) :=
  fun _ _ => of_nibbles rfl
theorem addRmRn (n : BitVec 4) (m : BitVec 4) : Statement (.addRmRn n m) :=
  fun _ _ => of_nibbles rfl
theorem addImmRn (n : BitVec 4) (imm : BitVec 8) : Statement (.addImmRn n imm) :=
  fun _ _ => of_nibbles rfl
theorem addcRmRn (n : BitVec 4) (m : BitVec 4) : Statement (.addcRmRn n m) :=
  fun _ _ => of_nibbles rfl
theorem addvRmRn (n : BitVec 4) (m : BitVec 4) : Statement (.addvRmRn n m) :=
  fun _ _ => of_nibbles rfl
theorem subRmRn (n : BitVec 4) (m : BitVec 4) : Statement (.subRmRn n m) :=
  fun _ _ => of_nibbles rfl
theorem subcRmRn (n : BitVec 4) (m : BitVec 4) : Statement (.subcRmRn n m) :=
  fun _ _ => of_nibbles rfl
theorem subvRmRn (n : BitVec 4) (m : BitVec 4) : Statement (.subvRmRn n m) :=
  fun _ _ => of_nibbles rfl
theorem negRmRn (n : BitVec 4) (m : BitVec 4) : Statement (.negRmRn n m) :=
  fun _ _ => of_nibbles rfl
theorem negcRmRn (n : BitVec 4) (m : BitVec 4) : Statement (.negcRmRn n m) :=
  fun _ _ => of_nibbles rfl
theorem cmpeqRmRn (n : BitVec 4) (m : BitVec 4) : Statement (.cmpeqRmRn n m) :=
  fun _ _ => of_nibbles rfl
theorem cmphsRmRn (n : BitVec 4) (m : BitVec 4) : Statement (.cmphsRmRn n m) :=
  fun _ _ => of_nibbles rfl
theorem cmpgeRmRn (n : BitVec 4) (m : BitVec 4) : Statement (.cmpgeRmRn n m) :=
  fun _ _ => of_nibbles rfl
theorem cmphiRmRn (n : BitVec 4) (m : BitVec 4) : Statement (.cmphiRmRn n m) :=
  fun _ _ => of_nibbles rfl
theorem cmpgtRmRn (n : BitVec 4) (m : BitVec 4) : Statement (.cmpgtRmRn n m) :=
  fun _ _ => of_nibbles rfl
theorem cmppzRn (n : BitVec 4) : Statement (.cmppzRn n) :=
  fun _ _ => of_nibbles rfl
theorem cmpplRn (n : BitVec 4) : Statement (.cmpplRn n) :=
  fun _ _ => of_nibbles rfl
theorem cmpstrRmRn (n : BitVec 4) (m : BitVec 4) : Statement (.cmpstrRmRn n m) :=
  fun _ _ => of_nibbles rfl
theorem cmpeqImmR0 (imm : BitVec 8) : Statement (.cmpeqImmR0 imm) :=
  fun _ _ => of_nibbles rfl
theorem dtRn (n : BitVec 4) : Statement (.dtRn n) :=
  fun _ _ => of_nibbles rfl
theorem extsBRmRn (n : BitVec 4) (m : BitVec 4) : Statement (.extsBRmRn n m) :=
  fun _ _ => of_nibbles rfl
theorem extsWRmRn (n : BitVec 4) (m : BitVec 4) : Statement (.extsWRmRn n m) :=
  fun _ _ => of_nibbles rfl
theorem extuBRmRn (n : BitVec 4) (m : BitVec 4) : Statement (.extuBRmRn n m) :=
  fun _ _ => of_nibbles rfl
theorem extuWRmRn (n : BitVec 4) (m : BitVec 4) : Statement (.extuWRmRn n m) :=
  fun _ _ => of_nibbles rfl
theorem mulLRmRn (n : BitVec 4) (m : BitVec 4) : Statement (.mulLRmRn n m) :=
  fun _ _ => of_nibbles rfl
theorem muluWQRmRn (n : BitVec 4) (m : BitVec 4) : Statement (.muluWQRmRn n m) :=
  fun _ _ => of_nibbles rfl
theorem mulsWQRmRn (n : BitVec 4) (m : BitVec 4) : Statement (.mulsWQRmRn n m) :=
  fun _ _ => of_nibbles rfl
theorem dmuluLRmRn (n : BitVec 4) (m : BitVec 4) : Statement (.dmuluLRmRn n m) :=
  fun _ _ => of_nibbles rfl
theorem dmulsLRmRn (n : BitVec 4) (m : BitVec 4) : Statement (.dmulsLRmRn n m) :=
  fun _ _ => of_nibbles rfl
theorem div0sRmRn (n : BitVec 4) (m : BitVec 4) : Statement (.div0sRmRn n m) :=
  fun _ _ => of_nibbles rfl
theorem div0u : Statement .div0u :=
  fun _ _ => of_nibbles rfl
theorem div1RmRn (n : BitVec 4) (m : BitVec 4) : Statement (.div1RmRn n m) :=
  fun _ _ => of_nibbles rfl
theorem divuR0Rn (n : BitVec 4) : Statement (.divuR0Rn n) :=
  fun _ _ => of_nibbles rfl
theorem divsR0Rn (n : BitVec 4) : Statement (.divsR0Rn n) :=
  fun _ _ => of_nibbles rfl
theorem macLAtRmIncAtRnInc (n : BitVec 4) (m : BitVec 4) : Statement (.macLAtRmIncAtRnInc n m) :=
  fun _ _ => of_nibbles rfl
theorem macWQAtRmIncAtRnInc (n : BitVec 4) (m : BitVec 4) : Statement (.macWQAtRmIncAtRnInc n m) :=
  fun _ _ => of_nibbles rfl
theorem andRmRn (n : BitVec 4) (m : BitVec 4) : Statement (.andRmRn n m) :=
  fun _ _ => of_nibbles rfl
theorem andImmR0 (imm : BitVec 8) : Statement (.andImmR0 imm) :=
  fun jq _ => by cases jq <;> exact of_nibbles rfl
theorem andBImmAtGbrR0 (imm : BitVec 8) : Statement (.andBImmAtGbrR0 imm) :=
  fun jq h => by
    have hj : jq = false := by simpa using (show (!jq) = true from h)
    subst hj
    exact of_nibbles rfl
theorem orRmRn (n : BitVec 4) (m : BitVec 4) : Statement (.orRmRn n m) :=
  fun _ _ => of_nibbles rfl
theorem orImmR0 (imm : BitVec 8) : Statement (.orImmR0 imm) :=
  fun jq _ => by cases jq <;> exact of_nibbles rfl
theorem orBImmAtGbrR0 (imm : BitVec 8) : Statement (.orBImmAtGbrR0 imm) :=
  fun jq h => by
    have hj : jq = false := by simpa using (show (!jq) = true from h)
    subst hj
    exact of_nibbles rfl
theorem xorRmRn (n : BitVec 4) (m : BitVec 4) : Statement (.xorRmRn n m) :=
  fun _ _ => of_nibbles rfl
theorem xorImmR0 (imm : BitVec 8) : Statement (.xorImmR0 imm) :=
  fun jq _ => by cases jq <;> exact of_nibbles rfl
theorem xorBImmAtGbrR0 (imm : BitVec 8) : Statement (.xorBImmAtGbrR0 imm) :=
  fun jq h => by
    have hj : jq = false := by simpa using (show (!jq) = true from h)
    subst hj
    exact of_nibbles rfl
theorem tstRmRn (n : BitVec 4) (m : BitVec 4) : Statement (.tstRmRn n m) :=
  fun _ _ => of_nibbles rfl
theorem tstImmR0 (imm : BitVec 8) : Statement (.tstImmR0 imm) :=
  fun jq _ => by cases jq <;> exact of_nibbles rfl
theorem tstBImmAtGbrR0 (imm : BitVec 8) : Statement (.tstBImmAtGbrR0 imm) :=
  fun jq h => by
    have hj : jq = false := by simpa using (show (!jq) = true from h)
    subst hj
    exact of_nibbles rfl
theorem notRmRn (n : BitVec 4) (m : BitVec 4) : Statement (.notRmRn n m) :=
  fun _ _ => of_nibbles rfl
theorem tasBAtRn (n : BitVec 4) : Statement (.tasBAtRn n) :=
  fun _ _ => of_nibbles rfl
theorem shadRmRn (n : BitVec 4) (m : BitVec 4) : Statement (.shadRmRn n m) :=
  fun _ _ => of_nibbles rfl
theorem shldRmRn (n : BitVec 4) (m : BitVec 4) : Statement (.shldRmRn n m) :=
  fun _ _ => of_nibbles rfl
theorem shllRn (n : BitVec 4) : Statement (.shllRn n) :=
  fun _ _ => of_nibbles rfl
theorem shalRn (n : BitVec 4) : Statement (.shalRn n) :=
  fun _ _ => of_nibbles rfl
theorem shlrRn (n : BitVec 4) : Statement (.shlrRn n) :=
  fun _ _ => of_nibbles rfl
theorem sharRn (n : BitVec 4) : Statement (.sharRn n) :=
  fun _ _ => of_nibbles rfl
theorem rotlRn (n : BitVec 4) : Statement (.rotlRn n) :=
  fun _ _ => of_nibbles rfl
theorem rotrRn (n : BitVec 4) : Statement (.rotrRn n) :=
  fun _ _ => of_nibbles rfl
theorem rotclRn (n : BitVec 4) : Statement (.rotclRn n) :=
  fun _ _ => of_nibbles rfl
theorem rotcrRn (n : BitVec 4) : Statement (.rotcrRn n) :=
  fun _ _ => of_nibbles rfl
theorem shll2Rn (n : BitVec 4) : Statement (.shll2Rn n) :=
  fun _ _ => of_nibbles rfl
theorem shll8Rn (n : BitVec 4) : Statement (.shll8Rn n) :=
  fun _ _ => of_nibbles rfl
theorem shll16Rn (n : BitVec 4) : Statement (.shll16Rn n) :=
  fun _ _ => of_nibbles rfl
theorem shlr2Rn (n : BitVec 4) : Statement (.shlr2Rn n) :=
  fun _ _ => of_nibbles rfl
theorem shlr8Rn (n : BitVec 4) : Statement (.shlr8Rn n) :=
  fun _ _ => of_nibbles rfl
theorem shlr16Rn (n : BitVec 4) : Statement (.shlr16Rn n) :=
  fun _ _ => of_nibbles rfl
theorem shll4Rn (n : BitVec 4) : Statement (.shll4Rn n) :=
  fun _ _ => of_nibbles rfl
theorem shlr4Rn (n : BitVec 4) : Statement (.shlr4Rn n) :=
  fun _ _ => of_nibbles rfl
theorem shll32Rn (n : BitVec 4) : Statement (.shll32Rn n) :=
  fun _ _ => of_nibbles rfl
theorem shlr32Rn (n : BitVec 4) : Statement (.shlr32Rn n) :=
  fun _ _ => of_nibbles rfl
theorem rot32Rn (n : BitVec 4) : Statement (.rot32Rn n) :=
  fun _ _ => of_nibbles rfl
theorem movhiR0RHn (n : BitVec 4) : Statement (.movhiR0RHn n) :=
  fun _ _ => of_nibbles rfl
theorem movhiRHmR0 (m : BitVec 4) : Statement (.movhiRHmR0 m) :=
  fun _ _ => of_nibbles rfl
theorem extuLRn (n : BitVec 4) : Statement (.extuLRn n) :=
  fun _ _ => of_nibbles rfl
theorem extsLRn (n : BitVec 4) : Statement (.extsLRn n) :=
  fun _ _ => of_nibbles rfl
theorem bt (disp : BitVec 8) : Statement (.bt disp) :=
  fun _ _ => of_nibbles rfl
theorem bf (disp : BitVec 8) : Statement (.bf disp) :=
  fun _ _ => of_nibbles rfl
theorem bts (disp : BitVec 8) : Statement (.bts disp) :=
  fun _ _ => of_nibbles rfl
theorem bfs (disp : BitVec 8) : Statement (.bfs disp) :=
  fun _ _ => of_nibbles rfl
theorem bra (disp : BitVec 12) : Statement (.bra disp) :=
  fun _ _ => of_nibbles rfl
theorem bsr (disp : BitVec 12) : Statement (.bsr disp) :=
  fun _ _ => of_nibbles rfl
theorem brafRm (m : BitVec 4) : Statement (.brafRm m) :=
  fun _ _ => of_nibbles rfl
theorem bsrfRm (m : BitVec 4) : Statement (.bsrfRm m) :=
  fun _ _ => of_nibbles rfl
theorem jmpAtRm (m : BitVec 4) : Statement (.jmpAtRm m) :=
  fun _ _ => of_nibbles rfl
theorem jsrAtRm (m : BitVec 4) : Statement (.jsrAtRm m) :=
  fun _ _ => of_nibbles rfl
theorem rts : Statement .rts :=
  fun _ _ => of_nibbles rfl
theorem rtsn : Statement .rtsn :=
  fun _ _ => of_nibbles rfl
theorem rtvnRm (m : BitVec 4) : Statement (.rtvnRm m) :=
  fun _ _ => of_nibbles rfl
theorem jsrnRm (m : BitVec 4) : Statement (.jsrnRm m) :=
  fun _ _ => of_nibbles rfl
theorem stcSrRn (n : BitVec 4) : Statement (.stcSrRn n) :=
  fun _ _ => of_nibbles rfl
theorem stcGbrRn (n : BitVec 4) : Statement (.stcGbrRn n) :=
  fun _ _ => of_nibbles rfl
theorem stcVbrRn (n : BitVec 4) : Statement (.stcVbrRn n) :=
  fun _ _ => of_nibbles rfl
theorem stcSsrRn (n : BitVec 4) : Statement (.stcSsrRn n) :=
  fun _ _ => of_nibbles rfl
theorem stcSpcRn (n : BitVec 4) : Statement (.stcSpcRn n) :=
  fun _ _ => of_nibbles rfl
theorem stcRmBRn (n : BitVec 4) (b : BitVec 3) : Statement (.stcRmBRn n b) :=
  fun _ _ => of_nibbles rfl
theorem stcSgrRn (n : BitVec 4) : Statement (.stcSgrRn n) :=
  fun _ _ => of_nibbles rfl
theorem stcDbrRn (n : BitVec 4) : Statement (.stcDbrRn n) :=
  fun _ _ => of_nibbles rfl
theorem stsMachRn (n : BitVec 4) : Statement (.stsMachRn n) :=
  fun _ _ => of_nibbles rfl
theorem stsMaclRn (n : BitVec 4) : Statement (.stsMaclRn n) :=
  fun _ _ => of_nibbles rfl
theorem stsPrRn (n : BitVec 4) : Statement (.stsPrRn n) :=
  fun _ _ => of_nibbles rfl
theorem stsFpulRn (n : BitVec 4) : Statement (.stsFpulRn n) :=
  fun _ _ => of_nibbles rfl
theorem stsFpscrRn (n : BitVec 4) : Statement (.stsFpscrRn n) :=
  fun _ _ => of_nibbles rfl
theorem ldcRmSr (m : BitVec 4) : Statement (.ldcRmSr m) :=
  fun _ _ => of_nibbles rfl
theorem ldcRmGbr (m : BitVec 4) : Statement (.ldcRmGbr m) :=
  fun _ _ => of_nibbles rfl
theorem ldcRmVbr (m : BitVec 4) : Statement (.ldcRmVbr m) :=
  fun _ _ => of_nibbles rfl
theorem ldcRmSsr (m : BitVec 4) : Statement (.ldcRmSsr m) :=
  fun _ _ => of_nibbles rfl
theorem ldcRmSpc (m : BitVec 4) : Statement (.ldcRmSpc m) :=
  fun _ _ => of_nibbles rfl
theorem ldcRmRnB (m : BitVec 4) (b : BitVec 3) : Statement (.ldcRmRnB m b) :=
  fun _ _ => of_nibbles rfl
theorem ldcRmSgr (m : BitVec 4) : Statement (.ldcRmSgr m) :=
  fun _ _ => of_nibbles rfl
theorem ldcRmDbr (m : BitVec 4) : Statement (.ldcRmDbr m) :=
  fun _ _ => of_nibbles rfl
theorem ldsRmMach (m : BitVec 4) : Statement (.ldsRmMach m) :=
  fun _ _ => of_nibbles rfl
theorem ldsRmMacl (m : BitVec 4) : Statement (.ldsRmMacl m) :=
  fun _ _ => of_nibbles rfl
theorem ldsRmPr (m : BitVec 4) : Statement (.ldsRmPr m) :=
  fun _ _ => of_nibbles rfl
theorem iclrmdDQ : Statement .iclrmdDQ :=
  fun _ _ => of_nibbles rfl
theorem iclrmdJQ : Statement .iclrmdJQ :=
  fun _ _ => of_nibbles rfl
theorem iclrmdJDQ : Statement .iclrmdJDQ :=
  fun _ _ => of_nibbles rfl
theorem isetmdDQ : Statement .isetmdDQ :=
  fun _ _ => of_nibbles rfl
theorem isetmdJQ : Statement .isetmdJQ :=
  fun _ _ => of_nibbles rfl
theorem isetmdJDQ : Statement .isetmdJDQ :=
  fun _ _ => of_nibbles rfl
theorem ldsRmFpul (m : BitVec 4) : Statement (.ldsRmFpul m) :=
  fun _ _ => of_nibbles rfl
theorem ldsRmFpscr (m : BitVec 4) : Statement (.ldsRmFpscr m) :=
  fun _ _ => of_nibbles rfl
theorem clrt : Statement .clrt :=
  fun _ _ => of_nibbles rfl
theorem sett : Statement .sett :=
  fun _ _ => of_nibbles rfl
theorem clrs : Statement .clrs :=
  fun _ _ => of_nibbles rfl
theorem sets : Statement .sets :=
  fun _ _ => of_nibbles rfl
theorem nott : Statement .nott :=
  fun _ _ => of_nibbles rfl
theorem clrmac : Statement .clrmac :=
  fun _ _ => of_nibbles rfl
theorem nop (imm : BitVec 4) : Statement (.nop imm) :=
  fun _ _ => of_nibbles rfl
theorem trapaImm (imm : BitVec 8) : Statement (.trapaImm imm) :=
  fun jq _ => by cases jq <;> exact of_nibbles rfl
theorem rte : Statement .rte :=
  fun _ _ => of_nibbles rfl
theorem sleep : Statement .sleep :=
  fun _ _ => of_nibbles rfl
theorem brk : Statement .brk :=
  fun _ _ => of_nibbles rfl
theorem ldtlb : Statement .ldtlb :=
  fun _ _ => of_nibbles rfl
theorem resbank : Statement .resbank :=
  fun _ _ => of_nibbles rfl
theorem synco : Statement .synco :=
  fun _ _ => of_nibbles rfl
theorem prefAtRn (n : BitVec 4) : Statement (.prefAtRn n) :=
  fun _ _ => of_nibbles rfl
theorem movcaLR0AtRn (n : BitVec 4) : Statement (.movcaLR0AtRn n) :=
  fun _ _ => of_nibbles rfl
theorem icbiAtRn (n : BitVec 4) : Statement (.icbiAtRn n) :=
  fun _ _ => of_nibbles rfl
theorem casLRmRnAtR0 (n : BitVec 4) (m : BitVec 4) : Statement (.casLRmRnAtR0 n m) :=
  fun _ _ => of_nibbles rfl
theorem stsLQMachAtDecRn (n : BitVec 4) : Statement (.stsLQMachAtDecRn n) :=
  fun _ _ => of_nibbles rfl
theorem stsLQMaclAtDecRn (n : BitVec 4) : Statement (.stsLQMaclAtDecRn n) :=
  fun _ _ => of_nibbles rfl
theorem stsLQPrAtDecRn (n : BitVec 4) : Statement (.stsLQPrAtDecRn n) :=
  fun _ _ => of_nibbles rfl
theorem stcLQSgrAtDecRn (n : BitVec 4) : Statement (.stcLQSgrAtDecRn n) :=
  fun _ _ => of_nibbles rfl
theorem stsLQFpulAtDecRn (n : BitVec 4) : Statement (.stsLQFpulAtDecRn n) :=
  fun _ _ => of_nibbles rfl
theorem stsLQFpscrAtDecRn (n : BitVec 4) : Statement (.stsLQFpscrAtDecRn n) :=
  fun _ _ => of_nibbles rfl
theorem stcLQDbrAtDecRn (n : BitVec 4) : Statement (.stcLQDbrAtDecRn n) :=
  fun _ _ => of_nibbles rfl
theorem stcLQSrAtDecRn (n : BitVec 4) : Statement (.stcLQSrAtDecRn n) :=
  fun _ _ => of_nibbles rfl
theorem stcLQGbrAtDecRn (n : BitVec 4) : Statement (.stcLQGbrAtDecRn n) :=
  fun _ _ => of_nibbles rfl
theorem stcLQVbrAtDecRn (n : BitVec 4) : Statement (.stcLQVbrAtDecRn n) :=
  fun _ _ => of_nibbles rfl
theorem stcLQSsrAtDecRn (n : BitVec 4) : Statement (.stcLQSsrAtDecRn n) :=
  fun _ _ => of_nibbles rfl
theorem stcLQSpcAtDecRn (n : BitVec 4) : Statement (.stcLQSpcAtDecRn n) :=
  fun _ _ => of_nibbles rfl
theorem stcLQRmBAtDecRn (n : BitVec 4) (b : BitVec 3) : Statement (.stcLQRmBAtDecRn n b) :=
  fun _ _ => of_nibbles rfl
theorem ldsLQAtRmIncMach (m : BitVec 4) : Statement (.ldsLQAtRmIncMach m) :=
  fun _ _ => of_nibbles rfl
theorem ldsLQAtRmIncMacl (m : BitVec 4) : Statement (.ldsLQAtRmIncMacl m) :=
  fun _ _ => of_nibbles rfl
theorem ldsLQAtRmIncPr (m : BitVec 4) : Statement (.ldsLQAtRmIncPr m) :=
  fun _ _ => of_nibbles rfl
theorem ldcLQAtRmIncSgr (m : BitVec 4) : Statement (.ldcLQAtRmIncSgr m) :=
  fun _ _ => of_nibbles rfl
theorem ldsLQAtRmIncFpul (m : BitVec 4) : Statement (.ldsLQAtRmIncFpul m) :=
  fun _ _ => of_nibbles rfl
theorem ldsLQAtRmIncFpscr (m : BitVec 4) : Statement (.ldsLQAtRmIncFpscr m) :=
  fun _ _ => of_nibbles rfl
theorem ldcLQAtRmIncDbr (m : BitVec 4) : Statement (.ldcLQAtRmIncDbr m) :=
  fun _ _ => of_nibbles rfl
theorem ldcLQAtRmIncSr (m : BitVec 4) : Statement (.ldcLQAtRmIncSr m) :=
  fun _ _ => of_nibbles rfl
theorem ldcLQAtRmIncGbr (m : BitVec 4) : Statement (.ldcLQAtRmIncGbr m) :=
  fun _ _ => of_nibbles rfl
theorem ldcLQAtRmIncVbr (m : BitVec 4) : Statement (.ldcLQAtRmIncVbr m) :=
  fun _ _ => of_nibbles rfl
theorem ldcLQAtRmIncSsr (m : BitVec 4) : Statement (.ldcLQAtRmIncSsr m) :=
  fun _ _ => of_nibbles rfl
theorem ldcLQAtRmIncSpc (m : BitVec 4) : Statement (.ldcLQAtRmIncSpc m) :=
  fun _ _ => of_nibbles rfl
theorem ldcLQAtRmIncRnB (m : BitVec 4) (b : BitVec 3) : Statement (.ldcLQAtRmIncRnB m b) :=
  fun _ _ => of_nibbles rfl
theorem faddFRmFRn (n : BitVec 4) (m : BitVec 4) : Statement (.faddFRmFRn n m) :=
  fun _ _ => of_nibbles rfl
theorem fsubFRmFRn (n : BitVec 4) (m : BitVec 4) : Statement (.fsubFRmFRn n m) :=
  fun _ _ => of_nibbles rfl
theorem fmulFRmFRn (n : BitVec 4) (m : BitVec 4) : Statement (.fmulFRmFRn n m) :=
  fun _ _ => of_nibbles rfl
theorem fdivFRmFRn (n : BitVec 4) (m : BitVec 4) : Statement (.fdivFRmFRn n m) :=
  fun _ _ => of_nibbles rfl
theorem fcmpeqFRmFRn (n : BitVec 4) (m : BitVec 4) : Statement (.fcmpeqFRmFRn n m) :=
  fun _ _ => of_nibbles rfl
theorem fcmpgtFRmFRn (n : BitVec 4) (m : BitVec 4) : Statement (.fcmpgtFRmFRn n m) :=
  fun _ _ => of_nibbles rfl
theorem fmovSAtR0RmFRn (n : BitVec 4) (m : BitVec 4) : Statement (.fmovSAtR0RmFRn n m) :=
  fun _ _ => of_nibbles rfl
theorem fmovSFRmAtR0Rn (n : BitVec 4) (m : BitVec 4) : Statement (.fmovSFRmAtR0Rn n m) :=
  fun _ _ => of_nibbles rfl
theorem fmovSAtRmFRn (n : BitVec 4) (m : BitVec 4) : Statement (.fmovSAtRmFRn n m) :=
  fun _ _ => of_nibbles rfl
theorem fmovSAtRmIncFRn (n : BitVec 4) (m : BitVec 4) : Statement (.fmovSAtRmIncFRn n m) :=
  fun _ _ => of_nibbles rfl
theorem fmovSFRmAtRn (n : BitVec 4) (m : BitVec 4) : Statement (.fmovSFRmAtRn n m) :=
  fun _ _ => of_nibbles rfl
theorem fmovSFRmAtDecRn (n : BitVec 4) (m : BitVec 4) : Statement (.fmovSFRmAtDecRn n m) :=
  fun _ _ => of_nibbles rfl
theorem fmovFRmFRn (n : BitVec 4) (m : BitVec 4) : Statement (.fmovFRmFRn n m) :=
  fun _ _ => of_nibbles rfl
theorem fstsFRn (n : BitVec 4) : Statement (.fstsFRn n) :=
  fun _ _ => of_nibbles rfl
theorem fldsFRm (m : BitVec 4) : Statement (.fldsFRm m) :=
  fun _ _ => of_nibbles rfl
theorem floatFRn (n : BitVec 4) : Statement (.floatFRn n) :=
  fun _ _ => of_nibbles rfl
theorem ftrcFRm (m : BitVec 4) : Statement (.ftrcFRm m) :=
  fun _ _ => of_nibbles rfl
theorem fnegFRn (n : BitVec 4) : Statement (.fnegFRn n) :=
  fun _ _ => of_nibbles rfl
theorem fabsFRn (n : BitVec 4) : Statement (.fabsFRn n) :=
  fun _ _ => of_nibbles rfl
theorem fsqrtFRn (n : BitVec 4) : Statement (.fsqrtFRn n) :=
  fun _ _ => of_nibbles rfl
theorem fldi0FRn (n : BitVec 4) : Statement (.fldi0FRn n) :=
  fun _ _ => of_nibbles rfl
theorem fldi1FRn (n : BitVec 4) : Statement (.fldi1FRn n) :=
  fun _ _ => of_nibbles rfl
theorem fcnvsdFRn (n : BitVec 4) : Statement (.fcnvsdFRn n) :=
  fun _ _ => of_nibbles rfl
theorem fcnvdsFRm (m : BitVec 4) : Statement (.fcnvdsFRm m) :=
  fun _ _ => of_nibbles rfl
theorem psetmdImm4 (imm : BitVec 4) : Statement (.psetmdImm4 imm) :=
  fun _ _ => of_nibbles rfl
theorem fschg : Statement .fschg :=
  fun _ _ => of_nibbles rfl
theorem fpchg : Statement .fpchg :=
  fun _ _ => of_nibbles rfl
theorem frchg : Statement .frchg :=
  fun _ _ => of_nibbles rfl
theorem fmacFRmFRn (n : BitVec 4) (m : BitVec 4) : Statement (.fmacFRmFRn n m) :=
  fun _ _ => of_nibbles rfl
theorem xvFmovSAtRmRoFRn (v : BitVec 4) (o : BitVec 4) (n : BitVec 4) (m : BitVec 4) : Statement (.xvFmovSAtRmRoFRn v o n m) :=
  fun _ _ => of_nibbles rfl
theorem xvFmovSFRmAtRnRo (v : BitVec 4) (o : BitVec 4) (n : BitVec 4) (m : BitVec 4) : Statement (.xvFmovSFRmAtRnRo v o n m) :=
  fun _ _ => of_nibbles rfl
theorem xvFmovSAtRmDisp4FRn (v : BitVec 4) (disp : BitVec 4) (n : BitVec 4) (m : BitVec 4) : Statement (.xvFmovSAtRmDisp4FRn v disp n m) :=
  fun _ _ => of_nibbles rfl
theorem xvFmovSAtRmIncFRn (v : BitVec 4) (n : BitVec 4) (m : BitVec 4) : Statement (.xvFmovSAtRmIncFRn v n m) :=
  fun _ _ => of_nibbles rfl
theorem xvFmovSFRmAtRnDisp4 (v : BitVec 4) (disp : BitVec 4) (n : BitVec 4) (m : BitVec 4) : Statement (.xvFmovSFRmAtRnDisp4 v disp n m) :=
  fun _ _ => of_nibbles rfl
theorem xvFmovSFRmAtDecRn (v : BitVec 4) (n : BitVec 4) (m : BitVec 4) : Statement (.xvFmovSFRmAtDecRn v n m) :=
  fun _ _ => of_nibbles rfl
theorem xvFmovFRmFRn (v : BitVec 8) (n : BitVec 4) (m : BitVec 4) : Statement (.xvFmovFRmFRn v n m) :=
  fun _ _ => of_nibbles rfl
theorem xPsetmdImm12 (imm : BitVec 12) : Statement (.xPsetmdImm12 imm) :=
  fun _ _ => of_nibbles rfl
theorem xMovBRmAtRnRoDisp4 (o : BitVec 4) (disp : BitVec 4) (n : BitVec 4) (m : BitVec 4) : Statement (.xMovBRmAtRnRoDisp4 o disp n m) :=
  fun _ _ => of_nibbles rfl
theorem xMovWRmAtRnRoDisp4 (o : BitVec 4) (disp : BitVec 4) (n : BitVec 4) (m : BitVec 4) : Statement (.xMovWRmAtRnRoDisp4 o disp n m) :=
  fun _ _ => of_nibbles rfl
theorem xMovLRmAtRnRoDisp4 (o : BitVec 4) (disp : BitVec 4) (n : BitVec 4) (m : BitVec 4) : Statement (.xMovLRmAtRnRoDisp4 o disp n m) :=
  fun _ _ => of_nibbles rfl
theorem xMovQRmAtRnRoDisp4 (o : BitVec 4) (disp : BitVec 4) (n : BitVec 4) (m : BitVec 4) : Statement (.xMovQRmAtRnRoDisp4 o disp n m) :=
  fun _ _ => of_nibbles rfl
theorem xMovBAtRmRoDisp4Rn (o : BitVec 4) (disp : BitVec 4) (n : BitVec 4) (m : BitVec 4) : Statement (.xMovBAtRmRoDisp4Rn o disp n m) :=
  fun _ _ => of_nibbles rfl
theorem xMovWAtRmRoDisp4Rn (o : BitVec 4) (disp : BitVec 4) (n : BitVec 4) (m : BitVec 4) : Statement (.xMovWAtRmRoDisp4Rn o disp n m) :=
  fun _ _ => of_nibbles rfl
theorem xMovLAtRmRoDisp4Rn (o : BitVec 4) (disp : BitVec 4) (n : BitVec 4) (m : BitVec 4) : Statement (.xMovLAtRmRoDisp4Rn o disp n m) :=
  fun _ _ => of_nibbles rfl
theorem xMovQAtRmRoDisp4Rn (o : BitVec 4) (disp : BitVec 4) (n : BitVec 4) (m : BitVec 4) : Statement (.xMovQAtRmRoDisp4Rn o disp n m) :=
  fun _ _ => of_nibbles rfl
theorem xMovLRmAtRnRoDisp8s (disp : BitVec 8) (n : BitVec 4) (m : BitVec 4) (o : BitVec 4) : Statement (.xMovLRmAtRnRoDisp8s disp n m o) :=
  fun _ _ => of_nibbles rfl
theorem xMovLAtRmRoDisp8sRn (disp : BitVec 8) (n : BitVec 4) (m : BitVec 4) (o : BitVec 4) : Statement (.xMovLAtRmRoDisp8sRn disp n m o) :=
  fun _ _ => of_nibbles rfl
theorem xMovBRmAtRnDisp8s (disp : BitVec 8) (n : BitVec 4) (m : BitVec 4) : Statement (.xMovBRmAtRnDisp8s disp n m) :=
  fun _ _ => of_nibbles rfl
theorem xMovWRmAtRnDisp8s (disp : BitVec 8) (n : BitVec 4) (m : BitVec 4) : Statement (.xMovWRmAtRnDisp8s disp n m) :=
  fun _ _ => of_nibbles rfl
theorem xMovLRmAtRnDisp8s (disp : BitVec 8) (n : BitVec 4) (m : BitVec 4) : Statement (.xMovLRmAtRnDisp8s disp n m) :=
  fun _ _ => of_nibbles rfl
theorem xMovQRmAtRnDisp8s (disp : BitVec 8) (n : BitVec 4) (m : BitVec 4) : Statement (.xMovQRmAtRnDisp8s disp n m) :=
  fun _ _ => of_nibbles rfl
theorem xFmovSFRmAtRnDisp8s (disp : BitVec 8) (n : BitVec 4) (m : BitVec 4) : Statement (.xFmovSFRmAtRnDisp8s disp n m) :=
  fun _ _ => of_nibbles rfl
theorem xFmovDDRmAtRnDisp8s (disp : BitVec 8) (n : BitVec 4) (m : BitVec 4) : Statement (.xFmovDDRmAtRnDisp8s disp n m) :=
  fun _ _ => of_nibbles rfl
theorem xFmovSAtRmDisp8sFRn (disp : BitVec 8) (n : BitVec 4) (m : BitVec 4) : Statement (.xFmovSAtRmDisp8sFRn disp n m) :=
  fun _ _ => of_nibbles rfl
theorem xFmovDAtRmDisp8sDRn (disp : BitVec 8) (n : BitVec 4) (m : BitVec 4) : Statement (.xFmovDAtRmDisp8sDRn disp n m) :=
  fun _ _ => of_nibbles rfl
theorem xAndRmImm8Rn (imm : BitVec 8) (n : BitVec 4) (m : BitVec 4) : Statement (.xAndRmImm8Rn imm n m) :=
  fun _ _ => of_nibbles rfl
theorem xXorRmImm8Rn (imm : BitVec 8) (n : BitVec 4) (m : BitVec 4) : Statement (.xXorRmImm8Rn imm n m) :=
  fun _ _ => of_nibbles rfl
theorem xOrRmImm8Rn (imm : BitVec 8) (n : BitVec 4) (m : BitVec 4) : Statement (.xOrRmImm8Rn imm n m) :=
  fun _ _ => of_nibbles rfl
theorem xMullRmImm8Rn (imm : BitVec 8) (n : BitVec 4) (m : BitVec 4) : Statement (.xMullRmImm8Rn imm n m) :=
  fun _ _ => of_nibbles rfl
theorem xCmpeqImm12Rn (imm : BitVec 12) (n : BitVec 4) : Statement (.xCmpeqImm12Rn imm n) :=
  fun _ _ => of_nibbles rfl
theorem xCmphsImm12Rn (imm : BitVec 12) (n : BitVec 4) : Statement (.xCmphsImm12Rn imm n) :=
  fun _ _ => of_nibbles rfl
theorem xCmpgeImm12Rn (imm : BitVec 12) (n : BitVec 4) : Statement (.xCmpgeImm12Rn imm n) :=
  fun _ _ => of_nibbles rfl
theorem xCmphiImm12Rn (imm : BitVec 12) (n : BitVec 4) : Statement (.xCmphiImm12Rn imm n) :=
  fun _ _ => of_nibbles rfl
theorem xCmpgtImm12Rn (imm : BitVec 12) (n : BitVec 4) : Statement (.xCmpgtImm12Rn imm n) :=
  fun _ _ => of_nibbles rfl
theorem xSubRmImm8Rn (imm : BitVec 8) (n : BitVec 4) (m : BitVec 4) : Statement (.xSubRmImm8Rn imm n m) :=
  fun _ _ => of_nibbles rfl
theorem xAddRmImm8Rn (imm : BitVec 8) (n : BitVec 4) (m : BitVec 4) : Statement (.xAddRmImm8Rn imm n m) :=
  fun _ _ => of_nibbles rfl
theorem xMovBImmAtRn (imm : BitVec 8) (n : BitVec 4) : Statement (.xMovBImmAtRn imm n) :=
  fun _ _ => of_nibbles rfl
theorem xMovWImmAtRn (imm : BitVec 8) (n : BitVec 4) : Statement (.xMovWImmAtRn imm n) :=
  fun _ _ => of_nibbles rfl
theorem xMovLImmAtRn (imm : BitVec 8) (n : BitVec 4) : Statement (.xMovLImmAtRn imm n) :=
  fun _ _ => of_nibbles rfl
theorem xMovQImmAtRn (imm : BitVec 8) (n : BitVec 4) : Statement (.xMovQImmAtRn imm n) :=
  fun _ _ => of_nibbles rfl
theorem xMovBImmAtDecRn (imm : BitVec 8) (n : BitVec 4) : Statement (.xMovBImmAtDecRn imm n) :=
  fun _ _ => of_nibbles rfl
theorem xMovWImmAtDecRn (imm : BitVec 8) (n : BitVec 4) : Statement (.xMovWImmAtDecRn imm n) :=
  fun _ _ => of_nibbles rfl
theorem xMovLImmAtDecRn (imm : BitVec 8) (n : BitVec 4) : Statement (.xMovLImmAtDecRn imm n) :=
  fun _ _ => of_nibbles rfl
theorem xMovQImmAtDecRn (imm : BitVec 8) (n : BitVec 4) : Statement (.xMovQImmAtDecRn imm n) :=
  fun _ _ => of_nibbles rfl
theorem xShadRmImmRn (imm : BitVec 8) (n : BitVec 4) (m : BitVec 4) : Statement (.xShadRmImmRn imm n m) :=
  fun _ _ => of_nibbles rfl
theorem xShldRmImmRn (imm : BitVec 8) (n : BitVec 4) (m : BitVec 4) : Statement (.xShldRmImmRn imm n m) :=
  fun _ _ => of_nibbles rfl
theorem xMovBAtRmDisp8sRn (disp : BitVec 8) (n : BitVec 4) (m : BitVec 4) : Statement (.xMovBAtRmDisp8sRn disp n m) :=
  fun _ _ => of_nibbles rfl
theorem xMovWAtRmDisp8sRn (disp : BitVec 8) (n : BitVec 4) (m : BitVec 4) : Statement (.xMovWAtRmDisp8sRn disp n m) :=
  fun _ _ => of_nibbles rfl
theorem xMovLAtRmDisp8sRn (disp : BitVec 8) (n : BitVec 4) (m : BitVec 4) : Statement (.xMovLAtRmDisp8sRn disp n m) :=
  fun _ _ => of_nibbles rfl
theorem xMovQAtRmDisp8sRn (disp : BitVec 8) (n : BitVec 4) (m : BitVec 4) : Statement (.xMovQAtRmDisp8sRn disp n m) :=
  fun _ _ => of_nibbles rfl
theorem xLeaBAtRmRoDisp4Rn (o : BitVec 4) (disp : BitVec 4) (n : BitVec 4) (m : BitVec 4) : Statement (.xLeaBAtRmRoDisp4Rn o disp n m) :=
  fun _ _ => of_nibbles rfl
theorem xLeaWAtRmRoDisp4Rn (o : BitVec 4) (disp : BitVec 4) (n : BitVec 4) (m : BitVec 4) : Statement (.xLeaWAtRmRoDisp4Rn o disp n m) :=
  fun _ _ => of_nibbles rfl
theorem xLeaLAtRmRoDisp4Rn (o : BitVec 4) (disp : BitVec 4) (n : BitVec 4) (m : BitVec 4) : Statement (.xLeaLAtRmRoDisp4Rn o disp n m) :=
  fun _ _ => of_nibbles rfl
theorem xLeaQAtRmRoDisp4Rn (o : BitVec 4) (disp : BitVec 4) (n : BitVec 4) (m : BitVec 4) : Statement (.xLeaQAtRmRoDisp4Rn o disp n m) :=
  fun _ _ => of_nibbles rfl
theorem xLeaBAtRmDisp8sRn (disp : BitVec 8) (n : BitVec 4) (m : BitVec 4) : Statement (.xLeaBAtRmDisp8sRn disp n m) :=
  fun _ _ => of_nibbles rfl
theorem xLeaWAtRmDisp8sRn (disp : BitVec 8) (n : BitVec 4) (m : BitVec 4) : Statement (.xLeaWAtRmDisp8sRn disp n m) :=
  fun _ _ => of_nibbles rfl
theorem xLeaLAtRmDisp8sRn (disp : BitVec 8) (n : BitVec 4) (m : BitVec 4) : Statement (.xLeaLAtRmDisp8sRn disp n m) :=
  fun _ _ => of_nibbles rfl
theorem xLeaQAtRmDisp8sRn (disp : BitVec 8) (n : BitVec 4) (m : BitVec 4) : Statement (.xLeaQAtRmDisp8sRn disp n m) :=
  fun _ _ => of_nibbles rfl
theorem xMovuBAtRmDisp8sRn (disp : BitVec 8) (n : BitVec 4) (m : BitVec 4) : Statement (.xMovuBAtRmDisp8sRn disp n m) :=
  fun _ _ => of_nibbles rfl
theorem xMovuWAtRmDisp8sRn (disp : BitVec 8) (n : BitVec 4) (m : BitVec 4) : Statement (.xMovuWAtRmDisp8sRn disp n m) :=
  fun _ _ => of_nibbles rfl
theorem xMovuLAtRmDisp8sRn (disp : BitVec 8) (n : BitVec 4) (m : BitVec 4) : Statement (.xMovuLAtRmDisp8sRn disp n m) :=
  fun _ _ => of_nibbles rfl
theorem xAddImm16Rn (imm : BitVec 16) (n : BitVec 4) : Statement (.xAddImm16Rn imm n) :=
  fun _ _ => of_nibbles rfl
theorem xBranDisp16 (disp : BitVec 16) : Statement (.xBranDisp16 disp) :=
  fun _ _ => of_nibbles rfl
theorem xBsrnDisp16 (disp : BitVec 16) : Statement (.xBsrnDisp16 disp) :=
  fun _ _ => of_nibbles rfl
theorem xCmpeqImm16R0 (imm : BitVec 16) : Statement (.xCmpeqImm16R0 imm) :=
  fun _ _ => of_nibbles rfl
theorem xBtDisp16 (disp : BitVec 16) : Statement (.xBtDisp16 disp) :=
  fun _ _ => of_nibbles rfl
theorem xLdhf16ImmFpul (imm : BitVec 16) : Statement (.xLdhf16ImmFpul imm) :=
  fun _ _ => of_nibbles rfl
theorem xBfDisp16 (disp : BitVec 16) : Statement (.xBfDisp16 disp) :=
  fun _ _ => of_nibbles rfl
theorem xLdsh16ImmR0 (imm : BitVec 16) : Statement (.xLdsh16ImmR0 imm) :=
  fun _ _ => of_nibbles rfl
theorem xBtsDisp16 (disp : BitVec 16) : Statement (.xBtsDisp16 disp) :=
  fun _ _ => of_nibbles rfl
theorem xBfsDisp16 (disp : BitVec 16) : Statement (.xBfsDisp16 disp) :=
  fun _ _ => of_nibbles rfl
theorem xMovaAtPcDisp13Rn (disp : BitVec 13) (n : BitVec 4) : Statement (.xMovaAtPcDisp13Rn disp n) :=
  fun _ _ => of_nibbles rfl
theorem xMovuWAtPcDisp13Rn (disp : BitVec 13) (n : BitVec 4) : Statement (.xMovuWAtPcDisp13Rn disp n) :=
  fun _ _ => of_nibbles rfl
theorem xFmovSAtPcDisp13FRn (disp : BitVec 13) (n : BitVec 4) : Statement (.xFmovSAtPcDisp13FRn disp n) :=
  fun _ _ => of_nibbles rfl
theorem xMovuWAtPcDisp13RHn (disp : BitVec 13) (n : BitVec 4) : Statement (.xMovuWAtPcDisp13RHn disp n) :=
  fun _ _ => of_nibbles rfl
theorem xFmovSAtPcDisp13XFn (disp : BitVec 13) (n : BitVec 4) : Statement (.xFmovSAtPcDisp13XFn disp n) :=
  fun _ _ => of_nibbles rfl
theorem xMovuWAtPcDisp13RQn (disp : BitVec 13) (n : BitVec 4) : Statement (.xMovuWAtPcDisp13RQn disp n) :=
  fun _ _ => of_nibbles rfl
theorem xFmovDAtPcDisp13YDn (disp : BitVec 13) (n : BitVec 4) : Statement (.xFmovDAtPcDisp13YDn disp n) :=
  fun _ _ => of_nibbles rfl
theorem xFmovDAtPcDisp13DRn (disp : BitVec 13) (n : BitVec 4) : Statement (.xFmovDAtPcDisp13DRn disp n) :=
  fun _ _ => of_nibbles rfl
theorem xBraDisp20 (disp : BitVec 20) : Statement (.xBraDisp20 disp) :=
  fun _ _ => of_nibbles rfl
theorem xBsrDisp20 (disp : BitVec 20) : Statement (.xBsrDisp20 disp) :=
  fun _ _ => of_nibbles rfl
theorem xTstImm12Rn (imm : BitVec 12) (n : BitVec 4) : Statement (.xTstImm12Rn imm n) :=
  fun _ _ => of_nibbles rfl
theorem xAndImm12Rn (imm : BitVec 12) (n : BitVec 4) : Statement (.xAndImm12Rn imm n) :=
  fun _ _ => of_nibbles rfl
theorem xXorImm12Rn (imm : BitVec 12) (n : BitVec 4) : Statement (.xXorImm12Rn imm n) :=
  fun _ _ => of_nibbles rfl
theorem xOrImm12Rn (imm : BitVec 12) (n : BitVec 4) : Statement (.xOrImm12Rn imm n) :=
  fun _ _ => of_nibbles rfl
theorem xMovLAtPcDisp13Rn (disp : BitVec 13) (n : BitVec 4) : Statement (.xMovLAtPcDisp13Rn disp n) :=
  fun _ _ => of_nibbles rfl
theorem xMovWAtPcDisp13Rn (disp : BitVec 13) (n : BitVec 4) : Statement (.xMovWAtPcDisp13Rn disp n) :=
  fun _ _ => of_nibbles rfl
theorem xMovLAtPcDisp13RHn (disp : BitVec 13) (n : BitVec 4) : Statement (.xMovLAtPcDisp13RHn disp n) :=
  fun _ _ => of_nibbles rfl
theorem xMovWAtPcDisp13RHn (disp : BitVec 13) (n : BitVec 4) : Statement (.xMovWAtPcDisp13RHn disp n) :=
  fun _ _ => of_nibbles rfl
theorem xMovLAtPcDisp13RQn (disp : BitVec 13) (n : BitVec 4) : Statement (.xMovLAtPcDisp13RQn disp n) :=
  fun _ _ => of_nibbles rfl
theorem xMovWAtPcDisp13RQn (disp : BitVec 13) (n : BitVec 4) : Statement (.xMovWAtPcDisp13RQn disp n) :=
  fun _ _ => of_nibbles rfl
theorem xMovuLAtPcDisp13RQn (disp : BitVec 13) (n : BitVec 4) : Statement (.xMovuLAtPcDisp13RQn disp n) :=
  fun _ _ => of_nibbles rfl
theorem xMovQAtPcDisp13RQn (disp : BitVec 13) (n : BitVec 4) : Statement (.xMovQAtPcDisp13RQn disp n) :=
  fun _ _ => of_nibbles rfl
theorem xMovImm16Rn (imm : BitVec 16) (n : BitVec 4) : Statement (.xMovImm16Rn imm n) :=
  fun _ _ => of_nibbles rfl
theorem oMovLRmAtRnDisp5 (nx : Bool) (mx : Bool) (bx : Bool) (n : BitVec 4) (m : BitVec 4) (disp : BitVec 4) : Statement (.oMovLRmAtRnDisp5 nx mx bx n m disp) :=
  fun _ _ => of_nibbles rfl
theorem oMovQRmAtRnDisp5 (nx : Bool) (mx : Bool) (bx : Bool) (n : BitVec 4) (m : BitVec 4) (disp : BitVec 4) : Statement (.oMovQRmAtRnDisp5 nx mx bx n m disp) :=
  fun _ _ => of_nibbles rfl
theorem oMovBRmAtRn (q : Bool) (nx : Bool) (mx : Bool) (bx : Bool) (n : BitVec 4) (m : BitVec 4) : Statement (.oMovBRmAtRn q nx mx bx n m) :=
  fun _ _ => of_nibbles rfl
theorem oMovWRmAtRn (q : Bool) (nx : Bool) (mx : Bool) (bx : Bool) (n : BitVec 4) (m : BitVec 4) : Statement (.oMovWRmAtRn q nx mx bx n m) :=
  fun _ _ => of_nibbles rfl
theorem oMovLRmAtRn (q : Bool) (nx : Bool) (mx : Bool) (bx : Bool) (n : BitVec 4) (m : BitVec 4) : Statement (.oMovLRmAtRn q nx mx bx n m) :=
  fun _ _ => of_nibbles rfl
theorem oMovBRmAtDecRn (q : Bool) (nx : Bool) (mx : Bool) (bx : Bool) (n : BitVec 4) (m : BitVec 4) : Statement (.oMovBRmAtDecRn q nx mx bx n m) :=
  fun _ _ => of_nibbles rfl
theorem oMovWRmAtDecRn (q : Bool) (nx : Bool) (mx : Bool) (bx : Bool) (n : BitVec 4) (m : BitVec 4) : Statement (.oMovWRmAtDecRn q nx mx bx n m) :=
  fun _ _ => of_nibbles rfl
theorem oMovLRmAtDecRn (q : Bool) (nx : Bool) (mx : Bool) (bx : Bool) (n : BitVec 4) (m : BitVec 4) : Statement (.oMovLRmAtDecRn q nx mx bx n m) :=
  fun _ _ => of_nibbles rfl
theorem oTstRmRn (q : Bool) (nx : Bool) (mx : Bool) (bx : Bool) (n : BitVec 4) (m : BitVec 4) : Statement (.oTstRmRn q nx mx bx n m) :=
  fun _ _ => of_nibbles rfl
theorem oAndRmRn (q : Bool) (nx : Bool) (mx : Bool) (bx : Bool) (n : BitVec 4) (m : BitVec 4) : Statement (.oAndRmRn q nx mx bx n m) :=
  fun _ _ => of_nibbles rfl
theorem oXorRmRn (q : Bool) (nx : Bool) (mx : Bool) (bx : Bool) (n : BitVec 4) (m : BitVec 4) : Statement (.oXorRmRn q nx mx bx n m) :=
  fun _ _ => of_nibbles rfl
theorem oOrRmRn (q : Bool) (nx : Bool) (mx : Bool) (bx : Bool) (n : BitVec 4) (m : BitVec 4) : Statement (.oOrRmRn q nx mx bx n m) :=
  fun _ _ => of_nibbles rfl
theorem oCmpeqRmRn (q : Bool) (nx : Bool) (mx : Bool) (bx : Bool) (n : BitVec 4) (m : BitVec 4) : Statement (.oCmpeqRmRn q nx mx bx n m) :=
  fun _ _ => of_nibbles rfl
theorem oCmphsRmRn (q : Bool) (nx : Bool) (mx : Bool) (bx : Bool) (n : BitVec 4) (m : BitVec 4) : Statement (.oCmphsRmRn q nx mx bx n m) :=
  fun _ _ => of_nibbles rfl
theorem oCmpgeRmRn (q : Bool) (nx : Bool) (mx : Bool) (bx : Bool) (n : BitVec 4) (m : BitVec 4) : Statement (.oCmpgeRmRn q nx mx bx n m) :=
  fun _ _ => of_nibbles rfl
theorem oCmphiRmRn (q : Bool) (nx : Bool) (mx : Bool) (bx : Bool) (n : BitVec 4) (m : BitVec 4) : Statement (.oCmphiRmRn q nx mx bx n m) :=
  fun _ _ => of_nibbles rfl
theorem oCmpgtRmRn (q : Bool) (nx : Bool) (mx : Bool) (bx : Bool) (n : BitVec 4) (m : BitVec 4) : Statement (.oCmpgtRmRn q nx mx bx n m) :=
  fun _ _ => of_nibbles rfl
theorem oSubRmRn (q : Bool) (nx : Bool) (mx : Bool) (bx : Bool) (n : BitVec 4) (m : BitVec 4) : Statement (.oSubRmRn q nx mx bx n m) :=
  fun _ _ => of_nibbles rfl
theorem oSubcRmRn (q : Bool) (nx : Bool) (mx : Bool) (bx : Bool) (n : BitVec 4) (m : BitVec 4) : Statement (.oSubcRmRn q nx mx bx n m) :=
  fun _ _ => of_nibbles rfl
theorem oSubvRmRn (q : Bool) (nx : Bool) (mx : Bool) (bx : Bool) (n : BitVec 4) (m : BitVec 4) : Statement (.oSubvRmRn q nx mx bx n m) :=
  fun _ _ => of_nibbles rfl
theorem oAddRmRn (q : Bool) (nx : Bool) (mx : Bool) (bx : Bool) (n : BitVec 4) (m : BitVec 4) : Statement (.oAddRmRn q nx mx bx n m) :=
  fun _ _ => of_nibbles rfl
theorem oAddcRmRn (q : Bool) (nx : Bool) (mx : Bool) (bx : Bool) (n : BitVec 4) (m : BitVec 4) : Statement (.oAddcRmRn q nx mx bx n m) :=
  fun _ _ => of_nibbles rfl
theorem oAddvRmRn (q : Bool) (nx : Bool) (mx : Bool) (bx : Bool) (n : BitVec 4) (m : BitVec 4) : Statement (.oAddvRmRn q nx mx bx n m) :=
  fun _ _ => of_nibbles rfl
theorem oMovLAtRmDisp5Rn (nx : Bool) (mx : Bool) (bx : Bool) (n : BitVec 4) (m : BitVec 4) (disp : BitVec 4) : Statement (.oMovLAtRmDisp5Rn nx mx bx n m disp) :=
  fun _ _ => of_nibbles rfl
theorem oMovQAtRmDisp5Rn (nx : Bool) (mx : Bool) (bx : Bool) (n : BitVec 4) (m : BitVec 4) (disp : BitVec 4) : Statement (.oMovQAtRmDisp5Rn nx mx bx n m disp) :=
  fun _ _ => of_nibbles rfl
theorem oMovBAtRmRn (q : Bool) (nx : Bool) (mx : Bool) (bx : Bool) (n : BitVec 4) (m : BitVec 4) : Statement (.oMovBAtRmRn q nx mx bx n m) :=
  fun _ _ => of_nibbles rfl
theorem oMovWAtRmRn (q : Bool) (nx : Bool) (mx : Bool) (bx : Bool) (n : BitVec 4) (m : BitVec 4) : Statement (.oMovWAtRmRn q nx mx bx n m) :=
  fun _ _ => of_nibbles rfl
theorem oMovLAtRmRn (q : Bool) (nx : Bool) (mx : Bool) (bx : Bool) (n : BitVec 4) (m : BitVec 4) : Statement (.oMovLAtRmRn q nx mx bx n m) :=
  fun _ _ => of_nibbles rfl
theorem oMovRmRn (q : Bool) (nx : Bool) (mx : Bool) (bx : Bool) (n : BitVec 4) (m : BitVec 4) : Statement (.oMovRmRn q nx mx bx n m) :=
  fun _ _ => of_nibbles rfl
theorem oMovBAtRmIncRn (q : Bool) (nx : Bool) (mx : Bool) (bx : Bool) (n : BitVec 4) (m : BitVec 4) : Statement (.oMovBAtRmIncRn q nx mx bx n m) :=
  fun _ _ => of_nibbles rfl
theorem oMovWAtRmIncRn (q : Bool) (nx : Bool) (mx : Bool) (bx : Bool) (n : BitVec 4) (m : BitVec 4) : Statement (.oMovWAtRmIncRn q nx mx bx n m) :=
  fun _ _ => of_nibbles rfl
theorem oMovLAtRmIncRn (q : Bool) (nx : Bool) (mx : Bool) (bx : Bool) (n : BitVec 4) (m : BitVec 4) : Statement (.oMovLAtRmIncRn q nx mx bx n m) :=
  fun _ _ => of_nibbles rfl
theorem oNotRmRn (q : Bool) (nx : Bool) (mx : Bool) (bx : Bool) (n : BitVec 4) (m : BitVec 4) : Statement (.oNotRmRn q nx mx bx n m) :=
  fun _ _ => of_nibbles rfl
theorem oNegcRmRn (q : Bool) (nx : Bool) (mx : Bool) (bx : Bool) (n : BitVec 4) (m : BitVec 4) : Statement (.oNegcRmRn q nx mx bx n m) :=
  fun _ _ => of_nibbles rfl
theorem oNegRmRn (q : Bool) (nx : Bool) (mx : Bool) (bx : Bool) (n : BitVec 4) (m : BitVec 4) : Statement (.oNegRmRn q nx mx bx n m) :=
  fun _ _ => of_nibbles rfl
theorem oExtuBRmRn (q : Bool) (nx : Bool) (mx : Bool) (bx : Bool) (n : BitVec 4) (m : BitVec 4) : Statement (.oExtuBRmRn q nx mx bx n m) :=
  fun _ _ => of_nibbles rfl
theorem oExtuWRmRn (q : Bool) (nx : Bool) (mx : Bool) (bx : Bool) (n : BitVec 4) (m : BitVec 4) : Statement (.oExtuWRmRn q nx mx bx n m) :=
  fun _ _ => of_nibbles rfl
theorem oExtsBRmRn (q : Bool) (nx : Bool) (mx : Bool) (bx : Bool) (n : BitVec 4) (m : BitVec 4) : Statement (.oExtsBRmRn q nx mx bx n m) :=
  fun _ _ => of_nibbles rfl
theorem oExtsWRmRn (q : Bool) (nx : Bool) (mx : Bool) (bx : Bool) (n : BitVec 4) (m : BitVec 4) : Statement (.oExtsWRmRn q nx mx bx n m) :=
  fun _ _ => of_nibbles rfl
theorem oMovImm10Rn (q : Bool) (nx : Bool) (mx : Bool) (bx : Bool) (n : BitVec 4) (imm : BitVec 8) : Statement (.oMovImm10Rn q nx mx bx n imm) :=
  fun _ _ => of_nibbles rfl
theorem tAddRsRtRn (nx : Bool) (sx : Bool) (tx : Bool) (n : BitVec 4) (rs : BitVec 4) (rt : BitVec 4) : Statement (.tAddRsRtRn nx sx tx n rs rt) :=
  fun _ _ => of_nibbles rfl
theorem tAddRsRtRnQuad (n : BitVec 4) (rs : BitVec 4) (rt : BitVec 4) : Statement (.tAddRsRtRnQuad n rs rt) :=
  fun _ _ => of_nibbles rfl
theorem tAddLRsImm5Rn (tx : Bool) (n : BitVec 4) (rs : BitVec 4) (rt : BitVec 4) : Statement (.tAddLRsImm5Rn tx n rs rt) :=
  fun _ _ => of_nibbles rfl
theorem tAddQRsImm6Rn (sx : Bool) (tx : Bool) (n : BitVec 4) (rs : BitVec 4) (rt : BitVec 4) : Statement (.tAddQRsImm6Rn sx tx n rs rt) :=
  fun _ _ => of_nibbles rfl
theorem tSubRsRtRn (nx : Bool) (sx : Bool) (tx : Bool) (n : BitVec 4) (rs : BitVec 4) (rt : BitVec 4) : Statement (.tSubRsRtRn nx sx tx n rs rt) :=
  fun _ _ => of_nibbles rfl
theorem tSubRsRtRnQuad (n : BitVec 4) (rs : BitVec 4) (rt : BitVec 4) : Statement (.tSubRsRtRnQuad n rs rt) :=
  fun _ _ => of_nibbles rfl
theorem tSubLRsImm5Rn (tx : Bool) (n : BitVec 4) (rs : BitVec 4) (rt : BitVec 4) : Statement (.tSubLRsImm5Rn tx n rs rt) :=
  fun _ _ => of_nibbles rfl
theorem tSubQRsImm6Rn (sx : Bool) (tx : Bool) (n : BitVec 4) (rs : BitVec 4) (rt : BitVec 4) : Statement (.tSubQRsImm6Rn sx tx n rs rt) :=
  fun _ _ => of_nibbles rfl
theorem tMulRsRtRn (nx : Bool) (sx : Bool) (tx : Bool) (n : BitVec 4) (rs : BitVec 4) (rt : BitVec 4) : Statement (.tMulRsRtRn nx sx tx n rs rt) :=
  fun _ _ => of_nibbles rfl
theorem tMulRsRtRnQuad (n : BitVec 4) (rs : BitVec 4) (rt : BitVec 4) : Statement (.tMulRsRtRnQuad n rs rt) :=
  fun _ _ => of_nibbles rfl
theorem tAndRsRtRn (nx : Bool) (sx : Bool) (tx : Bool) (n : BitVec 4) (rs : BitVec 4) (rt : BitVec 4) : Statement (.tAndRsRtRn nx sx tx n rs rt) :=
  fun _ _ => of_nibbles rfl
theorem tAndRsRtRnQuad (n : BitVec 4) (rs : BitVec 4) (rt : BitVec 4) : Statement (.tAndRsRtRnQuad n rs rt) :=
  fun _ _ => of_nibbles rfl
theorem tOrRsRtRn (nx : Bool) (sx : Bool) (tx : Bool) (n : BitVec 4) (rs : BitVec 4) (rt : BitVec 4) : Statement (.tOrRsRtRn nx sx tx n rs rt) :=
  fun _ _ => of_nibbles rfl
theorem tOrRsRtRnQuad (n : BitVec 4) (rs : BitVec 4) (rt : BitVec 4) : Statement (.tOrRsRtRnQuad n rs rt) :=
  fun _ _ => of_nibbles rfl
theorem tXorRsRtRn (nx : Bool) (sx : Bool) (tx : Bool) (n : BitVec 4) (rs : BitVec 4) (rt : BitVec 4) : Statement (.tXorRsRtRn nx sx tx n rs rt) :=
  fun _ _ => of_nibbles rfl
theorem tXorRsRtRnQuad (n : BitVec 4) (rs : BitVec 4) (rt : BitVec 4) : Statement (.tXorRsRtRnQuad n rs rt) :=
  fun _ _ => of_nibbles rfl
theorem tShllRsRtRn (nx : Bool) (sx : Bool) (tx : Bool) (n : BitVec 4) (rs : BitVec 4) (rt : BitVec 4) : Statement (.tShllRsRtRn nx sx tx n rs rt) :=
  fun _ _ => of_nibbles rfl
theorem tShllRsRtRnQuad (n : BitVec 4) (rs : BitVec 4) (rt : BitVec 4) : Statement (.tShllRsRtRnQuad n rs rt) :=
  fun _ _ => of_nibbles rfl
theorem tShllLRsImm5Rn (tx : Bool) (n : BitVec 4) (rs : BitVec 4) (rt : BitVec 4) : Statement (.tShllLRsImm5Rn tx n rs rt) :=
  fun _ _ => of_nibbles rfl
theorem tShllQRsImm6Rn (sx : Bool) (tx : Bool) (n : BitVec 4) (rs : BitVec 4) (rt : BitVec 4) : Statement (.tShllQRsImm6Rn sx tx n rs rt) :=
  fun _ _ => of_nibbles rfl
theorem tShlrRsRtRn (nx : Bool) (sx : Bool) (tx : Bool) (n : BitVec 4) (rs : BitVec 4) (rt : BitVec 4) : Statement (.tShlrRsRtRn nx sx tx n rs rt) :=
  fun _ _ => of_nibbles rfl
theorem tShlrRsRtRnQuad (n : BitVec 4) (rs : BitVec 4) (rt : BitVec 4) : Statement (.tShlrRsRtRnQuad n rs rt) :=
  fun _ _ => of_nibbles rfl
theorem tShlrLRsImm5Rn (tx : Bool) (n : BitVec 4) (rs : BitVec 4) (rt : BitVec 4) : Statement (.tShlrLRsImm5Rn tx n rs rt) :=
  fun _ _ => of_nibbles rfl
theorem tShlrQRsImm6Rn (sx : Bool) (tx : Bool) (n : BitVec 4) (rs : BitVec 4) (rt : BitVec 4) : Statement (.tShlrQRsImm6Rn sx tx n rs rt) :=
  fun _ _ => of_nibbles rfl
theorem tSharRsRtRn (nx : Bool) (sx : Bool) (tx : Bool) (n : BitVec 4) (rs : BitVec 4) (rt : BitVec 4) : Statement (.tSharRsRtRn nx sx tx n rs rt) :=
  fun _ _ => of_nibbles rfl
theorem tSharRsRtRnQuad (n : BitVec 4) (rs : BitVec 4) (rt : BitVec 4) : Statement (.tSharRsRtRnQuad n rs rt) :=
  fun _ _ => of_nibbles rfl
theorem tSharLRsImm5Rn (tx : Bool) (n : BitVec 4) (rs : BitVec 4) (rt : BitVec 4) : Statement (.tSharLRsImm5Rn tx n rs rt) :=
  fun _ _ => of_nibbles rfl
theorem tSharQRsImm6Rn (sx : Bool) (tx : Bool) (n : BitVec 4) (rs : BitVec 4) (rt : BitVec 4) : Statement (.tSharQRsImm6Rn sx tx n rs rt) :=
  fun _ _ => of_nibbles rfl
theorem tFaddFRsFRtFRn (q : Bool) (nx : Bool) (sx : Bool) (tx : Bool) (n : BitVec 4) (rs : BitVec 4) (rt : BitVec 4) : Statement (.tFaddFRsFRtFRn q nx sx tx n rs rt) :=
  fun _ _ => of_nibbles rfl
theorem tFsubFRsFRtFRn (q : Bool) (nx : Bool) (sx : Bool) (tx : Bool) (n : BitVec 4) (rs : BitVec 4) (rt : BitVec 4) : Statement (.tFsubFRsFRtFRn q nx sx tx n rs rt) :=
  fun _ _ => of_nibbles rfl
theorem tFmulFRsFRtFRn (q : Bool) (nx : Bool) (sx : Bool) (tx : Bool) (n : BitVec 4) (rs : BitVec 4) (rt : BitVec 4) : Statement (.tFmulFRsFRtFRn q nx sx tx n rs rt) :=
  fun _ _ => of_nibbles rfl
theorem tFdivFRsFRtFRn (q : Bool) (nx : Bool) (sx : Bool) (tx : Bool) (n : BitVec 4) (rs : BitVec 4) (rt : BitVec 4) : Statement (.tFdivFRsFRtFRn q nx sx tx n rs rt) :=
  fun _ _ => of_nibbles rfl
theorem movi24Imm24R0 (imm : BitVec 24) : Statement (.movi24Imm24R0 imm) :=
  fun _ _ => of_nibbles rfl
theorem movi20ImmRn (n : BitVec 4) (imm : BitVec 20) : Statement (.movi20ImmRn n imm) :=
  fun _ _ => of_nibbles rfl
theorem movi20sImmRn (n : BitVec 4) (imm : BitVec 20) : Statement (.movi20sImmRn n imm) :=
  fun _ _ => of_nibbles rfl
theorem wMovBRmAtRnDisp (n : BitVec 4) (m : BitVec 4) (disp : BitVec 12) : Statement (.wMovBRmAtRnDisp n m disp) :=
  fun _ _ => of_nibbles rfl
theorem wMovWRmAtRnDisp (n : BitVec 4) (m : BitVec 4) (disp : BitVec 12) : Statement (.wMovWRmAtRnDisp n m disp) :=
  fun _ _ => of_nibbles rfl
theorem wMovLRmAtRnDisp (n : BitVec 4) (m : BitVec 4) (disp : BitVec 12) : Statement (.wMovLRmAtRnDisp n m disp) :=
  fun _ _ => of_nibbles rfl
theorem wFmovSFRmAtRnDisp (n : BitVec 4) (m : BitVec 4) (disp : BitVec 12) : Statement (.wFmovSFRmAtRnDisp n m disp) :=
  fun _ _ => of_nibbles rfl
theorem wMovBAtRmDispRn (n : BitVec 4) (m : BitVec 4) (disp : BitVec 12) : Statement (.wMovBAtRmDispRn n m disp) :=
  fun _ _ => of_nibbles rfl
theorem wMovWAtRmDispRn (n : BitVec 4) (m : BitVec 4) (disp : BitVec 12) : Statement (.wMovWAtRmDispRn n m disp) :=
  fun _ _ => of_nibbles rfl
theorem wMovLAtRmDispRn (n : BitVec 4) (m : BitVec 4) (disp : BitVec 12) : Statement (.wMovLAtRmDispRn n m disp) :=
  fun _ _ => of_nibbles rfl
theorem wFmovSAtRmDispFRn (n : BitVec 4) (m : BitVec 4) (disp : BitVec 12) : Statement (.wFmovSAtRmDispFRn n m disp) :=
  fun _ _ => of_nibbles rfl
theorem wMovuBAtRmDispRn (n : BitVec 4) (m : BitVec 4) (disp : BitVec 12) : Statement (.wMovuBAtRmDispRn n m disp) :=
  fun _ _ => of_nibbles rfl
theorem wMovuWAtRmDispRn (n : BitVec 4) (m : BitVec 4) (disp : BitVec 12) : Statement (.wMovuWAtRmDispRn n m disp) :=
  fun _ _ => of_nibbles rfl
theorem zAddQImm48Rn (n : BitVec 4) (imm : BitVec 48) : Statement (.zAddQImm48Rn n imm) :=
  fun jq h => by
    have hj : jq = true := h
    subst hj
    exact of_nibbles rfl
theorem zBraDisp48 (disp : BitVec 48) : Statement (.zBraDisp48 disp) :=
  fun jq h => by
    have hj : jq = true := h
    subst hj
    exact of_nibbles rfl
theorem zBsrDisp48 (disp : BitVec 48) : Statement (.zBsrDisp48 disp) :=
  fun jq h => by
    have hj : jq = true := h
    subst hj
    exact of_nibbles rfl
theorem zMovQImm48Rn (n : BitVec 4) (imm : BitVec 48) : Statement (.zMovQImm48Rn n imm) :=
  fun jq h => by
    have hj : jq = true := h
    subst hj
    exact of_nibbles rfl
theorem resXpfx1 (p : BitVec 8) : Statement (.resXpfx1 p) :=
  fun _ _ => of_nibbles rfl
theorem resXpfx3 (p : BitVec 8) : Statement (.resXpfx3 p) :=
  fun _ _ => of_nibbles rfl
theorem resXpfx4 (p : BitVec 8) : Statement (.resXpfx4 p) :=
  fun _ _ => of_nibbles rfl
theorem resXpfx5 (p : BitVec 8) : Statement (.resXpfx5 p) :=
  fun _ _ => of_nibbles rfl
theorem resXpfy0 (p : BitVec 8) : Statement (.resXpfy0 p) :=
  fun jq h => by
    have hj : jq = true := h
    subst hj
    exact of_nibbles rfl
theorem resXpfy1 (p : BitVec 8) : Statement (.resXpfy1 p) :=
  fun jq h => by
    have hj : jq = true := h
    subst hj
    exact of_nibbles rfl
theorem resXpfz1 (p : BitVec 8) : Statement (.resXpfz1 p) :=
  fun jq h => by
    have hj : jq = true := h
    subst hj
    exact of_nibbles rfl
theorem resXpfv0 (p : BitVec 8) : Statement (.resXpfv0 p) :=
  fun _ _ => of_nibbles rfl
theorem res3xx9 (p : BitVec 8) : Statement (.res3xx9 p) :=
  fun _ _ => of_nibbles rfl
theorem res8C1x (p : BitVec 4) : Statement (.res8C1x p) :=
  fun _ _ => of_nibbles rfl
theorem res8C2x (p : BitVec 4) : Statement (.res8C2x p) :=
  fun _ _ => of_nibbles rfl
theorem res8C4x (p : BitVec 4) : Statement (.res8C4x p) :=
  fun _ _ => of_nibbles rfl
theorem res8C5x (p : BitVec 4) : Statement (.res8C5x p) :=
  fun _ _ => of_nibbles rfl
theorem res8C6x (p : BitVec 4) : Statement (.res8C6x p) :=
  fun _ _ => of_nibbles rfl
theorem res8C7x (p : BitVec 4) : Statement (.res8C7x p) :=
  fun _ _ => of_nibbles rfl
theorem res8C8x (p : BitVec 7) : Statement (.res8C8x p) :=
  fun _ _ => of_nibbles (if_pos (top_of_one (p.extractLsb' 4 3)))
theorem resTacb9 (p : BitVec 4) (r : BitVec 12) : Statement (.resTacb9 p r) :=
  fun _ _ => of_nibbles rfl
theorem resTacbA (p : BitVec 4) (r : BitVec 12) : Statement (.resTacbA p r) :=
  fun _ _ => of_nibbles rfl
theorem resTacbB (p : BitVec 4) (r : BitVec 12) : Statement (.resTacbB p r) :=
  fun _ _ => of_nibbles rfl

end Sys2Proof.Laws.EncodeLength
end

