-- ==== Sys2Proof/Tests/Slice0.lean ====
section
/-! SUPPORT. Tests/Slice0.lean: the well-formedness smoke tests, words decoded by hand, worked examples of the spec, and
for each obligation with hypotheses a state and operands that meet them. -/
namespace Sys2Proof.Tests
open Sys2Proof.Machine
set_option Elab.async false

/-! ### States -/

/-- The core right after reset: JQ = 1, DQ = 0, supervisor, every register 0. -/
abbrev z : State := State.reset

/-- A BJX1-32 core without high halves. -/
def narrow : State := (State.blank Config.default32).performReset

/-- DQ = 1. -/
def quad : State := z.setSrBit 12 true

/-- User mode. -/
def user : State := z.setSrBit 30 false

/-- In the delay slot of a branch at 0x100 to 0x200. -/
def inSlot : State := { z with ds := some ⟨0x200, 0x100, false⟩, pc := 0x102 }

/-- A core with every optional form. -/
def allForms : State :=
  (State.blank { Config.default with hasXpfz0 := true, hasFmovdDisp := true, hasMisc32 := true }).performReset

/-- Every register that addresses memory holds 2^47 + 4096, which is not canonical; so is PC + 4. -/
def badAddress : State :=
  { z with
    gb := Vector.replicate 8 0x800000001000
    g := Vector.replicate 8 0x800000001000
    pc := 0x7FFFFFFFFFFC }

/-- User mode on BJX1-32 with GBR at the first supervisor address. -/
def badNarrow : State := { narrow with sr := 0, gbr := 0x80000000 }

/-- R1 addresses memory, R2 does not. -/
def badSecond : State := z.setR 2 0x800000000000

/-- Whether a read is allowed. -/
def canRead (s : State) (align : Nat) (ea : Quad) : Bool :=
  match s.resolve .read s.md align ea with
  | .ok _ => true
  | .error _ => false

/-- Whether a read raises an exception. -/
def cannotRead (s : State) (align : Nat) (ea : Quad) : Bool :=
  match s.resolve .read s.md align ea with
  | .error (.exc _) => true
  | _ => false

/-- Whether a write is allowed. -/
def canWrite (s : State) (align : Nat) (ea : Quad) : Bool :=
  match s.resolve .write s.md align ea with
  | .ok _ => true
  | .error _ => false

/-- Whether a write raises an exception. -/
def cannotWrite (s : State) (align : Nat) (ea : Quad) : Bool :=
  match s.resolve .write s.md align ea with
  | .error (.exc _) => true
  | _ => false

/-! ### Hypotheses of the statements about instructions -/

theorem witness_plainStores :
    Memory.wf z.mem ∧
    canWrite z 1 (z.r 1) = true ∧
    cannotWrite badAddress 1 (badAddress.r 1) = true ∧
    canWrite z 2 (z.r 1) = true ∧
    cannotWrite badAddress 2 (badAddress.r 1) = true ∧
    canWrite z 4 (z.r 1) = true ∧
    cannotWrite badAddress 4 (badAddress.r 1) = true ∧
    canWrite z 1 (z.r 1 - 1) = true ∧
    cannotWrite badAddress 1 (badAddress.r 1 - 1) = true ∧
    canWrite z 2 (z.r 1 - 2) = true ∧
    cannotWrite badAddress 2 (badAddress.r 1 - 2) = true ∧
    canWrite z 4 (z.r 1 - 4) = true ∧
    cannotWrite badAddress 4 (badAddress.r 1 - 4) = true ∧
    canWrite z 1 (z.r 0 + z.r 1) = true ∧
    cannotWrite badAddress 1 (badAddress.r 0 + badAddress.r 1) = true ∧
    canWrite z 2 (z.r 0 + z.r 1) = true ∧
    cannotWrite badAddress 2 (badAddress.r 0 + badAddress.r 1) = true ∧
    canWrite z 4 (z.r 0 + z.r 1) = true ∧
    cannotWrite badAddress 4 (badAddress.r 0 + badAddress.r 1) = true := by
  decide +kernel

theorem witness_plainLoads :
    canRead z 1 (z.r 2) = true ∧
    cannotRead badAddress 1 (badAddress.r 2) = true ∧
    canRead z 2 (z.r 2) = true ∧
    cannotRead badAddress 2 (badAddress.r 2) = true ∧
    canRead z 4 (z.r 2) = true ∧
    cannotRead badAddress 4 (badAddress.r 2) = true ∧
    canRead z 1 (z.r 0 + z.r 2) = true ∧
    cannotRead badAddress 1 (badAddress.r 0 + badAddress.r 2) = true ∧
    canRead z 2 (z.r 0 + z.r 2) = true ∧
    cannotRead badAddress 2 (badAddress.r 0 + badAddress.r 2) = true ∧
    canRead z 4 (z.r 0 + z.r 2) = true ∧
    cannotRead badAddress 4 (badAddress.r 0 + badAddress.r 2) = true := by
  decide +kernel

theorem witness_pcAndGbrTransfers :
    Memory.wf z.mem ∧
    z.ds = none ∧
    canRead z 2 (z.addr (z.pcn + 4)) = true ∧
    cannotRead badAddress 2 (badAddress.addr (badAddress.pcn + 4)) = true ∧
    canRead z 4 ((z.addr (z.pcn + 4) &&& ~~~3#64)) = true ∧
    cannotRead badAddress 4 ((badAddress.addr (badAddress.pcn + 4) &&& ~~~3#64)) = true ∧
    inSlot.ds.isSome = true ∧
    narrow.jq = false ∧
    canWrite narrow 1 (narrow.gbr) = true ∧
    cannotWrite badNarrow 1 (badNarrow.gbr) = true ∧
    z.jq = true ∧
    canWrite narrow 2 (narrow.gbr) = true ∧
    cannotWrite badNarrow 2 (badNarrow.gbr) = true ∧
    canWrite narrow 4 (narrow.gbr) = true ∧
    cannotWrite badNarrow 4 (badNarrow.gbr) = true ∧
    canRead narrow 1 (narrow.gbr) = true ∧
    cannotRead badNarrow 1 (badNarrow.gbr) = true ∧
    canRead narrow 2 (narrow.gbr) = true ∧
    cannotRead badNarrow 2 (badNarrow.gbr) = true ∧
    canRead narrow 4 (narrow.gbr) = true ∧
    cannotRead badNarrow 4 (badNarrow.gbr) = true := by
  decide +kernel

theorem witness_stackAndR0Transfers :
    Memory.wf z.mem ∧
    canWrite z 2 (z.r 1) = true ∧
    cannotWrite badAddress 2 (badAddress.r 1) = true ∧
    canRead z 2 (z.r 2) = true ∧
    cannotRead badAddress 2 (badAddress.r 2) = true ∧
    canWrite z 1 (z.r 1) = true ∧
    cannotWrite badAddress 1 (badAddress.r 1) = true ∧
    canWrite z 4 (z.r 1) = true ∧
    cannotWrite badAddress 4 (badAddress.r 1) = true ∧
    canRead z 1 (z.r 2 - 1) = true ∧
    cannotRead badAddress 1 (badAddress.r 2 - 1) = true ∧
    canRead z 2 (z.r 2 - 2) = true ∧
    cannotRead badAddress 2 (badAddress.r 2 - 2) = true ∧
    canRead z 4 (z.r 2 - 4) = true ∧
    cannotRead badAddress 4 (badAddress.r 2 - 4) = true ∧
    canWrite z 4 (z.r 15 - 8) = true ∧
    cannotWrite badAddress 4 (badAddress.r 15 - 8) = true ∧
    canRead z 4 (z.r 15) = true ∧
    cannotRead badAddress 4 (badAddress.r 15) = true ∧
    z.jq = true ∧
    canRead z 4 (z.r 0) = true ∧
    cannotRead badAddress 4 (badAddress.r 0) = true ∧
    canWrite z 4 (z.r 0) = true ∧
    cannotWrite badAddress 4 (badAddress.r 0) = true ∧
    narrow.jq = false ∧
    canRead z 1 (z.r 2) = true ∧
    cannotRead badAddress 1 (badAddress.r 2) = true ∧
    canWrite z 1 (z.r 2) = true ∧
    cannotWrite badAddress 1 (badAddress.r 2) = true ∧
    canWrite z 1 (z.r 2 - 4) = true ∧
    cannotWrite badAddress 1 (badAddress.r 2 - 4) = true := by
  decide +kernel

theorem witness_readModifyWrite :
    Memory.wf z.mem ∧
    canRead z 1 (z.r 1) = true ∧
    canWrite z 1 (z.r 1) = true ∧
    cannotRead badAddress 1 (badAddress.r 1) = true ∧
    narrow.jq = false ∧
    canRead narrow 1 (narrow.gbr + narrow.r 0) = true ∧
    canWrite narrow 1 (narrow.gbr + narrow.r 0) = true ∧
    cannotRead badNarrow 1 (badNarrow.gbr + badNarrow.r 0) = true ∧
    z.jq = true ∧
    canRead z 4 (z.r 0) = true ∧
    canWrite z 4 (z.r 0) = true ∧
    cannotRead badAddress 4 (badAddress.r 0) = true ∧
    lo32 (ofBytes z.cfg.endian (bytesAt z.mem 0 4)) = lo32 (z.r 2) ∧
    lo32 (ofBytes z.cfg.endian (bytesAt z.mem 0 4)) ≠ lo32 ((z.setR 2 1).r 2) := by
  decide +kernel

theorem witness_extendAndHalfRegisters :
    z.hasRh = true ∧
    narrow.hasRh = false := by
  decide +kernel

theorem witness_multiplyAndDivide :
    canRead z 4 (z.r 1) = true ∧
    canRead z 4 ((z.writeA 1 (z.r 1 + 4)).r 2) = true ∧
    cannotRead badAddress 4 (badAddress.r 1) = true ∧
    canRead badSecond 4 (badSecond.r 1) = true ∧
    cannotRead badSecond 4 ((badSecond.writeA 1 (badSecond.r 1 + 4)).r 2) = true ∧
    z.dq = false ∧
    canRead z 2 (z.r 1) = true ∧
    canRead z 2 ((z.writeA 1 (z.r 1 + 2)).r 2) = true ∧
    cannotRead badAddress 2 (badAddress.r 1) = true ∧
    canRead badSecond 2 (badSecond.r 1) = true ∧
    cannotRead badSecond 2 ((badSecond.writeA 1 (badSecond.r 1 + 2)).r 2) = true ∧
    quad.dq = true := by
  decide +kernel

theorem witness_branches16 :
    z.ds = none ∧
    inSlot.ds.isSome = true := by
  decide +kernel

theorem witness_systemRegisterMoves : z.md = true := by decide

theorem witness_systemFpuTransfers :
    Memory.wf z.mem ∧
    (z.cfg.fpu = .basic ∧ z.fd = false) ∧
    canWrite z 4 (z.r 1 - 8) = true ∧
    cannotWrite badAddress 4 (badAddress.r 1 - 8) = true ∧
    canRead z 4 (z.r 2) = true ∧
    cannotRead badAddress 4 (badAddress.r 2) = true := by
  decide +kernel

theorem witness_systemRegisterMemory :
    Memory.wf z.mem ∧
    canWrite z 4 (z.r 1 - 8) = true ∧
    cannotWrite badAddress 4 (badAddress.r 1 - 8) = true ∧
    z.md = true ∧
    canRead z 4 (z.r 2) = true ∧
    cannotRead badAddress 4 (badAddress.r 2) = true := by
  decide +kernel

theorem witness_flagsModesAndHints :
    z.md = true ∧
    z.ds = none ∧
    z.is64 = true ∧
    z.cfg.modeOpsPrivileged = false ∧
    (narrow.is64 = false ∨ narrow.cfg.modeOpsPrivileged = true ∧ narrow.md = false) := by
  decide +kernel

theorem witness_trapBreakAndReturn :
    z.ds = none ∧
    z.md = true := by
  decide +kernel

theorem witness_fpArithmetic : z.cfg.fpu = .basic ∧ z.fd = false := by decide

theorem witness_fpMovesAndModes : z.cfg.fpu = .basic ∧ z.fd = false := by decide

theorem witness_fpTransfers :
    Memory.wf z.mem ∧
    (z.cfg.fpu = .basic ∧ z.fd = false) ∧
    z.ds = none ∧
    z.hasRh = true ∧
    vvKind 0xC = none ∧
    vvX 0x2 = true ∧
    vvY 0x1 = true ∧
    wfMove 0x10 = false ∧
    wfMove 0x02 = false ∧
    wfMove 0x71 = false ∧
    wfMove 0xF0 = false ∧
    narrow.hasRh = false ∧
    canRead z 4 (z.r 2) = true ∧
    canRead z 4 (z.r 0 + z.r 2) = true ∧
    canWrite z 4 (z.r 1 - 4) = true ∧
    canWrite z 4 (z.r 1 - 8) = true ∧
    cannotRead badAddress 4 (badAddress.r 2) = true ∧
    cannotWrite badAddress 4 (badAddress.r 1 - 4) = true ∧
    (vvKind 0x0 = some .single ∧ vvX 0x0 = false ∧ vvY 0x0 = false) ∧
    (vvKind 0x5 = some .pair ∧ vvX 0x5 = false) ∧
    (vvKind 0xA = some .double ∧ vvY 0xA = false) ∧
    (0x03F : BitVec 12).extractLsb' 6 6 = 0 ∧
    (0x040 : BitVec 12).extractLsb' 6 6 ≠ 0 := by
  decide +kernel

theorem witness_wideStores :
    Memory.wf z.mem ∧
    z.ds = none ∧
    canWrite z 1 (z.r 1 + (z.r 3) * 1) = true ∧
    cannotWrite badAddress 1 (badAddress.r 1 + (badAddress.r 3) * 1) = true ∧
    canWrite z 2 (z.r 1 + (z.r 3) * 2) = true ∧
    cannotWrite badAddress 2 (badAddress.r 1 + (badAddress.r 3) * 2) = true ∧
    canWrite z 4 (z.r 1 + (z.r 3) * 4) = true ∧
    cannotWrite badAddress 4 (badAddress.r 1 + (badAddress.r 3) * 4) = true ∧
    z.jq = true ∧
    canWrite z 4 (z.r 1 + (z.r 3) * 8) = true ∧
    cannotWrite badAddress 4 (badAddress.r 1 + (badAddress.r 3) * 8) = true ∧
    canWrite z 1 (z.r 1) = true ∧
    cannotWrite badAddress 1 (badAddress.r 1) = true ∧
    canWrite z 2 (z.r 1) = true ∧
    cannotWrite badAddress 2 (badAddress.r 1) = true ∧
    canWrite z 4 (z.r 1) = true ∧
    cannotWrite badAddress 4 (badAddress.r 1) = true ∧
    canWrite z 1 (z.r 1 - 1) = true ∧
    cannotWrite badAddress 1 (badAddress.r 1 - 1) = true ∧
    canWrite z 2 (z.r 1 - 2) = true ∧
    cannotWrite badAddress 2 (badAddress.r 1 - 2) = true ∧
    canWrite z 4 (z.r 1 - 4) = true ∧
    cannotWrite badAddress 4 (badAddress.r 1 - 4) = true ∧
    canWrite z 4 (z.r 1 - 8) = true ∧
    cannotWrite badAddress 4 (badAddress.r 1 - 8) = true ∧
    narrow.jq = false := by
  decide +kernel

theorem witness_wideLoads :
    z.ds = none ∧
    canRead z 1 (z.r 2 + (z.r 3) * 1) = true ∧
    cannotRead badAddress 1 (badAddress.r 2 + (badAddress.r 3) * 1) = true ∧
    canRead z 2 (z.r 2 + (z.r 3) * 2) = true ∧
    cannotRead badAddress 2 (badAddress.r 2 + (badAddress.r 3) * 2) = true ∧
    canRead z 4 (z.r 2 + (z.r 3) * 4) = true ∧
    cannotRead badAddress 4 (badAddress.r 2 + (badAddress.r 3) * 4) = true ∧
    z.jq = true ∧
    canRead z 4 (z.r 2 + (z.r 3) * 8) = true ∧
    cannotRead badAddress 4 (badAddress.r 2 + (badAddress.r 3) * 8) = true ∧
    canRead z 1 (z.r 2) = true ∧
    cannotRead badAddress 1 (badAddress.r 2) = true ∧
    canRead z 2 (z.r 2) = true ∧
    cannotRead badAddress 2 (badAddress.r 2) = true ∧
    canRead z 4 (z.r 2) = true ∧
    cannotRead badAddress 4 (badAddress.r 2) = true ∧
    narrow.jq = false := by
  decide +kernel

theorem witness_wideFloatingPoint :
    Memory.wf z.mem ∧
    z.ds = none ∧
    (z.cfg.fpu = .basic ∧ z.fd = false) ∧
    canWrite z 4 (z.r 1) = true ∧
    cannotWrite badAddress 4 (badAddress.r 1) = true ∧
    allForms.ds = none ∧
    (allForms.cfg.fpu = .basic ∧ allForms.fd = false) ∧
    allForms.cfg.hasFmovdDisp = true ∧
    canWrite allForms 4 (allForms.r 1) = true ∧
    canRead z 4 (z.r 2) = true ∧
    cannotRead badAddress 4 (badAddress.r 2) = true ∧
    canRead allForms 4 (allForms.r 2) = true ∧
    z.cfg.hasFmovdDisp = false ∧
    canRead z 4 ((z.addr (z.pcn + 6) &&& ~~~3#64)) = true ∧
    cannotRead badAddress 4 ((badAddress.addr (badAddress.pcn + 6) &&& ~~~3#64)) = true := by
  decide +kernel

theorem witness_wideArithmetic : z.ds = none := by decide

theorem witness_wideCompareLogicAndAddress : z.ds = none := by decide

theorem witness_wideBranches :
    z.ds = none ∧
    inSlot.ds.isSome = true := by
  decide +kernel

theorem witness_widePcLoads :
    z.ds = none ∧
    canRead z 2 (z.addr (z.pcn + 6)) = true ∧
    cannotRead badAddress 2 (badAddress.addr (badAddress.pcn + 6)) = true ∧
    z.hasRh = true ∧
    narrow.hasRh = false ∧
    canRead z 4 ((z.addr (z.pcn + 6) &&& ~~~3#64)) = true ∧
    cannotRead badAddress 4 ((badAddress.addr (badAddress.pcn + 6) &&& ~~~3#64)) = true ∧
    z.jq = true ∧
    narrow.jq = false := by
  decide +kernel

theorem witness_oprexTransfers :
    Memory.wf z.mem ∧
    z.ds = none ∧
    canWrite z 4 (z.r 1) = true ∧
    cannotWrite badAddress 4 (badAddress.r 1) = true ∧
    z.jq = true ∧
    z.hasRh = true ∧
    narrow.hasRh = false ∧
    narrow.jq = false ∧
    canWrite z 1 (z.r 1) = true ∧
    cannotWrite badAddress 1 (badAddress.r 1) = true ∧
    canWrite z 2 (z.r 1) = true ∧
    cannotWrite badAddress 2 (badAddress.r 1) = true ∧
    canWrite z 1 (z.r 1 - 1) = true ∧
    cannotWrite badAddress 1 (badAddress.r 1 - 1) = true ∧
    canWrite z 2 (z.r 1 - 2) = true ∧
    cannotWrite badAddress 2 (badAddress.r 1 - 2) = true ∧
    canWrite z 4 (z.r 1 - 4) = true ∧
    cannotWrite badAddress 4 (badAddress.r 1 - 4) = true ∧
    canRead z 4 (z.r 2) = true ∧
    cannotRead badAddress 4 (badAddress.r 2) = true ∧
    canRead z 1 (z.r 1) = true ∧
    cannotRead badAddress 1 (badAddress.r 1) = true ∧
    canRead z 2 (z.r 1) = true ∧
    cannotRead badAddress 2 (badAddress.r 1) = true ∧
    canRead z 4 (z.r 1) = true ∧
    cannotRead badAddress 4 (badAddress.r 1) = true := by
  decide +kernel

theorem witness_oprexArithmetic :
    z.ds = none ∧
    z.hasRh = true ∧
    z.jq = true ∧
    narrow.hasRh = false ∧
    narrow.jq = false := by
  decide +kernel

theorem witness_threeAddressForms :
    z.ds = none ∧
    z.hasRh = true ∧
    z.jq = true ∧
    narrow.hasRh = false ∧
    narrow.jq = false ∧
    0 ≤ (z.r 2).toInt ∧
    ((z.setR 2 (-1)).r 2).toInt < 0 ∧
    ((z.setR 2 (-1)).half false 2).toInt < 0 := by
  decide +kernel

theorem witness_gatedLongForms :
    Memory.wf z.mem ∧
    allForms.ds = none ∧
    allForms.cfg.hasMisc32 = true ∧
    canWrite allForms 1 (allForms.r 1) = true ∧
    cannotWrite badAddress 1 (badAddress.r 1) = true ∧
    canWrite allForms 2 (allForms.r 1) = true ∧
    cannotWrite badAddress 2 (badAddress.r 1) = true ∧
    canWrite allForms 4 (allForms.r 1) = true ∧
    cannotWrite badAddress 4 (badAddress.r 1) = true ∧
    (allForms.cfg.fpu = .basic ∧ allForms.fd = false) ∧
    canRead allForms 1 (allForms.r 2) = true ∧
    cannotRead badAddress 1 (badAddress.r 2) = true ∧
    canRead allForms 2 (allForms.r 2) = true ∧
    cannotRead badAddress 2 (badAddress.r 2) = true ∧
    canRead allForms 4 (allForms.r 2) = true ∧
    cannotRead badAddress 4 (badAddress.r 2) = true ∧
    z.cfg.hasMisc32 = false ∧
    allForms.cfg.hasXpfz0 = true ∧
    allForms.jq = true ∧
    z.cfg.hasXpfz0 = false := by
  decide +kernel

/-! ### Hypotheses of the statements about the machine -/

/-- MOV R2,R1 at PC. -/
def ready : State := z.withFetchWord 16 0x6123

/-- RTE at PC, in user mode. -/
def userRte : State := user.withFetchWord 16 0x002B

/-- An interrupt of level 15 with IM = 14. -/
def pending : State := { z with sr := 0x400000E0, irq := ⟨0xC000, false⟩ }

theorem witness_roundTrip :
    wellFormed (.movRmRn 1 2) = true ∧ Instr.legalIn (.movRmRn 1 2) true = true ∧
    wellFormed (.xorBImmAtGbrR0 0x71) = true ∧ Instr.legalIn (.xorBImmAtGbrR0 0x71) false = true ∧
    wellFormed (.zAddQImm48Rn 1 5) = true ∧ Instr.legalIn (.zAddQImm48Rn 1 5) true = true := ⟨rfl, rfl, rfl, rfl, rfl, rfl⟩

theorem witness_stepRunsFetched :
    ready.resetReq = false ∧ ready.acceptable = none ∧ ready.sleeping = false ∧
    ready.fetchInstr = .ok (.movRmRn 1 2, ready) := ⟨rfl, rfl, rfl, rfl⟩

theorem witness_stepRunsDecoded :
    ready.resetReq = false ∧ ready.acceptable = none ∧ ready.sleeping = false ∧ wellFormed (.movRmRn 1 2) = true ∧
    Instr.legalIn (.movRmRn 1 2) ready.jq = true ∧ ready.CodeAt ready.pcn (encode (.movRmRn 1 2)) :=
  ⟨rfl, rfl, rfl, rfl, rfl, ⟨0, rfl, rfl⟩, rfl, trivial⟩

theorem witness_resetValues : z.performReset = z := by decide

theorem witness_stepKeepsInv : ready.Inv ∧ ∃ t, step ready = .next t :=
  ⟨⟨by decide, by decide, by decide, by decide, by decide, by decide, by decide⟩, _, rfl⟩

theorem witness_stepKeepsConfigAndInputs : ∃ t, step ready = .next t := ⟨_, rfl⟩

theorem witness_trapEntryEffect : z.is64 = true ∧ narrow.is64 = false ∧ (0 : Nat) ∉ [28, 29, 30] := by decide

theorem witness_synchronousTraps :
    z.ds = none ∧ inSlot.ds = some ⟨0x200, 0x100, false⟩ ∧ z.cfg.cause = .suggested ∧ 1 ≤ 1 ∧ 15 ≤ 15 := by decide

theorem witness_interruptsTaken :
    pending.resetReq = false ∧ pending.acceptable = some 15 ∧ pending.irq.nmi = false ∧
    pending.irq.levels.getLsbD 14 = true ∧ pending.irq.levels.getLsbD 15 = true ∧
    { pending with irq := ⟨0, true⟩ }.acceptable = some 16 ∧ (⟨0, true⟩ : Irq).nmi = true := by decide +kernel

theorem witness_privilegedInUserMode : Instr.privileged .rte = true ∧ user.md = false := ⟨rfl, by decide⟩

/-- The three ways out of user mode. -/
theorem witness_userModeStays :
    (userRte.md = false ∧ ∃ t, step userRte = .next t ∧ t.md = true) ∧
    (({ user with resetReq := true } : State).md = false ∧
      ∃ t, step { user with resetReq := true } = .next t ∧ t.md = true) ∧
    (({ pending with sr := 0 } : State).md = false ∧ ∃ t, step { pending with sr := 0 } = .next t ∧ t.md = true) :=
  ⟨⟨by decide +kernel, _, rfl, by decide +kernel⟩, ⟨by decide +kernel, _, rfl, by decide +kernel⟩,
    ⟨by decide +kernel, _, rfl, by decide +kernel⟩⟩

theorem witness_bankBIsolated : user.md = false := by decide

/-- At the boundaries of the maps: the last user address and the first that is not canonical, an odd address, a hole,
a supervisor row from user mode, a plain access at the last byte, and the first and last rows of each map. -/
theorem witness_accessChecks :
    canonical 0x00007FFFFFFFFFFF = true ∧ canonical 0x0000800000000000 = false ∧ canonical 0xFFFF800000000000 = true ∧
    z.jq = true ∧ (0x2001 : Quad).toNat % 2 ≠ 0 ∧
    findRange (mapIndex z.mapKind 0xFFFF808000000000) (mapRows z.mapKind) = none ∧
    (findRange (mapIndex z.mapKind 0xFFFF800100000000) (mapRows z.mapKind)).map (·.user) = some false ∧
    findRange (mapIndex z.mapKind 0x00007FFFFFFFFFFF) (mapRows z.mapKind) =
      some ⟨0x000000000000, 0x7FFFFFFFFFFF, .mmu, true⟩ ∧
    z.cfg.translate = .suggested ∧
    (findRange (mapIndex z.mapKind 0xFFFF800100000000) (mapRows z.mapKind)).map (·.kind) = some .direct ∧
    (findRange (mapIndex z.mapKind 0xFFFF80A000000000) (mapRows z.mapKind)).map (·.kind) = some .device ∧
    isDevice .bjx32 0xDFFFFFFF = false ∧ isDevice .bjx32 0xE0000000 = true ∧ isDevice .bjx32 0xFFFFFFFF = true ∧
    isDevice .bjx32 0x100000000 = false ∧ isDevice .bjx48 0xA000000000 = true ∧
    ({ z with cfg := { z.cfg with translate := .opened } } : State).cfg.translate = .opened ∧
    (findRange 0x7FFFFFFF (mapRows .legacy29)).map (·.user) = some true ∧
    (findRange 0x80000000 (mapRows .legacy29)).map (·.user) = some false ∧
    (findRange 0xBFFFFFFF (mapRows .bjx32)).map (·.user) = some true ∧
    (findRange 0xC0000000 (mapRows .bjx32)).map (·.user) = some false ∧
    (findRange 0x7FFFFFFFFFFF (mapRows .bjx48)).map (·.user) = some true ∧
    (findRange 0x800000000000 (mapRows .bjx48)).map (·.user) = some false := by decide +kernel

theorem witness_slotRules :
    inSlot.ds.isSome = true ∧ Instr.length (.xAddImm16Rn 5 1) ≠ 2 ∧ Instr.slotForbidden (.bt 0) = true :=
  ⟨by decide, by rw [show Instr.length (.xAddImm16Rn 5 1) = 4 from rfl]; decide, rfl⟩

theorem witness_endOfInstruction : z.ds = none ∧ inSlot.ds = some ⟨0x200, 0x100, false⟩ := by decide

theorem witness_illFormedTrap :
    wellFormed (.xPsetmdImm12 0x040) = false ∧ wellFormed (.oAddRmRn true true false false 1 2) = false ∧
    wellFormed (.xvFmovSAtRmRoFRn 0xC 0 1 2) = false ∧ wellFormed (.xvFmovFRmFRn 0x10 1 2) = false :=
  ⟨rfl, rfl, rfl, rfl⟩

theorem witness_storeThenLoad :
    Memory.wf z.mem ∧ z.resolve .write z.md (alignOf 8) 0x2004 = .ok 0x2004 ∧
    z.resolve .read z.md (alignOf 8) 0x2004 = .ok 0x2004 ∧ z.resolve .write z.md (alignOf 1) 0x2001 = .ok 0x2001 ∧
    z.resolve .read z.md (alignOf 1) 0x2001 = .ok 0x2001 := by decide +kernel

theorem witness_memoryExtensional : Memory.wf [(0, 1), (5, 255)] := by decide

theorem witness_registerFile :
    z.md = true ∧ z.rb = true ∧ user.md = false ∧ (z.setSrBit 29 false).rb = false := by decide

theorem witness_fpRegisterFile : (0xE : Reg).getLsbD 0 = false ∧ (0xF : Reg).getLsbD 0 = true := by decide

/-- A core with DQ = 1 and the given treatment of a no-suffix write. -/
def quadWith (h : NoSuffixHi) : State := { quad with cfg := { quad.cfg with noSuffixHi := h } }

theorem witness_noSuffixWrite :
    z.dq = false ∧ (quadWith .preserve).dq = true ∧ (quadWith .preserve).cfg.noSuffixHi = .preserve ∧
    (quadWith .extend).dq = true ∧ (quadWith .extend).cfg.noSuffixHi = .extend ∧ (quadWith .any).dq = true ∧
    (quadWith .any).cfg.noSuffixHi = .any := by decide

theorem witness_memoryKept : Instr.stores (.movRmRn 1 2) = false ∧ ∃ t, exec (.movRmRn 1 2) z = .next t := ⟨rfl, _, rfl⟩

theorem witness_staleFetch :
    z.resolve .fetch z.fetchMd 2 0 = .ok 0 ∧ z.cfg.icacheCoherent = false ∧
    (z.addr 0).toNat ∉ z.stale ∧ (z.addr 1).toNat ∉ z.stale ∧
    (z.addr 1).toNat ∈ ({ z with stale := [1] } : State).stale := by decide +kernel

/-- Two stores to one physical byte, through 0xA0001000 and then 0x80001000 of legacy29. -/
def twoStores : Res State :=
  match narrow.store 0xA0001000 1 0x11 with
  | .ok s => s.store 0x80001000 1 0x22
  | .error e => .error e

/-- What a fetch may still see is the byte at reset, not the one between the two stores (rule R136). -/
theorem test_old_byte_is_the_one_at_reset :
    twoStores.map (fun s => (s.stale, Memory.read s.mem 0x1000, oldByte s.history 0x80001000 0x1000 0x22)) =
      .ok ([0x80001000, 0xA0001000], 0x22, 0) := by decide +kernel

/-- An ICBI of the second address between the stores makes it the byte that was there then (rules R136, R594). -/
theorem test_old_byte_is_the_one_at_the_icbi :
    ((narrow.store 0xA0001000 1 0x11).map fun s => ((s.icbi 0x80001000).store 0x80001000 1 0x22).map fun t =>
      oldByte t.history 0x80001000 0x1000 0x22) = .ok (.ok 0x11) := by decide +kernel

/-- A physical address in a device region is refused, whatever logical address led to it (rules R134 (5), R139). -/
theorem test_translated_device :
    notDevice .bjx32 0x1000 (physicalOf .bjx32 0xE0000000) = .error (.refuse (.deviceAccess 0x1000)) ∧
    notDevice .legacy29 0x1000 (physicalOf .legacy29 0xFF000000) = .error (.refuse (.deviceAccess 0x1000)) ∧
    notDevice .legacy29 0x1000 (physicalOf .legacy29 0xA0001000) = .ok 0x1000 ∧
    z.load 0xE0000000 4 = .error (.refuse (.deviceAccess 0xE0000000)) := by decide +kernel

/-- An access whose bytes pass the last of the 29 address bits stores them and reads them back (rules R134, R135). -/
theorem test_access_past_29_bits :
    ((narrow.storeU 0x1FFFFFFE 4 0x11223344).map fun s => s.loadU 0x1FFFFFFE 4) = .ok (.ok 0x11223344) := by
  decide +kernel

/-- The default core with SR.FD set. -/
def fpuOff : State := z.setSrBit 15 true

/-- A BJX1-32 core with SR.FD set and no high halves. -/
def narrowOff : State := narrow.setSrBit 15 true

theorem witness_fpuCheck :
    Instr.usesFpu (.faddFRmFRn 1 2) = true ∧
    ({ z with cfg := { z.cfg with fpu := .absent } } : State).cfg.fpu = .absent ∧
    fpuOff.cfg.fpu = .basic ∧ fpuOff.fd = true ∧ fpuOff.ds = none ∧ wellFormed (.faddFRmFRn 1 2) = true ∧
    Instr.fpuRowLegal (.faddFRmFRn 1 2) fpuOff = true ∧
    Instr.usesFpu (.xvFmovFRmFRn 0x30 1 2) = true ∧ wellFormed (.xvFmovFRmFRn 0x30 1 2) = true ∧
    Instr.fpuRowLegal (.xvFmovFRmFRn 0x30 1 2) narrowOff = true ∧ narrowOff.fd = true ∧
    Instr.fpuRowLegal (.xvFmovFRmFRn 0x31 1 2) narrowOff = false ∧
    Instr.fpuRowLegal (.wFmovSAtRmDispFRn 1 2 0) fpuOff = false ∧
    Instr.fpuRowLegal (.xFmovDAtRmDisp8sDRn 0 1 2) fpuOff = false :=
  ⟨rfl, rfl, rfl, by decide, rfl, rfl, rfl, rfl, rfl, rfl, by decide, by decide, rfl, rfl⟩

theorem witness_sleepAndResetStep :
    ({ z with resetReq := true } : State).resetReq = true ∧ ({ z with sleeping := true } : State).resetReq = false ∧
    ({ z with sleeping := true } : State).acceptable = none ∧ ({ z with sleeping := true } : State).sleeping = true := by
  decide

/-! ### Each well-formedness check refuses an ill-formed term -/

theorem test_wfData_quad_with_extension : wfData true true false false = false := by decide
theorem test_wfData_b_set : wfData false false false true = false := by decide
theorem test_wfAddress_extended : wfAddress false true false = false := by decide
theorem test_wfAddress_quad_data : wfAddress true false true = false := by decide
theorem test_wfTransfer_no_kind : wfTransfer 0xC false = false := by decide
theorem test_wfTransfer_address_bit : wfTransfer 0x0 true = false := by decide
theorem test_wfMove_no_row : wfMove 0x10 = false := by decide
theorem test_wfMove_bit_five : wfMove 0x08 = false := by decide
theorem test_wfMove_general_bit : wfMove 0xA1 = false := by decide
theorem test_wf_psetmd_reserved_bits : wellFormed (.xPsetmdImm12 0x040) = false := rfl
theorem test_wf_oprex_store_quad : wellFormed (.oMovBRmAtRn true false false false 1 2) = false := rfl
theorem test_legalIn_gbr_row : Instr.legalIn (.movBR0AtGbrDisp 1) true = false := rfl

/-! ### Words written out from the patterns of rule R230, one or more of each family -/

/-- MOV.L @R2+,R1: 0110 nnnn mmmm 0110. -/
theorem test_decode_mov_l : decodeWords true [0b0110000100100110] = .ok (.movLAtRmIncRn 1 2) := rfl
/-- MOV.L R7,@(R2,15): 0001 nnnn mmmm dddd. -/
theorem test_decode_mov_l_disp : decodeWords true [0b0001001001111111] = .ok (.movLRmAtRnDisp 2 7 15) := rfl
/-- ADD #-4,R15: 0111 nnnn iiiiiiii. -/
theorem test_decode_add_imm : decodeWords true [0b0111111111111100] = .ok (.addImmRn 15 0xFC) := rfl
/-- MAC.L @R4+,@R3+: 0000 nnnn mmmm 1111. -/
theorem test_decode_mac_l : decodeWords true [0b0000001101001111] = .ok (.macLAtRmIncAtRnInc 3 4) := rfl
/-- AND #0x0F,R0: 11001001 jjjjjjjj. -/
theorem test_decode_and_imm : decodeWords true [0b1100100100001111] = .ok (.andImmR0 0x0F) := rfl
/-- SHAD R2,R1: 0100 nnnn mmmm 1100. -/
theorem test_decode_shad : decodeWords true [0b0100000100101100] = .ok (.shadRmRn 1 2) := rfl
/-- BSR with displacement 6: 1011 dddddddddddd. -/
theorem test_decode_bsr : decodeWords true [0b1011000000000110] = .ok (.bsr 6) := rfl
/-- LDC R1,R5_B: 0100 mmmm 1bbb 1110. -/
theorem test_decode_ldc_bank : decodeWords true [0b0100000111011110] = .ok (.ldcRmRnB 1 5) := rfl
/-- TRAPA #0x12: 11000011 jjjjjjjj. -/
theorem test_decode_trapa : decodeWords true [0b1100001100010010] = .ok (.trapaImm 0x12) := rfl
/-- FMAC FR0,FR2,FR1: 1111 nnnn mmmm 1110. -/
theorem test_decode_fmac : decodeWords true [0b1111000100101110] = .ok (.fmacFRmFRn 1 2) := rfl
/-- ADD #0x1234,R1: 10001110 iiiiiiii, 0111 nnnn iiiiiiii. -/
theorem test_decode_add_imm16 : decodeWords true [0b1000111000010010, 0b0111000100110100] = .ok (.xAddImm16Rn 0x1234 1) :=
  rfl
/-- OPREX EXTS.B with N set: 100011000000 QNMB, 0110 nnnn mmmm 1110. -/
theorem test_decode_oprex : decodeWords true [0b1000110000000100, 0b0110000100101110] =
    .ok (.oExtsBRmRn false true false false 1 2) := rfl
/-- TACB SHAR.Q with imm6: 10001100 0011 11ST, 1000 nnnn ssss tttt. -/
theorem test_decode_tacb : decodeWords true [0b1000110000111110, 0b1000000100100011] = .ok (.tSharQRsImm6Rn true false 1 2 3) :=
  rfl
/-- MOVI24 #0x123456,R0: 10001010 iiiiiiii, iiiiiiiiiiiiiiii. -/
theorem test_decode_movi24 : decodeWords true [0b1000101000010010, 0b0011010001010110] = .ok (.movi24Imm24R0 0x123456) :=
  rfl
/-- BSR disp48: CEB0 and three words, at JQ = 1; at JQ = 0 the same first word is XOR.B. -/
theorem test_decode_xpfz0 : decodeWords true [0xCEB0, 0xFFFF, 0xFFFF, 0xFFFB] = .ok (.zBsrDisp48 0xFFFFFFFFFFFB) := rfl
theorem test_decode_ce_narrow : decodeWords false [0xCEB0] = .ok (.xorBImmAtGbrR0 0xB0) := rfl
/-- A first word no row allocates is refused by name. -/
theorem test_decode_unallocated : decodeWords true [0xF07D] = .reject .unallocated16 := rfl
theorem test_decode_truncated : decodeWords true [0x8E12] = .reject .truncated := rfl
theorem test_decode_table_word : decodeTableWord 32 0x8E320126 = some (.xMovLRmAtRnRoDisp4 3 2 1 2) := rfl

/-! ### Worked examples of spec/95_test_vectors.md, one step each -/

/-- The start states of the examples: at 0x1000 in supervisor mode, FPSCR 0. -/
def start (c : Config) (sr : Quad) : State := { (State.blank c).performReset with sr := sr, fpscr := 0, pc := 0x1000 }

/-- BJX1-32 with the 32-bit map. -/
def config32 : Config := { Config.default32 with addrMode32 := .bjx32 }

def at32 : State := start config32 0x700000F0
def user32 : State := start config32 0xF0
def at64 : State := start Config.default 0xF00000F0
def quad64 : State := start Config.default 0xF00010F0
def low64 : State := start Config.default 0x700000F0
def wide64 : State := start { Config.default with hasXpfz0 := true } 0xF00000F0

/-- Bytes put into memory. -/
def poke (s : State) (p : Nat) (bs : List Byte) : State := { s with mem := writeBytes s.mem p bs }

/-- A view of the state after one step. -/
noncomputable def after {α : Type} (s : State) (f : State → α) : Option α :=
  match step s with
  | .next t => some (f t)
  | _ => none

theorem test_mov_l_post_increment :
    after ((poke (at32.setR 2 0x2000) 0x2000 [0xEF, 0xBE, 0xAD, 0xDE]).withFetchWord 16 0x6126)
      (fun t => (t.r 1, t.r 2)) = some (0xDEADBEEF, 0x2004) := by
  decide +kernel
theorem test_mov_l_pre_decrement_same_register :
    after ((at32.setR 1 0x2004).withFetchWord 16 0x2116)
      (fun t => (bytesAt t.mem 0x2000 4, t.r 1)) = some ([0x04, 0x20, 0x00, 0x00], 0x2000) := by
  decide +kernel
theorem test_mov_l_misaligned_traps :
    after (((at32.setR 2 0x2002).setR 1 0x55).withFetchWord 16 0x6122)
      (fun t => (t.lastTrap.kind, t.lastTrap.value, t.spc)) = some (.addressErrorRead, 0x2002, 0x1000) := by
  decide +kernel
theorem test_mov_q_at_multiple_of_four :
    after ((poke (quad64.setR 2 0x2004) 0x2004 [0xEF, 0xCD, 0xAB, 0x89, 0x67, 0x45, 0x23, 0x01]).withFetchWord 16 0x6121)
      (fun t => t.r 1) = some 0x0123456789ABCDEF := by
  decide +kernel
theorem test_mov_l_indexed_wraps :
    after ((((at32.setR 0 0xFFFFFFFC).setR 1 0x2004).setR 2 5).withFetchWord 16 0x0126)
      (fun t => bytesAt t.mem 0x2000 4) = some [0x05, 0x00, 0x00, 0x00] := by
  decide +kernel
theorem test_mov_wq_displacement :
    after ((poke (quad64.setR 1 0x2000) 0x2008 [0xEF, 0xCD, 0xAB, 0x89, 0x67, 0x45, 0x23, 0x01]).withFetchWord 16 0x8511)
      (fun t => t.r 0) = some 0x0123456789ABCDEF := by
  decide +kernel
theorem test_movua_l_misaligned :
    after (((poke at32 0x2001 [0x11, 0x22, 0x33, 0x44]).setR 0 0x2001).withFetchWord 16 0x40A9)
      (fun t => t.r 0) = some 0x44332211 := by
  decide +kernel
theorem test_push_eight_bytes :
    after (((at64.setR 15 0x2000).setR 4 0x1122334455667788).withFetchWord 16 0x4448)
      (fun t => (bytesAt t.mem 0x1FF8 8, t.r 15)) = some ([0x88, 0x77, 0x66, 0x55, 0x44, 0x33, 0x22, 0x11], 0x1FF8) := by
  decide +kernel
theorem test_mov_qw_needs_jq :
    after ((at32.setR 0 0x2004).withFetchWord 16 0x4164)
      (fun t => (t.lastTrap.kind, t.lastTrap.value, t.spc)) = some (.illegalInstruction, 0x4164, 0x1000) := by
  decide +kernel
theorem test_mov_qw_loads_quad :
    after ((poke (at64.setR 0 0x2004) 0x2004 [0xEF, 0xCD, 0xAB, 0x89, 0x67, 0x45, 0x23, 0x01]).withFetchWord 16 0x4164)
      (fun t => t.r 1) = some 0x0123456789ABCDEF := by
  decide +kernel
theorem test_mov_wq_pre_decrement_load :
    after ((poke (quad64.setR 1 0x2008) 0x2000 [0xEF, 0xCD, 0xAB, 0x89, 0x67, 0x45, 0x23, 0x01]).withFetchWord 16 0x41DB)
      (fun t => (t.r 0, t.r 1)) = some (0x0123456789ABCDEF, 0x2000) := by
  decide +kernel
theorem test_addc_carry_in_and_out :
    after ((((at32.setR 1 0xFFFFFFFF).setR 2 0xFFFFFFFF).setT true).withFetchWord 16 0x312E)
      (fun t => (t.r 1, t.t)) = some (0xFFFFFFFF, true) := by
  decide +kernel
theorem test_addv_overflow :
    after (((at32.setR 1 0x80000000).setR 2 0xFFFFFFFF).withFetchWord 16 0x312F)
      (fun t => (t.r 1, t.t)) = some (0x7FFFFFFF, true) := by
  decide +kernel
theorem test_subc_borrow :
    after ((at32.setT true).withFetchWord 16 0x312A)
      (fun t => (t.r 1, t.t)) = some (0xFFFFFFFF, true) := by
  decide +kernel
theorem test_subv_overflow :
    after (((at32.setR 1 0x7FFFFFFF).setR 2 0xFFFFFFFF).withFetchWord 16 0x312B)
      (fun t => (t.r 1, t.t)) = some (0x80000000, true) := by
  decide +kernel
theorem test_cmpeq_low_halves :
    after (((at64.setR 1 0x0000000100000007).setR 2 7).withFetchWord 16 0x3120)
      (fun t => t.t) = some true := by
  decide +kernel
theorem test_cmpeq_quads :
    after ((((quad64.setR 1 0x0000000100000007).setR 2 7).setT true).withFetchWord 16 0x3120)
      (fun t => t.t) = some false := by
  decide +kernel
theorem test_cmpstr_one_equal_byte :
    after (((at32.setR 1 0x00223344).setR 2 0x00332211).withFetchWord 16 0x212C)
      (fun t => t.t) = some true := by
  decide +kernel
theorem test_dt_quad :
    after ((quad64.setR 1 0x0000000100000000).withFetchWord 16 0x4110)
      (fun t => (t.r 1, t.t)) = some (0xFFFFFFFF, false) := by
  decide +kernel
theorem test_muls_w :
    after (((at32.setR 1 0x8000).setR 2 0x8000).withFetchWord 16 0x212F)
      (fun t => t.macl) = some 0x40000000 := by
  decide +kernel
theorem test_mulu_q :
    after (((quad64.setR 1 0xFFFFFFFFFFFFFFFF).setR 2 0xFFFFFFFFFFFFFFFF).withFetchWord 16 0x212E)
      (fun t => (t.mach, t.macl)) = some (0xFFFFFFFFFFFFFFFE, 1) := by
  decide +kernel
theorem test_dmuls_l :
    after (((at32.setR 1 0x80000000).setR 2 0x80000000).withFetchWord 16 0x312D)
      (fun t => (t.mach, t.macl)) = some (0x40000000, 0) := by
  decide +kernel
theorem test_mul_l_keeps_upper_macl :
    after (({ ((at64.setR 1 0xFFFFFFFF).setR 2 0xFFFFFFFF) with macl := 0xAAAAAAAA00000000 } : State).withFetchWord 16 0x0127)
      (fun t => t.macl) = some 0xAAAAAAAA00000001 := by
  decide +kernel
theorem test_div0s :
    after (((at32.setR 1 0x7FFFFFFF).setR 2 0x80000000).withFetchWord 16 0x2127)
      (fun t => t.sr) = some 0x700002F1 := by
  decide +kernel
theorem test_div1 :
    after (((({ at32 with sr := 0x700001F1 } : State).setR 1 0x80000000).setR 2 1).withFetchWord 16 0x3124)
      (fun t => (t.r 1, t.sr)) = some (2, 0x700001F0) := by
  decide +kernel
theorem test_mac_l_wraps :
    after (({ ({ (poke ((at32.setR 1 0x2000).setR 2 0x2004) 0x2000 [0x01, 0x00, 0x00, 0x00, 0x01, 0x00, 0x00, 0x00]) with mach := 0x7FFF } : State) with macl := 0xFFFFFFFF } : State).withFetchWord 16 0x012F)
      (fun t => (t.r 1, t.r 2, t.mach, t.macl)) = some (0x2004, 0x2008, 0x8000, 0) := by
  decide +kernel
theorem test_mac_w :
    after (({ (poke ((at32.setR 1 0x2000).setR 2 0x2002) 0x2000 [0x01, 0x00, 0x01, 0x00]) with macl := 0xFFFFFFFF } : State).withFetchWord 16 0x412F)
      (fun t => (t.r 1, t.r 2, t.mach, t.macl)) = some (0x2002, 0x2004, 1, 0) := by
  decide +kernel
theorem test_mac_w_illegal_at_dq :
    after (quad64.withFetchWord 16 0x412F)
      (fun t => (t.lastTrap.kind, t.lastTrap.value, t.spc)) = some (.illegalInstruction, 0x412F, 0x1000) := by
  decide +kernel
theorem test_add_immediate_quad :
    after ((quad64.setR 1 0x100).withFetchWord 16 0x7180)
      (fun t => t.r 1) = some 0x80 := by
  decide +kernel
theorem test_shad_right_by_one :
    after (((at32.setR 1 0x80000001).setR 2 0xFFFFFFFF).withFetchWord 16 0x412C)
      (fun t => t.r 1) = some 0xC0000000 := by
  decide +kernel
theorem test_shld_right_by_all :
    after (((quad64.setR 1 0x8000000000000001).setR 2 0xFFFFFFFFFFFFFFC0).withFetchWord 16 0x412D)
      (fun t => t.r 1) = some 0 := by
  decide +kernel
theorem test_rotcl :
    after (((at32.setT true).setR 1 0x40000000).withFetchWord 16 0x4124)
      (fun t => (t.r 1, t.t)) = some (0x80000001, false) := by
  decide +kernel
theorem test_shar_quad :
    after ((quad64.setR 1 0x8000000000000001).withFetchWord 16 0x4121)
      (fun t => (t.r 1, t.t)) = some (0xC000000000000000, true) := by
  decide +kernel
theorem test_shlr16_keeps_upper_half :
    after ((at64.setR 1 0xFFFF123456789ABC).withFetchWord 16 0x4129)
      (fun t => t.r 1) = some 0xFFFF123400005678 := by
  decide +kernel
theorem test_and_immediate_zero_extends :
    after ((quad64.setR 0 0xFFFFFFFFFFFFFFFF).withFetchWord 16 0xC9F0)
      (fun t => t.r 0) = some 0xF0 := by
  decide +kernel
theorem test_not_keeps_upper_half :
    after ((at64.setR 1 0x1234567800000000).withFetchWord 16 0x6127)
      (fun t => t.r 1) = some 0x12345678FFFFFFFF := by
  decide +kernel
theorem test_tas :
    after ((at32.setR 1 0x2000).withFetchWord 16 0x411B)
      (fun t => (bytesAt t.mem 0x2000 1, t.t)) = some ([0x80], true) := by
  decide +kernel
theorem test_or_b_gbr :
    after ((poke (({ at32 with gbr := 0x2000 } : State).setR 0 4) 0x2004 [0x0F]).withFetchWord 16 0xCFF0)
      (fun t => bytesAt t.mem 0x2004 1) = some [0xFF] := by
  decide +kernel
theorem test_shll32 :
    after ((at64.setR 1 0x0000000012345678).withFetchWord 16 0x4138)
      (fun t => t.r 1) = some 0x1234567800000000 := by
  decide +kernel
theorem test_shll4 :
    after ((at32.setR 1 0x12345678).withFetchWord 16 0x4134)
      (fun t => t.r 1) = some 0x23456780 := by
  decide +kernel
theorem test_bt_taken :
    after ((at32.setT true).withFetchWord 16 0x8902)
      (fun t => t.pc) = some 0x1008 := by
  decide +kernel
theorem test_bt_backwards :
    after ((at32.setT true).withFetchWord 16 0x8980)
      (fun t => t.pc) = some 0xF04 := by
  decide +kernel
theorem test_bt_not_taken :
    after (at32.withFetchWord 16 0x8902)
      (fun t => t.pc) = some 0x1002 := by
  decide +kernel
theorem test_ldc_sr_mask :
    after ((at32.setR 1 0xFFFFFFFF).withFetchWord 16 0x410E)
      (fun t => t.sr) = some 0x700083F3 := by
  decide +kernel
theorem test_ldc_sr_mask_quad :
    after ((quad64.setR 1 0xFFFFFFFFFFFFFFFF).withFetchWord 16 0x410E)
      (fun t => t.sr) = some 0x80001000F00093F3 := by
  decide +kernel
theorem test_sleep_user :
    after (user32.withFetchWord 16 0x001B)
      (fun t => (t.lastTrap.kind, t.lastTrap.value, t.spc)) = some (.illegalInstruction, 0x001B, 0x1000) := by
  decide +kernel
theorem test_setdq_absent_on_32 :
    after (at32.withFetchWord 16 0x0258)
      (fun t => (t.lastTrap.kind, t.lastTrap.value, t.spc)) = some (.illegalInstruction, 0x0258, 0x1000) := by
  decide +kernel
theorem test_trapa :
    after (({ ({ user32 with sr := 1 } : State) with vbr := 0x8000 } : State).withFetchWord 16 0xC3FF)
      (fun t => (t.pc, t.spc, t.ssr, t.sr, t.lastTrap)) = some (0x8100, 0x1002, 1, 0x70000001, ⟨.trapa, 0x160, 0xFF⟩) := by
  decide +kernel
theorem test_stc_q_sr :
    after (({ (at64.setR 15 0x2000) with sr := 0x80001000F00000F0 } : State).withFetchWord 16 0x4F03)
      (fun t => (bytesAt t.mem 0x1FF8 8, t.r 15)) = some ([0xF0, 0x00, 0x00, 0xF0, 0x00, 0x10, 0x00, 0x80], 0x1FF8) := by
  decide +kernel
theorem test_lds_fpscr_mask :
    after ((at32.setR 1 0xFFFFFFFF).withFetchWord 16 0x416A)
      (fun t => t.fpscr) = some 0x003FFFFF := by
  decide +kernel
theorem test_fpu_disable :
    after (({ at32 with sr := 0x700080F0 } : State).withFetchWord 16 0x416A)
      (fun t => (t.lastTrap.kind, t.lastTrap.value, t.spc)) = some (.fpuDisable, 0x416A, 0x1000) := by
  decide +kernel
theorem test_stc_banked :
    after (({ at32 with ga := set8 at32.ga 3 0x33 } : State).withFetchWord 16 0x01B2)
      (fun t => get8 t.gb 1) = some 0x33 := by
  decide +kernel
theorem test_cas_hit :
    after (((poke (at32.setR 0 0x2000) 0x2000 [0x07, 0x00, 0x00, 0x00]).setR 1 7).withFetchWord 16 0x2113)
      (fun t => t.t) = some true := by
  decide +kernel
theorem test_cas_miss_is_hit_on_r2 :
    after (((poke (at32.setR 0 0x2000) 0x2000 [0x07, 0x00, 0x00, 0x00]).setR 2 7).withFetchWord 16 0x2023)
      (fun t => (bytesAt t.mem 0x2000 4, t.t, t.r 0)) = some ([0x00, 0x20, 0x00, 0x00], true, 7) := by
  decide +kernel
theorem test_ldc_l_sr :
    after ((poke (at32.setR 15 0x1FFC) 0x1FFC [0x01, 0x00, 0x00, 0x40]).withFetchWord 16 0x4F07)
      (fun t => (t.sr, t.r 15)) = some (0x40000001, 0x2000) := by
  decide +kernel
theorem test_fdiv_nearest :
    after (((at32.setFx false 1 0x3F800000).setFx false 2 0x40400000).withFetchWord 16 0xF123)
      (fun t => t.fx false 1) = some 0x3EAAAAAB := by
  decide +kernel
theorem test_fdiv_to_zero :
    after (({ ((at32.setFx false 1 0x3F800000).setFx false 2 0x40400000) with fpscr := 1 } : State).withFetchWord 16 0xF123)
      (fun t => t.fx false 1) = some 0x3EAAAAAA := by
  decide +kernel
theorem test_float_rounds :
    after (({ at32 with fpul := 0x01000003 } : State).withFetchWord 16 0xF12D)
      (fun t => t.fx false 1) = some 0x4B800002 := by
  decide +kernel
theorem test_ftrc_saturates :
    after ((at32.setFx false 1 0x4F000000).withFetchWord 16 0xF13D)
      (fun t => t.fpul) = some 0x7FFFFFFF := by
  decide +kernel
theorem test_fcmpeq_nan :
    after ((((at32.setFx false 1 0x7FC00000).setFx false 2 0x7FC00000).setT true).withFetchWord 16 0xF124)
      (fun t => t.t) = some false := by
  decide +kernel
theorem test_fadd_double :
    after (((({ at32 with fpscr := 0x80000 } : State).setFx false 0 0x3FF00000).setFx false 2 0x40000000).withFetchWord 16 0xF200)
      (fun t => (t.fx false 2, t.fx false 3)) = some (0x40080000, 0) := by
  decide +kernel
theorem test_fneg_odd_double :
    after (((({ at32 with fpscr := 0x80000 } : State).setFx true 2 0x3FF00000).setFx false 2 0x11111111).withFetchWord 16 0xF34D)
      (fun t => t.fx true 2) = some 0xBFF00000 := by
  decide +kernel
theorem test_fmov_double :
    after ((poke (({ at32 with fpscr := 0x180000 } : State).setR 2 0x2000) 0x2000 [0x00, 0x00, 0x00, 0x00, 0x00, 0x00, 0xF0, 0x3F]).withFetchWord 16 0xF028)
      (fun t => t.fx false 0) = some 0x3FF00000 := by
  decide +kernel
theorem test_fmov_pair :
    after ((poke (({ at32 with fpscr := 0x100000 } : State).setR 2 0x2000) 0x2000 [0x00, 0x00, 0x00, 0x00, 0x00, 0x00, 0xF0, 0x3F]).withFetchWord 16 0xF028)
      (fun t => t.fx false 1) = some 0x3FF00000 := by
  decide +kernel
theorem test_fcnvsd :
    after (({ at32 with fpul := 0xBF800000 } : State).withFetchWord 16 0xF2AD)
      (fun t => t.fx false 2) = some 0xBFF00000 := by
  decide +kernel
theorem test_fneg_other_bank :
    after (({ ({ ({ at32 with fpscr := 0x200000 } : State) with fb := set16 at32.fb 2 0x3F800000 } : State) with fa := set16 at32.fa 2 0x40000000 } : State).withFetchWord 16 0xF24D)
      (fun t => get16 t.fb 2) = some 0xBF800000 := by
  decide +kernel
theorem test_psetmd12 :
    after (({ at32 with fpscr := 0x3FFFFF } : State).withFetchWord 32 0x8E00F5DD)
      (fun t => t.fpscr) = some 0x40001 := by
  decide +kernel
theorem test_vv_load_to_xf :
    after ((poke (at32.setR 2 0x2000) 0x2000 [0x0A, 0x00, 0x00, 0x00, 0x0B, 0x00, 0x00, 0x00, 0x0C, 0x00, 0x00, 0x00]).withFetchWord 32 0x8E22F128)
      (fun t => t.fx true 1) = some 0xC := by
  decide +kernel
theorem test_vv_store_pre_decrement :
    after ((((at32.setR 15 0x2000).setFx false 2 0x11111111).setFx false 3 0x22222222).withFetchWord 32 0x8E40FF2B)
      (fun t => (bytesAt t.mem 0x1FF8 8, t.r 15)) = some ([0x11, 0x11, 0x11, 0x11, 0x22, 0x22, 0x22, 0x22], 0x1FF8) := by
  decide +kernel
theorem test_vv_move_xf :
    after ((((at32.setFx false 2 0xAAAAAAAA).setFx true 2 0xBBBBBBBB).setR 2 0x55667788).withFetchWord 32 0x8E05F12C)
      (fun t => t.fx true 1) = some 0xBBBBBBBB := by
  decide +kernel
theorem test_vv_move_general :
    after ((((at64.setR 2 0xAAAABBBB00000000).setR 1 0x1111111122222222).setFx false 2 0x3FF00000).withFetchWord 32 0x8EA0F12C)
      (fun t => t.r 1) = some 0xAAAABBBB00000000 := by
  decide +kernel
theorem test_fmac :
    after ((((at32.setFx false 0 0x40000000).setFx false 2 0x40400000).setFx false 1 0x3F800000).withFetchWord 16 0xF12E)
      (fun t => t.fx false 1) = some 0x40E00000 := by
  decide +kernel
theorem test_fsqrt :
    after ((at32.setFx false 1 0x40800000).withFetchWord 16 0xF16D)
      (fun t => t.fx false 1) = some 0x40000000 := by
  decide +kernel
theorem test_xpfx0_indexed_store :
    after ((((at32.setR 1 0x2000).setR 3 4).setR 2 7).withFetchWord 32 0x8E320126)
      (fun t => bytesAt t.mem 0x2018 4) = some [0x07, 0x00, 0x00, 0x00] := by
  decide +kernel
theorem test_xpfx0_r0_index_is_bytes :
    after (((at32.setR 0 4).setR 1 0x2000).withFetchWord 32 0x8E020126)
      (fun t => (t.lastTrap.kind, t.lastTrap.value, t.spc)) = some (.addressErrorWrite, 0x2006, 0x1000) := by
  decide +kernel
theorem test_mul_imm8 :
    after ((at32.setR 2 2).withFetchWord 32 0x8E80212E)
      (fun t => t.r 1) = some 0xFFFFFF00 := by
  decide +kernel
theorem test_cmpeq_imm12 :
    after ((at32.setR 1 0xFFFFF800).withFetchWord 32 0x8E803100)
      (fun t => t.t) = some true := by
  decide +kernel
theorem test_shad_imm_all_sign :
    after ((at32.setR 2 0x80000001).withFetchWord 32 0x8E80412C)
      (fun t => t.r 1) = some 0xFFFFFFFF := by
  decide +kernel
theorem test_mov_b_imm_pre_decrement :
    after ((at32.setR 1 0x2000).withFetchWord 32 0x8E7F41C4)
      (fun t => (bytesAt t.mem 0x1FFF 1, t.r 1)) = some ([0x7F], 0x1FFF) := by
  decide +kernel
theorem test_movu_l :
    after (((poke (at64.setR 2 0x2000) 0x2004 [0x00, 0x00, 0x00, 0x80]).setR 1 0x7777777700000000).withFetchWord 32 0x8E01612E)
      (fun t => t.r 1) = some 0x7777777780000000 := by
  decide +kernel
theorem test_mova_disp13 :
    after (at32.withFetchWord 32 0x8E1F91FF)
      (fun t => t.r 1) = some 0x9000 := by
  decide +kernel
theorem test_bsr_n :
    after (at32.withFetchWord 32 0x8E008310)
      (fun t => (t.pc, t.pr)) = some (0x1026, 0x1004) := by
  decide +kernel
theorem test_bt_disp16 :
    after ((at32.setT true).withFetchWord 32 0x8EFF89FD)
      (fun t => t.pc) = some 0x1000 := by
  decide +kernel
theorem test_ldhf16 :
    after (at32.withFetchWord 32 0x8E7B8AFF)
      (fun t => t.fpul) = some 0x477FE000 := by
  decide +kernel
theorem test_ldsh16 :
    after ((at32.setR 0 0xABCD).withFetchWord 32 0x8E128C34)
      (fun t => t.r 0) = some 0xABCD1234 := by
  decide +kernel
theorem test_add_imm16 :
    after ((at32.setR 1 1).withFetchWord 32 0x8E127134)
      (fun t => t.r 1) = some 0x1235 := by
  decide +kernel
theorem test_oprex_high_source :
    after (((at64.setR 2 0x1122334455667788).setR 1 0xAAAAAAAABBBBBBBB).withFetchWord 32 0x8C026123)
      (fun t => t.r 1) = some 0xAAAAAAAA11223344 := by
  decide +kernel
theorem test_oprex_load_high :
    after (((poke (at64.setR 2 0x2000) 0x2000 [0x80]).setR 1 0x5555555500000000).withFetchWord 32 0x8C046120)
      (fun t => t.r 1) = some 0xFFFFFF8000000000 := by
  decide +kernel
theorem test_oprex_addc_32 :
    after (((at64.setR 1 0x00000001FFFFFFFF).setR 2 1).withFetchWord 32 0x8C00312E)
      (fun t => (t.r 1, t.t)) = some (0x0000000100000000, true) := by
  decide +kernel
theorem test_oprex_store_disp5 :
    after (((at64.setR 1 0x2000).setR 2 7).withFetchWord 32 0x8C011120)
      (fun t => bytesAt t.mem 0x2040 4) = some [0x07, 0x00, 0x00, 0x00] := by
  decide +kernel
theorem test_tacb_high_destination :
    after ((((at64.setR 2 5).setR 3 7).setR 1 3).withFetchWord 32 0x8C340123)
      (fun t => t.r 1) = some 0x0000000C00000003 := by
  decide +kernel
theorem test_tacb_imm6 :
    after ((at64.setR 2 0xFFFFFFFF).withFetchWord 32 0x8C3F012F)
      (fun t => t.r 1) = some 0x10000003E := by
  decide +kernel
theorem test_tacb_shlr_32 :
    after (((at64.setR 2 0x80000000).setR 3 32).withFetchWord 32 0x8C307123)
      (fun t => t.r 1) = some 0 := by
  decide +kernel
theorem test_tacb_shar_imm6 :
    after ((at64.setR 2 0x8000000000000000).withFetchWord 32 0x8C3E8120)
      (fun t => t.r 1) = some 0xFFFFFFFF80000000 := by
  decide +kernel
theorem test_tacb_fadd :
    after (((at32.setFx false 2 0x3F800000).setFx false 3 0x40000000).withFetchWord 32 0x8C30C123)
      (fun t => t.fx false 1) = some 0x40400000 := by
  decide +kernel
theorem test_movi24_sign :
    after (at32.withFetchWord 32 0x8A800000)
      (fun t => t.r 0) = some 0xFF800000 := by
  decide +kernel
theorem test_ce_at_jq0 :
    after ((poke ({ at32 with gbr := 0x2000 } : State) 0x2000 [0x0F]).withFetchWord 16 0xCE71)
      (fun t => bytesAt t.mem 0x2000 1) = some [0x7E] := by
  decide +kernel
theorem test_xpfz0_add :
    after ((wide64.setR 1 1).withFetchWord 64 0xCE71000000010000)
      (fun t => t.r 1) = some 0x10001 := by
  decide +kernel
theorem test_xpfz0_bsr :
    after (wide64.withFetchWord 64 0xCEB0FFFFFFFFFFFB)
      (fun t => (t.pc, t.pr)) = some (0x1000, 0x1008) := by
  decide +kernel
theorem test_interrupt :
    after ({ (({ at32 with sr := 0x40000040 } : State).setR 15 0x7000).withFetchWord 16 0x0009 with irq := ⟨1#16 <<< 5, false⟩ })
      (fun t => (t.spc, t.ssr, t.sgr, t.sr, t.pc, t.lastTrap)) = some (0x1000, 0x40000040, 0x7000, 0x70000040, 0x600, ⟨.interrupt, 0x340, 5⟩) := by
  decide +kernel
theorem test_interrupt_masked :
    after ({ ({ at32 with sr := 0x40000050 } : State).withFetchWord 16 0x0009 with irq := ⟨1#16 <<< 5, false⟩ })
      (fun t => t.pc) = some 0x1002 := by
  decide +kernel
theorem test_nmi :
    after ({ ({ at32 with sr := 0x400000F0 } : State).withFetchWord 16 0x0009 with irq := ⟨0, true⟩ })
      (fun t => (t.spc, t.ssr, t.sr, t.pc, t.lastTrap)) = some (0x1000, 0x400000F0, 0x700000F0, 0x600, ⟨.nmi, 0x1C0, 16⟩) := by
  decide +kernel
theorem test_trap_sets_dq_from_srh :
    after ((({ at64 with sr := 0x80001000F00000F0 } : State).setR 2 0x2002).withFetchWord 16 0x6122)
      (fun t => (t.spc, t.ssr, t.sr, t.pc, t.lastTrap)) = some (0x1000, 0x80001000F00000F0, 0x80001000F00010F0, 0x100, ⟨.addressErrorRead, 0x0E0, 0x2002⟩) := by
  decide +kernel
theorem test_trap_clears_jq_from_srh :
    after (({ at64 with vbr := 0x100000000 } : State).withFetchWord 16 0x003B)
      (fun t => (t.sr, t.pc, t.spc, t.ssr, t.lastTrap)) = some (0x700000F0, 0x100, 0x1002, 0xF00000F0, ⟨.breakpoint, 0x1E0, 0⟩) := by
  decide +kernel

/-- The value of an unlisted byte, and that a device range is refused. -/
theorem test_device_refused : (match exec (.movLAtRmRn 1 2) (z.setR 2 0xFFFF80A000000000) with
    | .refused r => r == .deviceAccess 0xFFFF80A000000000
    | _ => false) = true := by decide +kernel

end Sys2Proof.Tests
end

section
/-! PROOFS. Data transfer (spec/40_data_transfer.md): what `exec` does with a store or a load, said once for every way
an instruction ends, and the statements O29, O30 and O31 about the 16-bit moves. -/
namespace Sys2Proof.Machine

/-! ### How an instruction ends -/

/-- `e` is the end, in the state `s`, of an instruction of `len` bytes whose first word is `w`: a result is advanced, an
exception is taken from `s` (rules R250, R970 (10)). -/
def State.Ends (s : State) (w : IWord) (len : Quad) (e : Res State → Host.Outcome State Fault Refusal) : Prop :=
  (∀ u, e (.ok u) = .next (u.advance s.pcn len)) ∧ ∀ x, e (.error (.exc x)) = .next (s.takeException w x)

theorem State.ends_short (s : State) (w : IWord) : s.Ends w 2 (short w s) :=
  ⟨short_ok w s, short_error w s⟩

/-- Outside a delay slot the forms that may not stand in one end as the others do (rule R501). -/
theorem State.ends_shortNoSlot {s : State} (h : s.ds = none) (w : IWord) : s.Ends w 2 (shortNoSlot w s) :=
  ⟨shortNoSlot_ok h w, noSlot_error h w⟩

/-- At JQ = 0 a row that is legal only there runs (rule R187). -/
theorem State.needNotJq_of_jq_false {α : Type} {s : State} (h : s.jq = false) (r : Res α) : s.needNotJq r = r := by
  simp [State.needNotJq, h]

/-- At JQ = 1 it is an illegal instruction (rule R187). -/
theorem State.needNotJq_of_jq_true {α : Type} {s : State} (h : s.jq = true) (r : Res α) :
    s.needNotJq r = illegal := by
  simp [State.needNotJq, h]

theorem short_needNotJq_of_jq_false {s : State} (h : s.jq = false) (w : IWord) (r : Res State) :
    short w s (s.needNotJq r) = short w s r := by rw [State.needNotJq_of_jq_false h]

theorem short_needNotJq_of_jq_true {s : State} (h : s.jq = true) (w : IWord) (r : Res State) :
    short w s (s.needNotJq r) = .next (s.takeException w .illegal) := by
  rw [State.needNotJq_of_jq_true h, short_illegal]

/-! ### Widths and addresses -/

/-- A `.W/Q` access is aligned as a word, or as a quad when DQ = 1 (rules R14, R137). -/
theorem State.alignOf_wq (s : State) : alignOf s.wq = if s.dq then 4 else 2 := by
  unfold State.wq
  split <;> rfl

/-- The increment of a `.W/Q` access (rule R14). -/
theorem State.quadOf_wq (s : State) : quadOf s.wq = if s.dq then 8 else 2 := by
  unfold State.wq
  split <;> rfl

/-- A byte displacement is not scaled (rule R190). -/
theorem zdisp_one {w : Nat} (d : BitVec w) : zdisp d 1 = d.setWidth 64 := BitVec.mul_one _

@[simp] theorem State.writeA_dq (s : State) (n : Reg) (v : Quad) : (s.writeA n v).dq = s.dq := by
  rw [← State.wrA_eq, State.wrA_dq]

/-! ### Stores -/

/-- A store of `n` bytes and then an update `f` that does not look at memory, whatever the end. -/
theorem State.Ends.doesStore {s : State} {i : Instr} {len : Quad} {e : Res State → Host.Outcome State Fault Refusal}
    (he : s.Ends (firstWord i) len e) {ea v : Quad} {n align : Nat} (hal : alignOf n = align) {f : State → State}
    (hf : ∀ m l h, f (s.withMem m l h) = (f s).withMem m l h) (hx : exec i s = e ((s.store ea n v).map f)) :
    DoesStore (encode i) i s align n ea v ((f s).advance s.pcn len) := by
  subst hal
  obtain ⟨hok, herr⟩ := he
  refine ⟨rfl, fun p hwf hp => ?_, fun x hp => ?_⟩
  · refine ⟨_, ?_, State.agrees_withMem _ _ _ _, State.stored_withMem hwf _ _ _ _ _⟩
    rw [hx, State.store_ok hp, State.putBytes_withMem, Except.map, hf, hok, State.withMem_advance, length_toBytes]
  · rw [Raises, hx, State.store_error hp]
    exact herr x

/-- A store that changes no register. -/
theorem doesStore_short {s : State} {i : Instr} {ea v : Quad} {n align : Nat} (hal : alignOf n = align)
    (hx : exec i s = short (firstWord i) s (s.store ea n v)) : DoesStore (encode i) i s align n ea v (s.done16 s) :=
  (s.ends_short _).doesStore hal (f := id) (fun _ _ _ => rfl) (hx.trans (by rw [Except.map_id, id]))

/-- A store with pre-decrement of `R[a]` by `d`, the byte count (rule R251). -/
theorem doesStore_short_dec {s : State} {i : Instr} {a : Reg} {d v : Quad} {n align : Nat} (hal : alignOf n = align)
    (hd : quadOf n = d) (hx : exec i s = short (firstWord i) s (s.storeDec a n v)) :
    DoesStore (encode i) i s align n (s.r a - d) v (s.done16 (s.writeA a (s.r a - d))) := by
  subst hd
  rw [← State.wrA_eq]
  exact (s.ends_short _).doesStore hal (f := fun t => t.wrA a (s.r a - quadOf n))
    (fun _ _ _ => by simp only [State.wrA_eq, State.withMem_writeA]) hx

/-! ### Loads -/

/-- A load of `n` bytes and then an update `f` with the value read, whatever the end. -/
theorem State.Ends.doesLoad {s : State} {i : Instr} {len : Quad} {e : Res State → Host.Outcome State Fault Refusal}
    (he : s.Ends (firstWord i) len e) {ea : Quad} {n align : Nat} (hal : alignOf n = align) {f : Quad → State}
    (hx : exec i s = e ((s.load ea n).map f)) :
    DoesLoad (encode i) i s align n ea fun v => (f v).advance s.pcn len := by
  subst hal
  obtain ⟨hok, herr⟩ := he
  refine ⟨rfl, fun p hp => ?_, fun x hp => ?_⟩
  · rw [hx, State.load_ok hp]
    exact hok _
  · rw [Raises, hx, State.load_error hp]
    exact herr x

/-- Where DQ is as in `s`, a sign-extending load write of `n` bytes is a write of `f v`, or of `g v` at 32 bits (rule
R56). -/
def State.SignLoads (s : State) (n : Nat) (f : Quad → Quad) (g : Quad → Dword) : Prop :=
  ∀ (t : State) (d : Reg) (v : Quad), t.dq = s.dq → t.wrLoad d (8 * n) .sign v = t.writeW d (f v) (g v)

/-- A load of fewer than 64 bits is sign-extended to the width of the write. -/
theorem State.signLoads_narrow (s : State) {n : Nat} (hn : 8 * n ≠ 64) :
    s.SignLoads n (fun v => (v.setWidth (8 * n)).signExtend 64) fun v => (v.setWidth (8 * n)).signExtend 32 := by
  intro t d v _
  rw [State.wrLoad_eq t d _ _ v hn, extend, sxN, lo32_signExtend]

/-- A `.W/Q` load writes the quad it read at DQ = 1, and a sign-extended word at DQ = 0. -/
theorem State.signLoads_wq (s : State) : s.SignLoads s.wq (fun v => v) fun v => (v.setWidth 16).signExtend 32 := by
  intro t d v ht
  unfold State.wq State.writeW
  rw [ht]
  cases hq : s.dq
  · exact (s.signLoads_narrow (n := 2) (by decide) t d v ht).trans (by rw [State.writeW, ht, hq]; rfl)
  · exact State.wrLoad_64 t d .sign v

/-- A sign-extending load into `R[d]`. -/
theorem State.Ends.doesLoadReg {s : State} {i : Instr} {len : Quad} {e : Res State → Host.Outcome State Fault Refusal}
    (he : s.Ends (firstWord i) len e) {ea : Quad} {n align : Nat} (hal : alignOf n = align) {d : Reg}
    {f : Quad → Quad} {g : Quad → Dword} (hv : s.SignLoads n f g) (hx : exec i s = e (s.loadReg d n .sign ea)) :
    DoesLoad (encode i) i s align n ea fun v => (s.writeW d (f v) (g v)).advance s.pcn len := by
  have hw : ∀ v, s.wrLoad d (8 * n) .sign v = s.writeW d (f v) (g v) := fun v => hv s d v rfl
  simpa only [hw] using he.doesLoad hal (f := fun v => s.wrLoad d (8 * n) .sign v) hx

/-- A sign-extending load into `R[d]` with post-increment of `R[m]` by `k`, the byte count; the load write is last
(rule R251). -/
theorem State.Ends.doesLoadRegInc {s : State} {i : Instr} {len : Quad}
    {e : Res State → Host.Outcome State Fault Refusal} (he : s.Ends (firstWord i) len e) {n align : Nat}
    (hal : alignOf n = align) {k : Quad} (hk : quadOf n = k) {d m : Reg} {f : Quad → Quad} {g : Quad → Dword}
    (hv : s.SignLoads n f g) (hx : exec i s = e (s.loadRegInc d m n .sign)) :
    DoesLoad (encode i) i s align n (s.r m) fun v =>
      ((s.writeA m (s.r m + k)).writeW d (f v) (g v)).advance s.pcn len := by
  subst hk
  have hw : ∀ v, (s.wrA m (s.r m + quadOf n)).wrLoad d (8 * n) .sign v =
      (s.writeA m (s.r m + quadOf n)).writeW d (f v) (g v) := fun v => by
    rw [State.wrA_eq]
    exact hv _ d v (State.writeA_dq s m _)
  simpa only [hw] using he.doesLoad hal (f := fun v => (s.wrA m (s.r m + quadOf n)).wrLoad d (8 * n) .sign v) hx

/-! ### The plain stores and loads -/

/-- Settles O29: every line is a store, or a store with pre-decrement, that ends as a 16-bit instruction. -/
theorem plainStores : Obligations.PlainStores := by
  intro s
  refine ⟨fun n m => ?_, fun n m => ?_, fun n m => ?_, fun n m => ?_, fun n m => ?_, fun n m => ?_, fun n m => ?_,
    fun n m => ?_, fun n m => ?_, fun n m disp => ?_, fun n disp => ?_⟩
  · exact doesStore_short rfl (exec_movBRmAtRn n m s)
  · exact doesStore_short s.alignOf_wq (exec_movWQRmAtRn n m s)
  · exact doesStore_short rfl (exec_movLRmAtRn n m s)
  · exact doesStore_short_dec rfl rfl (exec_movBRmAtDecRn n m s)
  · exact doesStore_short_dec s.alignOf_wq s.quadOf_wq (exec_movWQRmAtDecRn n m s)
  · exact doesStore_short_dec rfl rfl (exec_movLRmAtDecRn n m s)
  · exact doesStore_short rfl (exec_movBRmAtR0Rn n m s)
  · exact doesStore_short s.alignOf_wq (exec_movWQRmAtR0Rn n m s)
  · exact doesStore_short rfl (exec_movLRmAtR0Rn n m s)
  · exact doesStore_short rfl (exec_movLRmAtRnDisp n m disp s)
  · rw [← zdisp_one disp]
    exact doesStore_short rfl (exec_movBR0AtRnDisp n disp s)

/-- Settles O30: every line is a sign-extending load, with post-increment or without, that ends as a 16-bit
instruction. -/
theorem plainLoads : Obligations.PlainLoads := by
  intro s
  have he := s.ends_short
  have hb := s.signLoads_narrow (n := 1) (by decide)
  have hl := s.signLoads_narrow (n := 4) (by decide)
  refine ⟨fun n m => ?_, fun n m => ?_, fun n m => ?_, fun n m => ?_, fun n m => ?_, fun n m => ?_, fun n m => ?_,
    fun n m => ?_, fun n m => ?_, fun n m disp => ?_, fun m disp => ?_⟩
  · exact (he _).doesLoadReg rfl hb (exec_movBAtRmRn n m s)
  · exact (he _).doesLoadReg (i := .movWQAtRmRn n m) s.alignOf_wq s.signLoads_wq (exec_movWQAtRmRn n m s)
  · exact (he _).doesLoadReg rfl hl (exec_movLAtRmRn n m s)
  · exact (he _).doesLoadRegInc rfl rfl hb (exec_movBAtRmIncRn n m s)
  · exact (he _).doesLoadRegInc (i := .movWQAtRmIncRn n m) s.alignOf_wq s.quadOf_wq s.signLoads_wq
      (exec_movWQAtRmIncRn n m s)
  · exact (he _).doesLoadRegInc rfl rfl hl (exec_movLAtRmIncRn n m s)
  · exact (he _).doesLoadReg rfl hb (exec_movBAtR0RmRn n m s)
  · exact (he _).doesLoadReg (i := .movWQAtR0RmRn n m) s.alignOf_wq s.signLoads_wq (exec_movWQAtR0RmRn n m s)
  · exact (he _).doesLoadReg rfl hl (exec_movLAtR0RmRn n m s)
  · exact (he _).doesLoadReg rfl hl (exec_movLAtRmDispRn n m disp s)
  · rw [← zdisp_one disp]
    exact (he _).doesLoadReg rfl hb (exec_movBAtRmDispR0 m disp s)

/-! ### PC-relative and GBR transfers -/

/-- `MOV.W/Q @(PC,disp),Rn` is one load of `.W/Q` width, whose base and scale depend on DQ (rule R281). -/
theorem exec_movWQAtPcDispRn_loadReg (n : BitVec 4) (disp : BitVec 8) (s : State) :
    exec (.movWQAtPcDispRn n disp) s = shortNoSlot (firstWord (.movWQAtPcDispRn n disp)) s
      (s.loadReg n s.wq .sign (if s.dq then align4 s.pcb16 + zdisp disp 8 else s.pcb16 + zdisp disp 2)) := by
  rw [exec_movWQAtPcDispRn, execMovWQAtPcDispRn, State.wq]
  cases s.dq <;> rfl

/-- Settles O31: the PC-relative rows by whether a branch is pending (the first three lines, and the next three for a
pending one), the GBR rows by JQ (in pairs, JQ = 0 and JQ = 1). -/
theorem pcAndGbrTransfers : Obligations.PcAndGbrTransfers := by
  intro s
  have hb := s.signLoads_narrow (n := 1) (by decide)
  have hw := s.signLoads_narrow (n := 2) (by decide)
  have hl := s.signLoads_narrow (n := 4) (by decide)
  refine ⟨fun n disp hd => ?_, fun n disp hd => ?_, fun disp hd => ?_, fun n disp hd => ?_, fun n disp hd => ?_,
    fun disp hd => ?_, fun disp hj => ?_, fun disp hj => ?_, fun disp hj => ?_, fun disp hj => ?_, fun disp hj => ?_,
    fun disp hj => ?_, fun disp hj => ?_, fun disp hj => ?_, fun disp hj => ?_, fun disp hj => ?_, fun disp hj => ?_,
    fun disp hj => ?_⟩
  · exact (State.ends_shortNoSlot hd _).doesLoadReg (i := .movWQAtPcDispRn n disp) s.alignOf_wq s.signLoads_wq
      (exec_movWQAtPcDispRn_loadReg n disp s)
  · exact (State.ends_shortNoSlot hd _).doesLoadReg rfl hl (exec_movLAtPcDispRn n disp s)
  · rw [← State.wrA_eq]
    exact ⟨rfl, (exec_movaAtPcDispR0 disp s).trans (shortNoSlot_ok hd _ _)⟩
  · exact (exec_movWQAtPcDispRn n disp s).trans (noSlot_slot hd _ _)
  · exact (exec_movLAtPcDispRn n disp s).trans (noSlot_slot hd _ _)
  · exact (exec_movaAtPcDispR0 disp s).trans (noSlot_slot hd _ _)
  · exact doesStore_short rfl ((exec_movBR0AtGbrDisp disp s).trans (short_needNotJq_of_jq_false hj _ _))
  · exact (exec_movBR0AtGbrDisp disp s).trans (short_needNotJq_of_jq_true hj _ _)
  · exact doesStore_short rfl ((exec_movWQR0AtGbrDisp disp s).trans (short_needNotJq_of_jq_false hj _ _))
  · exact (exec_movWQR0AtGbrDisp disp s).trans (short_needNotJq_of_jq_true hj _ _)
  · exact doesStore_short rfl ((exec_movLR0AtGbrDisp disp s).trans (short_needNotJq_of_jq_false hj _ _))
  · exact (exec_movLR0AtGbrDisp disp s).trans (short_needNotJq_of_jq_true hj _ _)
  · exact (s.ends_short _).doesLoadReg rfl hb
      ((exec_movBAtGbrDispR0 disp s).trans (short_needNotJq_of_jq_false hj _ _))
  · exact (exec_movBAtGbrDispR0 disp s).trans (short_needNotJq_of_jq_true hj _ _)
  · exact (s.ends_short _).doesLoadReg rfl hw
      ((exec_movWQAtGbrDispR0 disp s).trans (short_needNotJq_of_jq_false hj _ _))
  · exact (exec_movWQAtGbrDispR0 disp s).trans (short_needNotJq_of_jq_true hj _ _)
  · exact (s.ends_short _).doesLoadReg rfl hl
      ((exec_movLAtGbrDispR0 disp s).trans (short_needNotJq_of_jq_false hj _ _))
  · exact (exec_movLAtGbrDispR0 disp s).trans (short_needNotJq_of_jq_true hj _ _)

end Sys2Proof.Machine
end

section
/-! PROOFS. Arithmetic (spec/41_arithmetic.md): the operations that the rules write otherwise than the machine computes
them, and the statements O34 and O35 about addition, subtraction, comparison and DT. -/
namespace Sys2Proof.Machine

/-! ### How a register row ends -/

/-- A 16-bit instruction that cannot fail and computes `t`, which is `u` as a rule writes it. -/
theorem does_short {i : Instr} {s t u : State} (ht : t = u) (hx : exec i s = short (firstWord i) s (.ok t)) :
    Does (encode i) i s (s.done16 u) :=
  ⟨rfl, by rw [hx, ht, short_ok]⟩

/-! ### Operations in the form of their rules -/

/-- NEG is negation (rule R358). -/
theorem aluNeg_eq_neg (w : Nat) (a b : BitVec w) : aluNeg w a b = -b :=
  BitVec.zero_sub b

/-- NEGC forms the exact difference from 0 (rule R359). -/
theorem aluSubc_zero (w : Nat) (b : BitVec w) (t : Bool) :
    aluSubc w 0 b t =
      (BitVec.ofInt w (-(b.toNat : Int) - t.toNat), decide (-(b.toNat : Int) - t.toNat < 0)) := by
  have hz : (((0 : BitVec w).toNat : Int) - b.toNat - t.toNat) = -(b.toNat : Int) - t.toNat := by simp
  unfold aluSubc
  rw [hz]

/-- A computation on 0 and `b` that another one gives on any first operand and `b`. -/
theorem State.resultW_zero_left (s : State) (n : Reg) (a b : Quad) {f g : Computation}
    (h : ∀ (w : Nat) (x y : BitVec w) (t : Bool), f w 0 y t = g w x y t) :
    s.resultW n 0 b f = s.resultW n a b g := by
  have h32 : f 32 (lo32 0) (lo32 b) s.t = g 32 (lo32 a) (lo32 b) s.t := h 32 _ _ _
  rw [State.resultW, State.resultW, h 64 a b s.t, h32]

/-- A byte of the exclusive or of two low halves is 0 iff the quads agree on that byte. -/
theorem byte_xor_lo32_eq_zero_iff (a b : Quad) (k : Fin 4) :
    (lo32 a ^^^ lo32 b).extractLsb' (8 * k) 8 = 0 ↔ a.extractLsb' (8 * k) 8 = b.extractLsb' (8 * k) 8 := by
  have hlo : ∀ x : Quad, (lo32 x).extractLsb' (8 * k) 8 = x.extractLsb' (8 * k) 8 := fun x => by
    ext i hi
    simp [lo32, show 8 * (k : Nat) + i < 32 by omega]
  rw [BitVec.extractLsb'_xor, hlo, hlo]
  exact BitVec.xor_eq_zero_iff

/-- CMPSTR looks for one of the four low bytes in which the operands agree (rule R367). -/
theorem cmpStr_lo32_iff (a b : Quad) :
    cmpStr (lo32 a) (lo32 b) = true ↔ ∃ k : Fin 4, a.extractLsb' (8 * k) 8 = b.extractLsb' (8 * k) 8 := by
  simp only [← byte_xor_lo32_eq_zero_iff, cmpStr, Bool.or_eq_true, beq_iff_eq]
  constructor
  · rintro (((h | h) | h) | h)
    exacts [⟨3, h⟩, ⟨2, h⟩, ⟨1, h⟩, ⟨0, h⟩]
  · rintro ⟨k, h⟩
    match k with
    | 0 => exact .inr h
    | 1 => exact .inl (.inr h)
    | 2 => exact .inl (.inl (.inr h))
    | 3 => exact .inl (.inl (.inl h))

/-! ### The statements -/

/-- Settles O34: every line is a computation at W = OPW. The operations of NEG and NEGC are written otherwise than their
rules, and NEGC is given 0 in place of `R[n]`. -/
theorem addAndSubtract : Obligations.AddAndSubtract := by
  intro s
  refine ⟨fun n m => ?_, fun n imm => ?_, fun n m => ?_, fun n m => ?_, fun n m => ?_, fun n m => ?_, fun n m => ?_,
    fun n m => ?_, fun n m => ?_⟩
  · exact does_short (s.binOp_eq aluAdd n (s.r n) (s.r m)) (exec_addRmRn n m s)
  · exact does_short (s.binOp_eq aluAdd n (s.r n) (imm.signExtend 64)) (exec_addImmRn n imm s)
  · exact does_short (s.binTOp_eq aluAddc n (s.r n) (s.r m)) (exec_addcRmRn n m s)
  · exact does_short (s.binTOp_eq aluAddv n (s.r n) (s.r m)) (exec_addvRmRn n m s)
  · exact does_short (s.binOp_eq aluSub n (s.r n) (s.r m)) (exec_subRmRn n m s)
  · exact does_short (s.binTOp_eq aluSubc n (s.r n) (s.r m)) (exec_subcRmRn n m s)
  · exact does_short (s.binTOp_eq aluSubv n (s.r n) (s.r m)) (exec_subvRmRn n m s)
  · have hneg := s.binOp_eq aluNeg n (s.r n) (s.r m)
    simp only [aluNeg_eq_neg] at hneg
    exact does_short hneg (exec_negRmRn n m s)
  · have hnegc := (s.binTOp_eq aluSubc n 0 (s.r m)).trans
      (s.resultW_zero_left n (s.r n) (s.r m) fun w _ b t => by rw [aluSubc_zero])
    exact does_short hnegc (exec_negcRmRn n m s)

/-- Settles O35: every line but that of CMPSTR is a computation at W = OPW; a comparison leaves its destination out. -/
theorem compareAndTest : Obligations.CompareAndTest := by
  intro s
  refine ⟨fun n m => ?_, fun n m => ?_, fun n m => ?_, fun n m => ?_, fun n m => ?_, fun n => ?_, fun n => ?_,
    fun n m => ?_, fun imm => ?_, fun n => ?_⟩
  · exact does_short (s.cmpOp_eq cmpEq n (s.r n) (s.r m)) (exec_cmpeqRmRn n m s)
  · exact does_short (s.cmpOp_eq cmpHs n (s.r n) (s.r m)) (exec_cmphsRmRn n m s)
  · exact does_short (s.cmpOp_eq cmpGe n (s.r n) (s.r m)) (exec_cmpgeRmRn n m s)
  · exact does_short (s.cmpOp_eq cmpHi n (s.r n) (s.r m)) (exec_cmphiRmRn n m s)
  · exact does_short (s.cmpOp_eq cmpGt n (s.r n) (s.r m)) (exec_cmpgtRmRn n m s)
  · exact does_short (s.cmpOp_eq cmpGe n (s.r n) 0) (exec_cmppzRn n s)
  · exact does_short (s.cmpOp_eq cmpGt n (s.r n) 0) (exec_cmpplRn n s)
  · have hstr := Bool.eq_iff_iff.mpr ((cmpStr_lo32_iff (s.r n) (s.r m)).trans decide_eq_true_iff.symm)
    exact does_short (congrArg s.setT hstr) (exec_cmpstrRmRn n m s)
  · exact does_short (s.cmpOp_eq cmpEq 0 (s.r 0) (imm.signExtend 64)) (exec_cmpeqImmR0 imm s)
  · exact does_short (s.unTOp_eq aluDt n) (exec_dtRn n s)

end Sys2Proof.Machine
end

section
/-! PROOFS. Logic (spec/42_logic_shift.md): the statement O38 about AND, OR, XOR, TST and NOT. -/
namespace Sys2Proof.Machine

/-- Settles O38: every line is a computation at W = OPW on two registers, or on `R[0]` and the zero-extended immediate.
TST is a comparison, so it leaves its destination out. -/
theorem logic : Obligations.Logic := by
  intro s
  refine ⟨fun n m => ?and, fun imm => ?andImm, fun n m => ?or, fun imm => ?orImm, fun n m => ?xor, fun imm => ?xorImm,
    fun n m => ?tst, fun imm => ?tstImm, fun n m => ?not⟩
  case and => exact does_short (s.binOp_eq aluAnd n (s.r n) (s.r m)) (exec_andRmRn n m s)
  case andImm => exact does_short (s.binOp_eq aluAnd 0 (s.r 0) (imm.setWidth 64)) (exec_andImmR0 imm s)
  case or => exact does_short (s.binOp_eq aluOr n (s.r n) (s.r m)) (exec_orRmRn n m s)
  case orImm => exact does_short (s.binOp_eq aluOr 0 (s.r 0) (imm.setWidth 64)) (exec_orImmR0 imm s)
  case xor => exact does_short (s.binOp_eq aluXor n (s.r n) (s.r m)) (exec_xorRmRn n m s)
  case xorImm => exact does_short (s.binOp_eq aluXor 0 (s.r 0) (imm.setWidth 64)) (exec_xorImmR0 imm s)
  case tst => exact does_short (s.cmpOp_eq cmpTst n (s.r n) (s.r m)) (exec_tstRmRn n m s)
  case tstImm => exact does_short (s.cmpOp_eq cmpTst 0 (s.r 0) (imm.setWidth 64)) (exec_tstImmR0 imm s)
  case not => exact does_short (s.binOp_eq aluNot n (s.r n) (s.r m)) (exec_notRmRn n m s)

end Sys2Proof.Machine
end

section
/-! PROOFS. Branches (spec/43_branch.md): what a branch does to the state, with PC-relative targets written from PCn,
and the statement O40. -/
namespace Sys2Proof.Machine

/-! ### How a branch ends -/

/-- Outside a delay slot, an instruction that may not stand in one computes `t`, which is `u` as a rule writes it. -/
theorem does_noSlot {i : Instr} {s t u : State} (hd : s.ds = none) (ht : t = u)
    (hx : exec i s = noSlot (firstWord i) s (.ok t)) : Does (encode i) i s u :=
  ⟨rfl, by rw [hx, noSlot_ok hd, ht]⟩

/-- In a delay slot it is an illegal instruction, whatever it would compute (rule R501). -/
theorem raises_noSlot_slot {i : Instr} {s : State} {r : Res State} (hd : s.ds.isSome = true)
    (hx : exec i s = noSlot (firstWord i) s r) : Raises i s .illegal :=
  hx.trans (noSlot_slot hd _ _)

/-! ### Targets and the link register -/

/-- An address formed from PCB: that PCB is itself reduced to the address width (rule R20) makes no difference. -/
theorem State.addr_pcb16_add (s : State) (o : Quad) : s.addr (s.pcb16 + o) = s.addr (s.pcn + 4 + o) :=
  s.addr_addr_add _ _

/-- `pc <- PCB + o` (rules R20, R61). -/
theorem State.jump_pcb16_add (s : State) (o : Quad) : s.jump (s.pcb16 + o) = s.jump (s.pcn + 4 + o) := by
  rw [State.jump, State.addr_pcb16_add, State.jump]

/-- `DelayedBranch(PCB + o)` (rules R20, R500). -/
theorem State.delayedBranch_pcb16_add (s : State) (len o : Quad) :
    s.delayedBranch len (s.pcb16 + o) = s.delayedBranch len (s.pcn + 4 + o) := by
  rw [State.delayedBranch, State.addr_pcb16_add, State.delayedBranch]

/-- A call writes PR at the address width and nothing else (rule R503). -/
theorem State.link_eq (s : State) (v : Quad) : s.link v = { s with pr := s.mergeA s.pr v } := rfl

/-- A call's target and its own address are those of the state before PR is written. -/
theorem State.link_delayedBranch (s : State) (v len t : Quad) :
    (s.link v).delayedBranch len t =
      { s with
          pr := s.mergeA s.pr v, ds := some ⟨s.addr t, s.pcn, false⟩, pc := s.addr (s.pcn + len) } := by
  rw [State.link_eq]
  rfl

/-- A PC-relative call (rules R515, R517). -/
theorem State.link_delayedBranch_pcb16_add (s : State) (v len o : Quad) :
    (s.link v).delayedBranch len (s.pcb16 + o) =
      { s with
          pr := s.mergeA s.pr v, ds := some ⟨s.addr (s.pcn + 4 + o), s.pcn, false⟩, pc := s.addr (s.pcn + len) } := by
  rw [State.link_delayedBranch, State.addr_pcb16_add]

/-! ### Conditional branches -/

/-- A branch without a slot, taken or not (rules R510, R511). -/
theorem State.branchIf_pcb16_add {s : State} (hd : s.ds = none) (c : Bool) (len o : Quad) :
    s.branchIf c len (s.pcb16 + o) =
      if c then s.jump (s.pcn + 4 + o) else { s with pc := s.addr (s.pcn + len) } := by
  rw [State.branchIf, State.jump_pcb16_add, State.advance_none hd]

/-- A delayed branch, taken or not (rules R512, R513). -/
theorem State.delayedIf_pcb16_add {s : State} (hd : s.ds = none) (c : Bool) (len o : Quad) :
    s.delayedIf c len (s.pcb16 + o) =
      if c then s.delayedBranch len (s.pcn + 4 + o) else { s with pc := s.addr (s.pcn + len) } := by
  rw [State.delayedIf, State.delayedBranch_pcb16_add, State.advance_none hd]

/-! ### The statement -/

/-- Settles O40: outside a slot every line is one of the branches above, with its displacement or register for `o`, or
an absolute target; the last eleven lines are those same rows in a slot. -/
theorem branches16 : Obligations.Branches16 := by
  intro s
  refine ⟨fun disp hd => ?bt, fun disp hd => ?bf, fun disp hd => ?bts, fun disp hd => ?bfs, fun disp hd => ?bra,
    fun disp hd => ?bsr, fun m hd => ?braf, fun m hd => ?bsrf, fun m hd => ?jmp, fun m hd => ?jsr, fun hd => ?rts,
    fun disp hd => ?btSlot, fun disp hd => ?bfSlot, fun disp hd => ?btsSlot, fun disp hd => ?bfsSlot,
    fun disp hd => ?braSlot, fun disp hd => ?bsrSlot, fun m hd => ?brafSlot, fun m hd => ?bsrfSlot,
    fun m hd => ?jmpSlot, fun m hd => ?jsrSlot, fun hd => ?rtsSlot⟩
  case bt => exact does_noSlot hd (State.branchIf_pcb16_add hd s.t 2 (sdisp disp 2)) (exec_bt disp s)
  case bf => exact does_noSlot hd (State.branchIf_pcb16_add hd (!s.t) 2 (sdisp disp 2)) (exec_bf disp s)
  case bts => exact does_noSlot hd (State.delayedIf_pcb16_add hd s.t 2 (sdisp disp 2)) (exec_bts disp s)
  case bfs => exact does_noSlot hd (State.delayedIf_pcb16_add hd (!s.t) 2 (sdisp disp 2)) (exec_bfs disp s)
  case bra => exact does_noSlot hd (s.delayedBranch_pcb16_add 2 (sdisp disp 2)) (exec_bra disp s)
  case bsr => exact does_noSlot hd (s.link_delayedBranch_pcb16_add (s.pcn + 4) 2 (sdisp disp 2)) (exec_bsr disp s)
  case braf => exact does_noSlot hd (s.delayedBranch_pcb16_add 2 (s.r m)) (exec_brafRm m s)
  case bsrf => exact does_noSlot hd (s.link_delayedBranch_pcb16_add (s.pcn + 4) 2 (s.r m)) (exec_bsrfRm m s)
  case jmp => exact does_noSlot hd rfl (exec_jmpAtRm m s)
  case jsr => exact does_noSlot hd (s.link_delayedBranch (s.pcn + 4) 2 (s.r m)) (exec_jsrAtRm m s)
  case rts => exact does_noSlot hd rfl (exec_rts s)
  case btSlot => exact raises_noSlot_slot hd (exec_bt disp s)
  case bfSlot => exact raises_noSlot_slot hd (exec_bf disp s)
  case btsSlot => exact raises_noSlot_slot hd (exec_bts disp s)
  case bfsSlot => exact raises_noSlot_slot hd (exec_bfs disp s)
  case braSlot => exact raises_noSlot_slot hd (exec_bra disp s)
  case bsrSlot => exact raises_noSlot_slot hd (exec_bsr disp s)
  case brafSlot => exact raises_noSlot_slot hd (exec_brafRm m s)
  case bsrfSlot => exact raises_noSlot_slot hd (exec_bsrfRm m s)
  case jmpSlot => exact raises_noSlot_slot hd (exec_jmpAtRm m s)
  case jsrSlot => exact raises_noSlot_slot hd (exec_jsrAtRm m s)
  case rtsSlot => exact raises_noSlot_slot hd (exec_rts s)

end Sys2Proof.Machine
end

section
/-! PROOFS. XPFX0 (spec/46_xpfx0.md): how a 32-bit row ends, its effective addresses, and the statements O50, O52, O54
and O55 about the loads, the computations with an immediate, the branches and the PC-relative loads. -/
namespace Sys2Proof.Machine

/-! ### How a 32-bit row ends -/

/-- Outside a delay slot a 32-bit row ends as the 16-bit ones do, four bytes on (rule R720). -/
theorem State.ends_wide {s : State} (h : s.ds = none) (w : IWord) : s.Ends w 4 (wide w s) :=
  ⟨wide_ok h w, wide_error h w⟩

/-- Outside a delay slot, a 32-bit row that cannot fail computes `t`, which is `u` as a rule writes it. -/
theorem does_wide {i : Instr} {s t u : State} (hd : s.ds = none) (ht : t = u)
    (hx : exec i s = wide (firstWord i) s (.ok t)) : Does (encode i) i s (s.done32 u) :=
  ⟨rfl, by rw [hx, ht, wide_ok hd]⟩

/-- At JQ = 1 a row that needs it runs (rule R15). -/
theorem wide_needJq_of_jq_true {s : State} (h : s.jq = true) (w : IWord) (r : Res State) :
    wide w s (s.needJq r) = wide w s r := by
  rw [State.needJq, h, if_pos rfl]

/-- At JQ = 0 it is an illegal instruction, in a slot too. -/
theorem wide_needJq_of_jq_false {s : State} (h : s.jq = false) (w : IWord) (r : Res State) :
    wide w s (s.needJq r) = .next (s.takeException w .illegal) := by
  rw [State.needJq, h, if_neg Bool.false_ne_true, wide_illegal]

/-- A row that names a high half runs on a core that has them (rule R58). -/
theorem wide_needRh_of_hasRh_true {s : State} (h : s.hasRh = true) (w : IWord) (r : Res State) :
    wide w s (s.needRh r) = wide w s r := by
  rw [State.needRh, h, if_pos rfl]

/-- On any other core it is an illegal instruction, in a slot too. -/
theorem wide_needRh_of_hasRh_false {s : State} (h : s.hasRh = false) (w : IWord) (r : Res State) :
    wide w s (s.needRh r) = .next (s.takeException w .illegal) := by
  rw [State.needRh, h, if_neg Bool.false_ne_true, wide_illegal]

/-! ### Effective addresses -/

/-- EA3 with its scale, 1 or the access size, written as a quad (rule R721). -/
theorem State.ea3_eq (s : State) (base : Quad) (o : Reg) (disp : Quad) (size : Nat) (scale : Quad)
    (h : quadOf size = scale) :
    s.ea3 base o disp size =
      base + ((if o = 15 then 0 else s.r o) + disp) * (if o = 0 then 1 else scale) := by
  subst h
  unfold State.ea3
  by_cases ho : o = 0
  · rw [if_pos ho, if_pos ho]
    rfl
  · rw [if_neg ho, if_neg ho]

/-! ### Loads -/

/-- A zero-extending load of fewer than 64 bits into `R[d]`. -/
theorem State.Ends.doesLoadRegZero {s : State} {i : Instr} {len : Quad}
    {e : Res State → Host.Outcome State Fault Refusal} (he : s.Ends (firstWord i) len e) {ea : Quad} {n align : Nat}
    (hal : alignOf n = align) (hn : 8 * n ≠ 64) {d : Reg} (hx : exec i s = e (s.loadReg d n .zero ea)) :
    DoesLoad (encode i) i s align n ea fun v =>
      (s.writeW d ((v.setWidth (8 * n)).setWidth 64) ((v.setWidth (8 * n)).setWidth 32)).advance s.pcn len := by
  have hw : ∀ v, s.wrLoad d (8 * n) .zero v =
      s.writeW d ((v.setWidth (8 * n)).setWidth 64) ((v.setWidth (8 * n)).setWidth 32) := fun v => by
    rw [State.wrLoad_eq s d _ _ v hn, extend, zxN, lo32_setWidth]
  simpa only [hw] using he.doesLoad hal (f := fun v => s.wrLoad d (8 * n) .zero v) hx

/-- A load of a quad into `R[d]` writes the whole cell, at DQ = 0 too (rule R56). -/
theorem State.Ends.doesLoadRegQuad {s : State} {i : Instr} {len : Quad}
    {e : Res State → Host.Outcome State Fault Refusal} (he : s.Ends (firstWord i) len e) {ea : Quad} {d : Reg}
    {x : Ext} (hx : exec i s = e (s.loadReg d 8 x ea)) :
    DoesLoad (encode i) i s 4 8 ea fun v => (s.setR d v).advance s.pcn len := by
  have hw : ∀ v, s.wrLoad d (8 * 8) x v = s.setR d v := s.wrLoad_64 d x
  simpa only [hw] using he.doesLoad (align := 4) rfl (f := fun v => s.wrLoad d (8 * 8) x v) hx

/-- A 32-bit load row that needs the high halves and writes `f` of the value read, which is `g` of it as a rule writes
it. -/
theorem doesLoad_needRh {i : Instr} {s : State} (hd : s.ds = none) (hr : s.hasRh = true) {ea : Quad} {n align : Nat}
    (hal : alignOf n = align) {f g : Quad → State} (hfg : ∀ v, f v = g v)
    (hx : exec i s = wide (firstWord i) s (s.needRh ((s.load ea n).map f))) :
    DoesLoad (encode i) i s align n ea fun v => s.done32 (g v) := by
  obtain rfl : f = g := funext hfg
  exact (State.ends_wide hd _).doesLoad hal (hx.trans (wide_needRh_of_hasRh_true hr _ _))

/-- Settles O50: every line is a load into `R[n]` that ends as a 32-bit row: sign-extending, zero-extending, or of a
quad; the quad rows need JQ = 1, and the last two lines are those rows without it. -/
theorem wideLoads : Obligations.WideLoads := by
  intro s
  have hb := s.signLoads_narrow (n := 1) (by decide)
  have hw := s.signLoads_narrow (n := 2) (by decide)
  have hl := s.signLoads_narrow (n := 4) (by decide)
  refine ⟨fun o disp n m hd => ?movB, fun o disp n m hd => ?movW, fun o disp n m hd => ?movL,
    fun o disp n m hd hj => ?movQ, fun disp n m o hd => ?movLRo, fun disp n m hd => ?movBDisp,
    fun disp n m hd => ?movWDisp, fun disp n m hd => ?movLDisp, fun disp n m hd hj => ?movQDisp,
    fun disp n m hd => ?movuB, fun disp n m hd => ?movuW, fun disp n m hd => ?movuL, fun o disp n m hj => ?movQIllegal,
    fun disp n m hj => ?movQDispIllegal⟩
  case movB =>
    rw [← s.ea3_eq _ o _ 1 1 rfl]
    exact (State.ends_wide hd _).doesLoadReg rfl hb (exec_xMovBAtRmRoDisp4Rn o disp n m s)
  case movW =>
    rw [← s.ea3_eq _ o _ 2 2 rfl]
    exact (State.ends_wide hd _).doesLoadReg rfl hw (exec_xMovWAtRmRoDisp4Rn o disp n m s)
  case movL =>
    rw [← s.ea3_eq _ o _ 4 4 rfl]
    exact (State.ends_wide hd _).doesLoadReg rfl hl (exec_xMovLAtRmRoDisp4Rn o disp n m s)
  case movQ =>
    rw [← s.ea3_eq _ o _ 8 8 rfl]
    exact (State.ends_wide hd _).doesLoadRegQuad
      ((exec_xMovQAtRmRoDisp4Rn o disp n m s).trans (wide_needJq_of_jq_true hj _ _))
  case movLRo =>
    rw [← s.ea3_eq _ o _ 4 4 rfl]
    exact (State.ends_wide hd _).doesLoadReg rfl hl (exec_xMovLAtRmRoDisp8sRn disp n m o s)
  case movBDisp => exact (State.ends_wide hd _).doesLoadReg rfl hb (exec_xMovBAtRmDisp8sRn disp n m s)
  case movWDisp => exact (State.ends_wide hd _).doesLoadReg rfl hw (exec_xMovWAtRmDisp8sRn disp n m s)
  case movLDisp => exact (State.ends_wide hd _).doesLoadReg rfl hl (exec_xMovLAtRmDisp8sRn disp n m s)
  case movQDisp =>
    exact (State.ends_wide hd _).doesLoadRegQuad
      ((exec_xMovQAtRmDisp8sRn disp n m s).trans (wide_needJq_of_jq_true hj _ _))
  case movuB => exact (State.ends_wide hd _).doesLoadRegZero rfl (by decide) (exec_xMovuBAtRmDisp8sRn disp n m s)
  case movuW => exact (State.ends_wide hd _).doesLoadRegZero rfl (by decide) (exec_xMovuWAtRmDisp8sRn disp n m s)
  case movuL => exact (State.ends_wide hd _).doesLoadRegZero rfl (by decide) (exec_xMovuLAtRmDisp8sRn disp n m s)
  case movQIllegal => exact (exec_xMovQAtRmRoDisp4Rn o disp n m s).trans (wide_needJq_of_jq_false hj _ _)
  case movQDispIllegal => exact (exec_xMovQAtRmDisp8sRn disp n m s).trans (wide_needJq_of_jq_false hj _ _)

/-! ### Computations with an immediate -/

/-- SHAD with its count in the second operand is the shift of its rule, at W = OPW (rules R461, R762). -/
theorem State.binOp_aluShad (s : State) (n : Reg) (a b : Quad) :
    s.binOp aluShad n a b = s.resultW n a b fun w a b _ => (some (shadRule w a b.toInt), none) := by
  simp only [s.binOp_eq, aluShad, shiftArith_eq_rule]

/-- The same for SHLD (rules R462, R763). -/
theorem State.binOp_aluShld (s : State) (n : Reg) (a b : Quad) :
    s.binOp aluShld n a b = s.resultW n a b fun w a b _ => (some (shldRule w a b.toInt), none) := by
  simp only [s.binOp_eq, aluShld, shiftLogic_eq_rule]

/-- An immediate written to `R[n]{W}` is sign-extended to the width of the write (rule R813). -/
theorem State.wr_opw_signExtend {w : Nat} (s : State) (n : Reg) (imm : BitVec w) :
    s.wr s.dq n (imm.signExtend 64) = s.writeW n (imm.signExtend 64) (imm.signExtend 32) := by
  rw [State.wr_opw, lo32_signExtend]

/-- Settles O52: every line but the last is a computation at W = OPW on a register and the sign-extended immediate; the
last is a register write. -/
theorem wideArithmetic : Obligations.WideArithmetic := by
  intro s
  refine ⟨fun imm n m hd => ?and, fun imm n m hd => ?xor, fun imm n m hd => ?or, fun imm n m hd => ?mull,
    fun imm n m hd => ?sub, fun imm n m hd => ?add, fun imm n m hd => ?shad, fun imm n m hd => ?shld,
    fun imm n hd => ?addImm16, fun imm n hd => ?movImm16⟩
  case and => exact does_wide hd (s.binOp_eq aluAnd n (s.r m) (imm.signExtend 64)) (exec_xAndRmImm8Rn imm n m s)
  case xor => exact does_wide hd (s.binOp_eq aluXor n (s.r m) (imm.signExtend 64)) (exec_xXorRmImm8Rn imm n m s)
  case or => exact does_wide hd (s.binOp_eq aluOr n (s.r m) (imm.signExtend 64)) (exec_xOrRmImm8Rn imm n m s)
  case mull => exact does_wide hd (s.binOp_eq aluMul n (s.r m) (imm.signExtend 64)) (exec_xMullRmImm8Rn imm n m s)
  case sub => exact does_wide hd (s.binOp_eq aluSub n (s.r m) (imm.signExtend 64)) (exec_xSubRmImm8Rn imm n m s)
  case add => exact does_wide hd (s.binOp_eq aluAdd n (s.r m) (imm.signExtend 64)) (exec_xAddRmImm8Rn imm n m s)
  case shad => exact does_wide hd (s.binOp_aluShad n (s.r m) (imm.signExtend 64)) (exec_xShadRmImmRn imm n m s)
  case shld => exact does_wide hd (s.binOp_aluShld n (s.r m) (imm.signExtend 64)) (exec_xShldRmImmRn imm n m s)
  case addImm16 => exact does_wide hd (s.binOp_eq aluAdd n (s.r n) (imm.signExtend 64)) (exec_xAddImm16Rn imm n s)
  case movImm16 => exact does_wide hd (s.wr_opw_signExtend n imm) (exec_xMovImm16Rn imm n s)

/-! ### Branches -/

/-- `pc <- t + o`, where `t` was reduced to the address width first, as PCB is (rules R20, R61). -/
theorem State.jump_addr_add (s : State) (t o : Quad) : s.jump (s.addr t + o) = s.jump (t + o) := by
  rw [State.jump, State.addr_addr_add, State.jump]

/-- `DelayedBranch(t + o)`, with such a `t` (rules R20, R500). -/
theorem State.delayedBranch_addr_add (s : State) (len t o : Quad) :
    s.delayedBranch len (s.addr t + o) = s.delayedBranch len (t + o) := by
  rw [State.delayedBranch, State.addr_addr_add, State.delayedBranch]

/-- A call without a slot: PR, and the target of the state before PR is written (rule R781). -/
theorem State.link_jump_addr_add (s : State) (v t o : Quad) :
    (s.link v).jump (s.addr t + o) = { s with pr := s.mergeA s.pr v, pc := s.addr (t + o) } := by
  rw [← s.addr_addr_add t o, State.link_eq]
  rfl

/-- A call with a slot (rule R799). -/
theorem State.link_delayedBranch_addr_add (s : State) (v len t o : Quad) :
    (s.link v).delayedBranch len (s.addr t + o) =
      { s with
          pr := s.mergeA s.pr v, ds := some ⟨s.addr (t + o), s.pcn, false⟩, pc := s.addr (s.pcn + len) } := by
  rw [State.link_delayedBranch, State.addr_addr_add]

/-- A branch without a slot, taken or not (rules R783, R785). -/
theorem State.branchIf_addr_add {s : State} (hd : s.ds = none) (c : Bool) (len t o : Quad) :
    s.branchIf c len (s.addr t + o) =
      if c then s.jump (t + o) else { s with pc := s.addr (s.pcn + len) } := by
  rw [State.branchIf, State.jump_addr_add, State.advance_none hd]

/-- A delayed branch, taken or not (rules R787, R788). -/
theorem State.delayedIf_addr_add {s : State} (hd : s.ds = none) (c : Bool) (len t o : Quad) :
    s.delayedIf c len (s.addr t + o) =
      if c then s.delayedBranch len (t + o) else { s with pc := s.addr (s.pcn + len) } := by
  rw [State.delayedIf, State.delayedBranch_addr_add, State.advance_none hd]

/-- Settles O54: outside a slot every line is one of the branches above, from PCn + 6; the last eight lines are those
same rows in a slot. -/
theorem wideBranches : Obligations.WideBranches := by
  intro s
  refine ⟨fun disp hd => ?bran, fun disp hd => ?bsrn, fun disp hd => ?bt, fun disp hd => ?bf, fun disp hd => ?bts,
    fun disp hd => ?bfs, fun disp hd => ?bra, fun disp hd => ?bsr, fun disp hd => ?branSlot, fun disp hd => ?bsrnSlot,
    fun disp hd => ?btSlot, fun disp hd => ?bfSlot, fun disp hd => ?btsSlot, fun disp hd => ?bfsSlot,
    fun disp hd => ?braSlot, fun disp hd => ?bsrSlot⟩
  case bran => exact does_noSlot hd (s.jump_addr_add (s.pcn + 6) (sdisp disp 2)) (exec_xBranDisp16 disp s)
  case bsrn =>
    exact does_noSlot hd (s.link_jump_addr_add (s.pcn + 4) (s.pcn + 6) (sdisp disp 2)) (exec_xBsrnDisp16 disp s)
  case bt =>
    exact does_noSlot hd (State.branchIf_addr_add hd s.t 4 (s.pcn + 6) (sdisp disp 2)) (exec_xBtDisp16 disp s)
  case bf =>
    exact does_noSlot hd (State.branchIf_addr_add hd (!s.t) 4 (s.pcn + 6) (sdisp disp 2)) (exec_xBfDisp16 disp s)
  case bts =>
    exact does_noSlot hd (State.delayedIf_addr_add hd s.t 4 (s.pcn + 6) (sdisp disp 2)) (exec_xBtsDisp16 disp s)
  case bfs =>
    exact does_noSlot hd (State.delayedIf_addr_add hd (!s.t) 4 (s.pcn + 6) (sdisp disp 2)) (exec_xBfsDisp16 disp s)
  case bra =>
    exact does_noSlot hd (s.delayedBranch_addr_add 4 (s.pcn + 6) (sdisp disp 2)) (exec_xBraDisp20 disp s)
  case bsr =>
    exact does_noSlot hd (s.link_delayedBranch_addr_add (s.pcn + 6) 4 (s.pcn + 6) (sdisp disp 2))
      (exec_xBsrDisp20 disp s)
  case branSlot => exact raises_noSlot_slot hd (exec_xBranDisp16 disp s)
  case bsrnSlot => exact raises_noSlot_slot hd (exec_xBsrnDisp16 disp s)
  case btSlot => exact raises_noSlot_slot hd (exec_xBtDisp16 disp s)
  case bfSlot => exact raises_noSlot_slot hd (exec_xBfDisp16 disp s)
  case btsSlot => exact raises_noSlot_slot hd (exec_xBtsDisp16 disp s)
  case bfsSlot => exact raises_noSlot_slot hd (exec_xBfsDisp16 disp s)
  case braSlot => exact raises_noSlot_slot hd (exec_xBraDisp20 disp s)
  case bsrSlot => exact raises_noSlot_slot hd (exec_xBsrDisp20 disp s)

/-! ### PC-relative loads -/

/-- Settles O55: the rows into `R[n]` are loads of `R[n]{W}`; those into `RH[n]` and `RQ[n]` write the half or the cell
with the extended value and are each followed by the line for a core without high halves (MOV.Q: for JQ = 0). -/
theorem widePcLoads : Obligations.WidePcLoads := by
  intro s
  have hw := s.signLoads_narrow (n := 2) (by decide)
  have hl := s.signLoads_narrow (n := 4) (by decide)
  refine ⟨fun disp n hd => ?movuW, fun disp n hd hr => ?movuWRh, fun disp n hr => ?movuWRhIllegal,
    fun disp n hd hr => ?movuWRq, fun disp n hr => ?movuWRqIllegal, fun disp n hd hr => ?movLRh,
    fun disp n hr => ?movLRhIllegal, fun disp n hd hr => ?movWRh, fun disp n hr => ?movWRhIllegal,
    fun disp n hd hr => ?movLRq, fun disp n hr => ?movLRqIllegal, fun disp n hd hr => ?movWRq,
    fun disp n hr => ?movWRqIllegal, fun disp n hd hr => ?movuLRq, fun disp n hr => ?movuLRqIllegal,
    fun disp n hd hj => ?movQRq, fun disp n hj => ?movQRqIllegal, fun disp n hd => ?movL, fun disp n hd => ?movW⟩
  case movuW => exact (State.ends_wide hd _).doesLoadRegZero rfl (by decide) (exec_xMovuWAtPcDisp13Rn disp n s)
  case movuWRh =>
    exact doesLoad_needRh hd hr rfl (fun v => congrArg (s.setHalf true n) (lo32_setWidth (v.setWidth 16)))
      (exec_xMovuWAtPcDisp13RHn disp n s)
  case movuWRhIllegal => exact (exec_xMovuWAtPcDisp13RHn disp n s).trans (wide_needRh_of_hasRh_false hr _ _)
  case movuWRq => exact doesLoad_needRh hd hr rfl (fun _ => rfl) (exec_xMovuWAtPcDisp13RQn disp n s)
  case movuWRqIllegal => exact (exec_xMovuWAtPcDisp13RQn disp n s).trans (wide_needRh_of_hasRh_false hr _ _)
  case movLRh => exact doesLoad_needRh hd hr rfl (fun _ => rfl) (exec_xMovLAtPcDisp13RHn disp n s)
  case movLRhIllegal => exact (exec_xMovLAtPcDisp13RHn disp n s).trans (wide_needRh_of_hasRh_false hr _ _)
  case movWRh =>
    exact doesLoad_needRh hd hr rfl (fun v => congrArg (s.setHalf true n) (lo32_signExtend (v.setWidth 16)))
      (exec_xMovWAtPcDisp13RHn disp n s)
  case movWRhIllegal => exact (exec_xMovWAtPcDisp13RHn disp n s).trans (wide_needRh_of_hasRh_false hr _ _)
  case movLRq => exact doesLoad_needRh hd hr rfl (fun _ => rfl) (exec_xMovLAtPcDisp13RQn disp n s)
  case movLRqIllegal => exact (exec_xMovLAtPcDisp13RQn disp n s).trans (wide_needRh_of_hasRh_false hr _ _)
  case movWRq => exact doesLoad_needRh hd hr rfl (fun _ => rfl) (exec_xMovWAtPcDisp13RQn disp n s)
  case movWRqIllegal => exact (exec_xMovWAtPcDisp13RQn disp n s).trans (wide_needRh_of_hasRh_false hr _ _)
  case movuLRq => exact doesLoad_needRh hd hr rfl (fun _ => rfl) (exec_xMovuLAtPcDisp13RQn disp n s)
  case movuLRqIllegal => exact (exec_xMovuLAtPcDisp13RQn disp n s).trans (wide_needRh_of_hasRh_false hr _ _)
  case movQRq =>
    exact doesLoad_needRh hd (State.hasRh_of_jq hj) rfl (fun _ => rfl)
      ((exec_xMovQAtPcDisp13RQn disp n s).trans (wide_needJq_of_jq_true hj _ _))
  case movQRqIllegal => exact (exec_xMovQAtPcDisp13RQn disp n s).trans (wide_needJq_of_jq_false hj _ _)
  case movL => exact (State.ends_wide hd _).doesLoadReg rfl hl (exec_xMovLAtPcDisp13Rn disp n s)
  case movW => exact (State.ends_wide hd _).doesLoadReg rfl hw (exec_xMovWAtPcDisp13Rn disp n s)

end Sys2Proof.Machine
end

section
/-! PROOFS. What an instruction may write, said once: the elementary writes and that every instruction is made of them; what
a step can do; and the statements O7, O8, O13 and O24 about every instruction and every step. -/
namespace Sys2Proof.Machine

/-! ### Bits and masks -/

/-- A bit of a value with bit `i` made `b`. -/
theorem getLsbD_replaceBit {w i : Nat} (x : BitVec w) (hi : i < w) (b : Bool) (k : Nat) :
    (if b then x ||| (1#w <<< i) else x &&& ~~~(1#w <<< i)).getLsbD k = if k = i then b else x.getLsbD k := by
  rw [← BitVec.twoPow_eq]
  by_cases hk : k < w
  · by_cases hki : k = i
    · subst hki
      cases b <;> simp [hk]
    · cases b <;> simp [hk, hki, BitVec.getElem_twoPow]
  · rw [BitVec.getLsbD_of_ge _ k (by omega), BitVec.getLsbD_of_ge x k (by omega), if_neg (by omega)]

theorem getLsbD_putBit (x : Quad) {i : Nat} (hi : i < 64) (b : Bool) (k : Nat) :
    (putBit x i b).getLsbD k = if k = i then b else x.getLsbD k := getLsbD_replaceBit x hi b k

theorem getLsbD_putBit32 (x : Dword) {i : Nat} (hi : i < 32) (b : Bool) (k : Nat) :
    (putBit32 x i b).getLsbD k = if k = i then b else x.getLsbD k := getLsbD_replaceBit x hi b k

/-- No bit outside a mask. -/
theorem and_not_eq_zero_iff {w : Nat} (v mask : BitVec w) :
    v &&& ~~~mask = 0 ↔ ∀ i, v.getLsbD i = true → mask.getLsbD i = true := by
  constructor
  · intro h i hv
    have hi := BitVec.lt_of_getLsbD hv
    have := congrArg (fun x => x.getLsbD i) h
    simpa [hv, hi] using this
  · intro h
    refine BitVec.eq_of_getLsbD_eq fun i hi => ?_
    cases hv : v.getLsbD i
    · simp [hv]
    · simp [hv, h i hv]

theorem and_mask_and_not {w : Nat} (v mask : BitVec w) : v &&& mask &&& ~~~mask = 0 := by
  rw [and_not_eq_zero_iff]
  intro i h
  rw [BitVec.getLsbD_and, Bool.and_eq_true] at h
  exact h.2

theorem getLsbD_fpscrMask (i : Nat) : fpscrMask.getLsbD i = decide (i < 22) := by
  by_cases hi : i < 32
  · have h : ∀ i : Fin 32, fpscrMask.getLsbD i = decide ((i : Nat) < 22) := by decide
    exact h ⟨i, hi⟩
  · rw [BitVec.getLsbD_of_ge _ _ (by omega), decide_eq_false (by omega)]

theorem fpscr_reserved_clear_iff (v : Dword) : v &&& ~~~fpscrMask = 0 ↔ ∀ i, v.getLsbD i = true → i < 22 := by
  simp only [and_not_eq_zero_iff, getLsbD_fpscrMask, decide_eq_true_eq]

theorem fpscr_flipBit {x : Dword} {i : Nat} (hi : i < 22) (h : x &&& ~~~fpscrMask = 0) :
    flipBit32 x i &&& ~~~fpscrMask = 0 := by
  rw [fpscr_reserved_clear_iff] at h ⊢
  intro k hk
  by_contra hge
  have hx : x.getLsbD k = false := by
    cases hv : x.getLsbD k
    · rfl
    · exact absurd (h k hv) hge
  rw [flipBit32, BitVec.getLsbD_xor, hx, ← BitVec.twoPow_eq, BitVec.getLsbD_twoPow,
    decide_eq_false (by omega : ¬ i = k)] at hk
  simp at hk

theorem fpscr_packMode12 (imm : BitVec 12) : packMode12 imm &&& ~~~fpscrMask = 0 := by
  rw [fpscr_reserved_clear_iff]
  intro k hk
  by_contra hge
  have hhi : (imm.extractLsb' 2 4).getLsbD (k - 18) = false := BitVec.getLsbD_of_ge _ _ (by omega)
  have hlo : (imm.extractLsb' 0 2).getLsbD k = false := BitVec.getLsbD_of_ge _ _ (by omega)
  rw [packMode12, BitVec.getLsbD_or, BitVec.getLsbD_shiftLeft, BitVec.getLsbD_setWidth, BitVec.getLsbD_setWidth, hhi,
    hlo, Bool.and_false, Bool.and_false, Bool.and_false, Bool.or_false] at hk
  exact Bool.false_ne_true hk

theorem fpscr_packMode4 {x : Dword} (imm : BitVec 4) (h : x &&& ~~~fpscrMask = 0) :
    packMode4 x imm &&& ~~~fpscrMask = 0 := by
  rw [fpscr_reserved_clear_iff] at h ⊢
  intro k hk
  by_contra hge
  have hlo : (imm.extractLsb' 0 2).getLsbD k = false := BitVec.getLsbD_of_ge _ _ (by omega)
  rw [packMode4, getLsbD_putBit32 _ (by decide), if_neg (by omega), getLsbD_putBit32 _ (by decide), if_neg (by omega),
    BitVec.getLsbD_or, BitVec.getLsbD_setWidth, hlo, Bool.and_false, Bool.or_false, BitVec.getLsbD_and,
    Bool.and_eq_true] at hk
  exact hge (h k hk.1)

/-! ### The elementary writes -/

/-- An elementary write of an instruction, with the mode it needs; `mem` says whether memory may be written. -/
inductive State.Write (mem : Bool) (s : State) : State → Prop
  | setR (n : Reg) (v : Quad) (h : s.hasRh = true) : State.Write mem s (s.setR n v)
  | setLow (n : Reg) (v : Dword) : State.Write mem s (s.setHalf false n v)
  | setSrBit (i : Nat) (b : Bool) (h : i ∈ [0, 1, 8, 9] ∨ i ∈ [12, 31] ∧ s.is64 = true) :
      State.Write mem s (s.setSrBit i b)
  | setSys (q : Bool) (x : SysReg) (v : Quad) (hq : q = true → s.is64 = true) (hx : x = .sr → s.md = true) :
      State.Write mem s (s.setSys q x v)
  | clearMac : State.Write mem s { s with mach := 0, macl := 0 }
  | setFx (x : Bool) (i : Reg) (v : Dword) : State.Write mem s (s.setFx x i v)
  | setFpscr (v : Dword) (h : s.fpscr &&& ~~~fpscrMask = 0 → v &&& ~~~fpscrMask = 0) :
      State.Write mem s { s with fpscr := v }
  | putBytes (a : Quad) (p : Nat) (bs : List Byte) (h : mem = true) : State.Write mem s (s.putBytes a p bs)
  | draw : State.Write mem s s.draw.2
  | icbi (a : Quad) : State.Write mem s (s.icbi a)
  | sleep : State.Write mem s { s with sleeping := true }
  | advance (p l : Quad) : State.Write mem s (s.advance p l)
  | jump (a : Quad) : State.Write mem s (s.jump a)
  | delayedBranch (l a : Quad) : State.Write mem s (s.delayedBranch l a)
  | returnFromTrap (h : s.md = true) : State.Write mem s s.returnFromTrap

/-- Elementary writes, one after the other. -/
abbrev State.Writes (mem : Bool) (s t : State) : Prop := Relation.ReflTransGen (State.Write mem) s t

/-- What every elementary write keeps, a run of them keeps. -/
theorem State.Writes.keeps {mem : Bool} {P : State → Prop} (hP : ∀ t u, P t → State.Write mem t u → P u)
    {s t : State} (h : s.Writes mem t) (hs : P s) : P t := by
  induction h with
  | refl => exact hs
  | tail _ hw ih => exact hP _ _ ih hw

/-! ### The register writes -/

section
variable {mem : Bool}

/-- A write of a register at a width that the core has. -/
theorem State.writes_wr (s : State) {q : Bool} (hq : q = true → s.hasRh = true) (n : Reg) (v : Quad) :
    s.Writes mem (s.wr q n v) := by
  cases q
  · exact .single (.setLow n (lo32 v))
  · exact .single (.setR n v (hq rfl))

theorem State.hasRh_of_dq {s : State} (h : s.dq = true) : s.hasRh = true := State.hasRh_of_jq (State.jq_of_dq h)

theorem State.is64_of_jq {s : State} (h : s.jq = true) : s.is64 = true := by
  rw [State.jq, Bool.and_eq_true] at h
  exact h.1

theorem State.is64_of_dq {s : State} (h : s.dq = true) : s.is64 = true := State.is64_of_jq (State.jq_of_dq h)

theorem State.writes_wr_dq (s : State) (n : Reg) (v : Quad) : s.Writes mem (s.wr s.dq n v) :=
  s.writes_wr State.hasRh_of_dq n v

theorem State.writes_wr_jq (s : State) (n : Reg) (v : Quad) : s.Writes mem (s.wr s.jq n v) :=
  s.writes_wr State.hasRh_of_jq n v

theorem State.writes_wrA (s : State) (n : Reg) (v : Quad) : s.Writes mem (s.wrA n v) := s.writes_wr_jq n v

theorem State.writes_setR {s : State} (h : s.hasRh = true) (n : Reg) (v : Quad) : s.Writes mem (s.setR n v) :=
  .single (.setR n v h)

/-- A write of a half that the core has. -/
theorem State.writes_setHalf (s : State) {x : Bool} (hx : x = true → s.hasRh = true) (n : Reg) (v : Dword) :
    s.Writes mem (s.setHalf x n v) := by
  cases x
  · exact .single (.setLow n v)
  · exact .single (.setR n _ (hx rfl))

theorem State.writes_setLow (s : State) (n : Reg) (v : Dword) : s.Writes mem (s.setHalf false n v) :=
  .single (.setLow n v)

theorem State.writes_setT (s : State) (b : Bool) : s.Writes mem (s.setT b) :=
  .single (.setSrBit 0 b (.inl (by decide)))

theorem State.writes_setSys (s : State) {q : Bool} {x : SysReg} (hq : q = true → s.is64 = true)
    (hx : x = .sr → s.md = true) (v : Quad) : s.Writes mem (s.setSys q x v) :=
  .single (.setSys q x v hq hx)

/-- A load write: at 64 bits only where the core has them. -/
theorem State.writes_wrLoad (s : State) (n : Reg) {bits : Nat} (hb : bits ≠ 64 ∨ s.hasRh = true) (e : Ext) (v : Quad) :
    s.Writes mem (s.wrLoad n bits e v) := by
  refine s.writes_wr (fun h => ?_) n _
  rcases (Bool.or_eq_true _ _).mp h with h | h
  · exact State.hasRh_of_dq h
  · exact hb.resolve_left (by simpa using h)

/-- A no-suffix result: whatever NOSUFFIX_HI says, the upper half is written only at DQ = 1. -/
theorem State.writes_wrNoSuffix (s : State) (n : Reg) (e : NatExt) (v : Dword) : s.Writes mem (s.wrNoSuffix n e v) := by
  have hdraw : s.dq = true → s.Writes mem (s.draw.2.setR n (hi32 s.draw.1 ++ v)) := fun h =>
    .tail (.single .draw) (.setR n _ (State.hasRh_of_dq h))
  unfold State.wrNoSuffix
  split
  next hd =>
    have hr := State.hasRh_of_dq hd
    split
    · exact s.writes_setLow n v
    · exact State.writes_setR hr n _
    · exact State.writes_setR hr n _
    · exact hdraw hd
    · exact hdraw hd
  next => exact s.writes_setLow n v

/-! ### Results -/

/-- Whatever `r` computes without a stop is made of elementary writes. -/
def State.Computes (mem : Bool) (s : State) (r : Res State) : Prop := ∀ u, r = .ok u → s.Writes mem u

theorem State.computes_ok {s u : State} (h : s.Writes mem u) : s.Computes mem (.ok u) := by
  rintro _ ⟨⟩
  exact h

theorem State.computes_error (s : State) (e : Stop) : s.Computes mem (.error e) := fun _ h => absurd h (by simp)

theorem State.computes_require {s : State} {b : Bool} {r : Res State} (h : b = true → s.Computes mem r) :
    s.Computes mem (require b r) := by
  cases b
  · exact s.computes_error _
  · exact h rfl

theorem State.computes_priv {s : State} {r : Res State} (h : s.md = true → s.Computes mem r) :
    s.Computes mem (s.priv r) := State.computes_require h

theorem State.computes_needRh {s : State} {r : Res State} (h : s.hasRh = true → s.Computes mem r) :
    s.Computes mem (s.needRh r) := State.computes_require h

theorem State.computes_needJq {s : State} {r : Res State} (h : s.jq = true → s.Computes mem r) :
    s.Computes mem (s.needJq r) := State.computes_require h

theorem State.computes_needNotJq {s : State} {r : Res State} (h : s.Computes mem r) :
    s.Computes mem (s.needNotJq r) := by
  unfold State.needNotJq
  split
  · exact s.computes_error _
  · exact h

theorem State.computes_fpu {s : State} {r : Res State} (h : s.Computes mem r) : s.Computes mem (s.fpu r) := by
  unfold State.fpu
  split
  · exact s.computes_error _
  · split
    · exact s.computes_error _
    · exact h

theorem State.computes_map {α : Type} {s : State} {x : Res α} {f : α → State} (h : ∀ v, x = .ok v → s.Writes mem (f v)) :
    s.Computes mem (x.map f) := by
  cases x with
  | error e => exact s.computes_error e
  | ok v => exact State.computes_ok (h v rfl)

/-- What a load does with the value read. -/
theorem State.computes_load {s : State} {a : Quad} {n : Nat} {f : Quad → State} (h : ∀ v, s.Writes mem (f v)) :
    s.Computes mem ((s.load a n).map f) := State.computes_map fun v _ => h v

theorem State.computes_loadU {s : State} {a : Quad} {n : Nat} {f : Quad → State} (h : ∀ v, s.Writes mem (f v)) :
    s.Computes mem ((s.loadU a n).map f) := State.computes_map fun v _ => h v

/-- A store writes memory. -/
theorem State.computes_store (hm : mem = true) (s : State) (a : Quad) (n : Nat) (v : Quad) :
    s.Computes mem (s.store a n v) :=
  State.computes_map fun p _ => .single (.putBytes a p _ hm)

theorem State.computes_storeU (hm : mem = true) (s : State) (a : Quad) (n : Nat) (v : Quad) :
    s.Computes mem (s.storeU a n v) :=
  State.computes_map fun p _ => .single (.putBytes a p _ hm)

/-- More writes after a computation. -/
theorem State.Computes.then {s : State} {r : Res State} (h : s.Computes mem r) {f : State → State}
    (hf : ∀ t : State, t.Writes mem (f t)) : s.Computes mem (r.map f) :=
  State.computes_map fun t ht => (h t ht).trans (hf t)

/-! ### The shared computations -/

theorem State.writes_binOp (s : State) (f : (w : Nat) → BitVec w → BitVec w → BitVec w) (n : Reg) (a b : Quad) :
    s.Writes mem (s.binOp f n a b) := s.writes_wr_dq n _

theorem State.writes_unOp (s : State) (f : (w : Nat) → BitVec w → BitVec w) (n : Reg) :
    s.Writes mem (s.unOp f n) := s.writes_wr_dq n _

theorem State.writes_binTOp (s : State) (f : (w : Nat) → BitVec w → BitVec w → Bool → BitVec w × Bool) (n : Reg)
    (a b : Quad) : s.Writes mem (s.binTOp f n a b) := (s.writes_wr_dq n _).trans (State.writes_setT _ _)

theorem State.writes_unTOp (s : State) (f : (w : Nat) → BitVec w → Bool → BitVec w × Bool) (n : Reg) :
    s.Writes mem (s.unTOp f n) := (s.writes_wr_dq n _).trans (State.writes_setT _ _)

theorem State.writes_cmpOp (s : State) (f : (w : Nat) → BitVec w → BitVec w → Bool) (a b : Quad) :
    s.Writes mem (s.cmpOp f a b) := s.writes_setT _

theorem State.writes_fpul (s : State) (v : Dword) : s.Writes mem { s with fpul := v } := by
  have h := s.writes_setSys (mem := mem) (q := false) (x := .fpul) nofun nofun (zx32 v)
  rwa [State.setSys, lo32_zx32] at h

theorem State.writes_setMac32 (s : State) (p : Quad) : s.Writes mem (s.setMac32 p) := by
  have h := (s.writes_setSys (mem := mem) (q := false) (x := .mach) nofun nofun (zx32 (hi32 p))).trans
    (State.writes_setSys _ (q := false) (x := .macl) nofun nofun p)
  rwa [State.setSys, State.setSys, merge_false, merge_false, lo32_zx32] at h

theorem State.writes_setMac128 {s : State} (h : s.is64 = true) (p : BitVec 128) : s.Writes mem (s.setMac128 p) :=
  (s.writes_setSys (q := true) (x := .mach) (fun _ => h) nofun (p.extractLsb' 64 64)).trans
    ((s.setSys true .mach (p.extractLsb' 64 64)).writes_setSys (q := true) (x := .macl) (fun _ => h) nofun
      (p.setWidth 64))

theorem State.writes_mulu (s : State) (a b : Quad) : s.Writes mem (s.mulu a b) := by
  unfold State.mulu
  split
  next h => exact State.writes_setMac128 (State.is64_of_dq h) _
  next => exact s.writes_setSys (q := false) (x := .macl) nofun nofun _

theorem State.writes_muls (s : State) (a b : Quad) : s.Writes mem (s.muls a b) := by
  unfold State.muls
  split
  next h => exact State.writes_setMac128 (State.is64_of_dq h) _
  next => exact s.writes_setSys (q := false) (x := .macl) nofun nofun _

/-- A flag of SR that every core has. -/
theorem State.writes_setSrBit (s : State) {i : Nat} (hi : i ∈ [0, 1, 8, 9]) (b : Bool) : s.Writes mem (s.setSrBit i b) :=
  .single (.setSrBit i b (.inl hi))

theorem State.writes_div0 (s : State) (q m : Bool) : s.Writes mem (s.div0 q m) :=
  ((s.writes_setSrBit (by decide) q).trans (State.writes_setSrBit _ (by decide) m)).trans (State.writes_setT _ _)

theorem State.writes_div1 (s : State) (n m : Reg) : s.Writes mem (s.div1 n m) :=
  ((s.writes_wrNoSuffix n _ _).trans (State.writes_setSrBit _ (by decide) _)).trans (State.writes_setT _ _)

theorem State.computes_macL (s : State) (n m : Reg) : s.Computes mem (s.macL n m) := by
  unfold State.macL
  split
  · exact s.computes_error _
  · dsimp only
    split
    · exact s.computes_error _
    · exact State.computes_ok
        (((s.writes_wrA n _).trans (State.writes_wrA _ m _)).trans (State.writes_setMac32 _ _))

theorem State.computes_macW (s : State) (n m : Reg) : s.Computes mem (s.macW n m) := by
  unfold State.macW
  split
  · exact s.computes_error _
  · split
    · exact s.computes_error _
    · dsimp only
      split
      · exact s.computes_error _
      · exact State.computes_ok
          (((s.writes_wrA n _).trans (State.writes_wrA _ m _)).trans (State.writes_setMac32 _ _))

/-! ### Loads and stores -/

/-- A load of eight bytes needs a core with whole quads. -/
theorem State.computes_loadReg (s : State) (d : Reg) {n : Nat} (hn : 8 * n ≠ 64 ∨ s.hasRh = true) (e : Ext) (ea : Quad) :
    s.Computes mem (s.loadReg d n e ea) := State.computes_load fun _ => s.writes_wrLoad d hn e _

theorem State.computes_loadRegInc (s : State) (d m : Reg) {n : Nat} (hn : 8 * n ≠ 64 ∨ s.hasRh = true) (e : Ext) :
    s.Computes mem (s.loadRegInc d m n e) :=
  State.computes_load fun _ => (s.writes_wrA m _).trans (State.writes_wrLoad _ d (by simpa using hn) e _)

theorem State.computes_loadRegDec (s : State) (d m : Reg) {n : Nat} (hn : 8 * n ≠ 64 ∨ s.hasRh = true) (e : Ext) :
    s.Computes mem (s.loadRegDec d m n e) :=
  State.computes_load fun _ => (s.writes_wrA m _).trans (State.writes_wrLoad _ d (by simpa using hn) e _)

/-- A `.W/Q` access is of eight bytes only where DQ = 1. -/
theorem State.wq_narrow (s : State) : 8 * s.wq ≠ 64 ∨ s.hasRh = true := by
  unfold State.wq
  split
  next hd => exact .inr (State.hasRh_of_dq hd)
  next => exact .inl (by decide)

theorem State.wqDisp_narrow (s : State) (disp : BitVec 4) : 8 * s.wqDisp disp ≠ 64 ∨ s.hasRh = true := by
  unfold State.wqDisp
  split
  next hd => exact .inr (State.hasRh_of_dq ((Bool.and_eq_true _ _).mp hd).1)
  next => exact .inl (by decide)

theorem State.computes_storeDec (hm : mem = true) (s : State) (a : Reg) (n : Nat) (v : Quad) :
    s.Computes mem (s.storeDec a n v) := (s.computes_store hm _ n v).then fun t => t.writes_wrA a _

theorem State.computes_storeInc (hm : mem = true) (s : State) (a : Reg) (n : Nat) (v : Quad) :
    s.Computes mem (s.storeInc a n v) := (s.computes_store hm _ n v).then fun t => t.writes_wrA a _

theorem State.computes_pop (s : State) (n : Reg) : s.Computes mem (s.pop n) :=
  State.computes_load fun _ => (s.writes_wrA 15 _).trans (State.writes_wr _ (by simpa using State.hasRh_of_jq) n _)

theorem State.computes_modifyByte (hm : mem = true) (s : State) (ea : Quad) (f : Byte → Byte) :
    s.Computes mem (s.modifyByte ea f) := by
  unfold State.modifyByte
  split
  · exact s.computes_store hm _ _ _
  · exact s.computes_error _

theorem State.computes_bothChecked {s : State} {r : Res State} (h : s.Computes mem r) (ea : Quad) (n : Nat) :
    s.Computes mem (s.bothChecked ea n r) := by
  unfold State.bothChecked
  split
  · exact s.computes_error _
  · exact s.computes_error _
  · exact h

theorem State.computes_tas (hm : mem = true) (s : State) (ea : Quad) : s.Computes mem (s.tas ea) := by
  refine State.computes_bothChecked ?_ ea 1
  split
  · exact s.computes_error _
  · exact (s.computes_store hm _ _ _).then fun t => t.writes_setT _

theorem State.computes_cas (hm : mem = true) (s : State) (ea : Quad) (n m : Reg) : s.Computes mem (s.cas ea n m) := by
  have hl : ∀ (t : State) (b : Bool) (v : Quad), t.Writes mem ((t.setT b).wrLoad n 32 .sign v) := fun t b v =>
    (t.writes_setT b).trans (State.writes_wrLoad _ n (.inl (by decide)) _ v)
  refine State.computes_bothChecked ?_ ea 4
  split
  · exact s.computes_error _
  · split
    · exact (s.computes_store hm _ _ _).then fun t => hl t true _
    · exact State.computes_ok (hl s false _)

/-! ### System registers -/

/-- What `sysCheck` asks of SR, it has checked. -/
theorem State.computes_sysCheck {s : State} {x : SysReg} {r : Res State} (h : (x = .sr → s.md = true) → s.Computes mem r) :
    s.Computes mem (s.sysCheck x r) := by
  cases x
  case sr => exact State.computes_priv fun hm => h fun _ => hm
  case fpul => exact State.computes_fpu (h nofun)
  case fpscr => exact State.computes_fpu (h nofun)
  case gbr | mach | macl | pr => exact h nofun
  all_goals exact State.computes_priv fun _ => h nofun

theorem State.computes_sysToReg (s : State) (x : SysReg) (n : Reg) : s.Computes mem (s.sysToReg x n) :=
  State.computes_sysCheck fun _ => State.computes_ok (s.writes_wr_dq n _)

theorem State.computes_regToSys (s : State) (x : SysReg) (m : Reg) : s.Computes mem (s.regToSys x m) :=
  State.computes_sysCheck fun hx => State.computes_ok (s.writes_setSys State.is64_of_dq hx _)

theorem State.computes_sysToMem (hm : mem = true) (s : State) (x : SysReg) (n : Reg) : s.Computes mem (s.sysToMem x n) :=
  State.computes_sysCheck fun _ => s.computes_storeDec hm n _ _

theorem State.computes_memToSys (s : State) (x : SysReg) (m : Reg) : s.Computes mem (s.memToSys x m) :=
  State.computes_sysCheck fun hx => State.computes_load fun _ =>
    (s.writes_wrA m _).trans (State.writes_setSys _ (by simpa using State.is64_of_jq) (by simpa using hx) _)

theorem State.computes_modeOp {s u : State} (h : s.is64 = true → s.Writes mem u) : s.Computes mem (s.modeOp u) := by
  unfold State.modeOp
  split
  next h64 =>
    split
    · exact State.computes_priv fun _ => State.computes_ok (h h64)
    · exact State.computes_ok (h h64)
  next => exact s.computes_error _

/-- JQ and DQ, on a core that has them. -/
theorem State.writes_modeBit {s : State} (h : s.is64 = true) {i : Nat} (hi : i ∈ [12, 31]) (b : Bool) :
    s.Writes mem (s.setSrBit i b) := .single (.setSrBit i b (.inr ⟨hi, h⟩))

/-! ### FPU registers -/

theorem State.writes_setFx (s : State) (x : Bool) (i : Reg) (v : Dword) : s.Writes mem (s.setFx x i v) :=
  .single (.setFx x i v)

theorem State.writes_setPair (s : State) (b : Bool) (n : Reg) (v : Quad) : s.Writes mem (s.setPair b n v) :=
  (s.writes_setFx _ _ _).trans (State.writes_setFx _ _ _ _)

theorem State.writes_setFpReg (s : State) (d b : Bool) (n : Reg) (v : Quad) : s.Writes mem (s.setFpReg d b n v) := by
  unfold State.setFpReg
  split
  · exact s.writes_setPair b n v
  · exact s.writes_setFx b n _

theorem State.writes_setOpd (s : State) (n : Reg) (v : Quad) : s.Writes mem (s.setOpd n v) := s.writes_setFpReg _ _ n v

theorem State.writes_fpSign (s : State) (n : Reg) (f : Dword → Dword) : s.Writes mem (s.fpSign n f) := by
  unfold State.fpSign
  split <;> exact s.writes_setFx _ _ _

theorem State.computes_fpLoad (s : State) (k : Xfer) (b : Bool) (n : Reg) (ea : Quad) :
    s.Computes mem (s.fpLoad k b n ea) :=
  State.computes_load fun v => by
    cases k
    · exact s.writes_setFx b n _
    · exact s.writes_setPair b n _
    · exact s.writes_setPair b n _

theorem State.computes_fpStore (hm : mem = true) (s : State) (k : Xfer) (b : Bool) (n : Reg) (ea : Quad) :
    s.Computes mem (s.fpStore k b n ea) := by
  cases k <;> exact s.computes_store hm _ _ _

theorem State.computes_fpLoadInc (s : State) (k : Xfer) (b : Bool) (n m : Reg) :
    s.Computes mem (s.fpLoadInc k b n m) := (s.computes_fpLoad k b n _).then fun t => t.writes_wrA m _

theorem State.computes_fpStoreDec (hm : mem = true) (s : State) (k : Xfer) (b : Bool) (m n : Reg) :
    s.Computes mem (s.fpStoreDec k b m n) := (s.computes_fpStore hm k b m _).then fun t => t.writes_wrA n _

theorem State.computes_vvForm {s : State} {v : BitVec 4} {b : Bool} {f : Xfer → Res State}
    (h : ∀ k, s.Computes mem (f k)) : s.Computes mem (s.vvForm v b f) := by
  unfold State.vvForm
  split
  · exact State.computes_require fun _ => State.computes_fpu (h _)
  · exact s.computes_error _

theorem State.computes_vvMove (s : State) (w : BitVec 4) (x y : Bool) (n m : Reg) :
    s.Computes mem (s.vvMove w x y n m) := by
  have hok : ∀ {u : State}, s.Writes mem u → s.Computes mem (s.fpu (.ok u)) := fun h =>
    State.computes_fpu (State.computes_ok h)
  unfold State.vvMove
  split
  · exact hok (s.writes_setFx x n _)
  · exact State.computes_require fun _ => hok (s.writes_setFx x n _)
  · exact hok (s.writes_setPair x n _)
  · exact State.computes_require fun _ => hok (s.writes_setPair x n _)
  · exact State.computes_require fun h => hok (s.writes_setHalf (fun hx => by simpa [hx] using h) n _)
  · exact State.computes_require fun h => hok (State.writes_setR ((Bool.and_eq_true _ _).mp h).2 n _)
  · exact State.computes_require fun h => hok (s.writes_setHalf (fun hx => by simpa [hx] using h) n _)
  · exact State.computes_require fun h => hok (State.writes_setR ((Bool.and_eq_true _ _).mp h).2 n _)
  · exact s.computes_error _

theorem State.computes_fpArith (s : State) (op : FpOp) (n m : Reg) : s.Computes mem (s.fpArith op n m) :=
  State.computes_fpu (State.computes_ok (s.writes_setOpd n _))

theorem State.computes_fpArith3 (s : State) (op : FpOp) (q nx sx tx : Bool) (n a b : Reg) :
    s.Computes mem (s.fpArith3 op q nx sx tx n a b) :=
  State.computes_fpu (State.computes_ok (s.writes_setFpReg q nx n _))

/-- FPSCR keeps its reserved bits clear. -/
theorem State.writes_setFpscr (s : State) {v : Dword} (h : s.fpscr &&& ~~~fpscrMask = 0 → v &&& ~~~fpscrMask = 0) :
    s.Writes mem { s with fpscr := v } := .single (.setFpscr v h)

/-! ### OPREX and TACB operands -/

/-- Where the operands are legal: quads, or halves that the core has (rule R861). -/
theorem State.writes_setOpx (s : State) {q x : Bool} (hq : q = true → s.hasRh = true) (hx : x = true → s.hasRh = true)
    (n : Reg) (v : Quad) : s.Writes mem (s.setOpx q x n v) := by
  cases q
  · exact s.writes_setHalf hx n _
  · exact State.writes_setR (hq rfl) n v

/-- What the checks of an OPREX register row leave: a quad where JQ = 1, a high half where the core has one. -/
theorem State.computes_oprexCheck {s : State} {q nx mx bx : Bool} {r : Res State}
    (h : (q = true → s.hasRh = true) → (nx = true → s.hasRh = true) → s.Computes mem r) :
    s.Computes mem (s.oprexCheck q nx mx bx r) := by
  refine State.computes_require fun hc => h (fun hq => State.hasRh_of_jq ?_) fun hn => ?_
  · simp only [hq, Bool.and_eq_true] at hc
    simpa using hc.1.1.1
  · simp only [hn, Bool.and_eq_true] at hc
    simpa using hc.1.2

/-- The same for the data register of an OPREX load or store. -/
theorem State.computes_oprexMemCheck {s : State} {q ax dx : Bool} {r : Res State}
    (h : (q = true → s.hasRh = true) → (dx = true → s.hasRh = true) → s.Computes mem r) :
    s.Computes mem (s.oprexMemCheck q ax dx r) := by
  refine State.computes_require fun hc => h (fun hq => State.hasRh_of_jq ?_) fun hn => ?_
  · simp only [hq, Bool.and_eq_true] at hc
    simpa using hc.1.1.1
  · simp only [hn, Bool.and_eq_true] at hc
    simpa using hc.1.2

theorem State.computes_oprexStoreCheck {s : State} {q ax dx bx : Bool} {r : Res State} (h : s.Computes mem r) :
    s.Computes mem (s.oprexStoreCheck q ax dx bx r) :=
  State.computes_oprexMemCheck fun _ _ => State.computes_require fun _ => h

theorem State.computes_oprexLoadCheck {s : State} {q ax dx bx : Bool} {r : Res State}
    (h : (q = true → s.hasRh = true) → (dx = true → s.hasRh = true) → s.Computes mem r) :
    s.Computes mem (s.oprexLoadCheck q ax dx bx r) :=
  State.computes_oprexMemCheck fun hq hd => State.computes_require fun _ => h hq hd

/-- A register row of OPREX that writes its destination. -/
theorem State.computes_oprexRow (s : State) (q nx mx bx : Bool) (n : Reg) (v : Quad) :
    s.Computes mem (s.oprexCheck q nx mx bx (.ok (s.setOpx q nx n v))) :=
  State.computes_oprexCheck fun hq hn => State.computes_ok (s.writes_setOpx hq hn n v)

/-- One that writes T as well. -/
theorem State.computes_oprexTRow (s : State) (q nx mx bx : Bool) (n : Reg)
    (f : (w : Nat) → BitVec w → BitVec w → Bool → BitVec w × Bool) (a b : Quad) :
    s.Computes mem (s.oprexCheck q nx mx bx (.ok (s.oprexTOp q nx n f a b))) :=
  State.computes_oprexCheck fun hq hn =>
    State.computes_ok ((s.writes_setOpx hq hn n _).trans (State.writes_setT _ _))

theorem State.computes_tacbCheck {s : State} {nx sx tx : Bool} {r : Res State}
    (h : (nx = true → s.hasRh = true) → s.Computes mem r) : s.Computes mem (s.tacbCheck nx sx tx r) :=
  State.computes_require fun hc => h fun hn => by simpa [hn] using hc

theorem State.writes_tacbShift (s : State) {q nx : Bool} (hq : q = true → s.hasRh = true)
    (hx : nx = true → s.hasRh = true) (sx tx : Bool) (n rs rt : Reg) (f : (w : Nat) → BitVec w → BitVec w → BitVec w) :
    s.Writes mem (s.tacbShift q nx sx tx n rs rt f) := by
  unfold State.tacbShift
  dsimp only
  split
  · exact .trans (.single .draw) (s.draw.2.writes_setOpx hq hx n _)
  · exact s.writes_setOpx hq hx n _

/-! ### Branches -/

theorem State.writes_link (s : State) (v : Quad) : s.Writes mem (s.link v) :=
  s.writes_setSys (x := .pr) State.is64_of_jq nofun v

theorem State.writes_branchIf (s : State) (c : Bool) (len t : Quad) : s.Writes mem (s.branchIf c len t) := by
  unfold State.branchIf
  split
  · exact .single (.jump t)
  · exact .single (.advance _ _)

theorem State.writes_delayedIf (s : State) (c : Bool) (len t : Quad) : s.Writes mem (s.delayedIf c len t) := by
  unfold State.delayedIf
  split
  · exact .single (.delayedBranch len t)
  · exact .single (.advance _ _)

/-! ### How an instruction ends -/

/-- `o` settles, for an instruction whose first word is `w`, a result made of elementary writes. -/
def State.Lawful (mem : Bool) (w : IWord) (s : State) (o : Host.Outcome State Fault Refusal) : Prop :=
  ∃ r, o = settle w s r ∧ s.Computes mem r

variable {w : IWord} {s : State} {r : Res State}

theorem State.lawful_short (h : s.Computes mem r) : s.Lawful mem w (short w s r) :=
  ⟨_, rfl, h.then fun _ => .single (.advance _ _)⟩

theorem State.lawful_noSlot (h : s.Computes mem r) : s.Lawful mem w (noSlot w s r) := by
  refine ⟨_, rfl, ?_⟩
  split
  · exact s.computes_error _
  · exact h

theorem State.lawful_shortNoSlot (h : s.Computes mem r) : s.Lawful mem w (shortNoSlot w s r) :=
  State.lawful_noSlot (h.then fun _ => .single (.advance _ _))

theorem State.lawful_wide (h : s.Computes mem r) : s.Lawful mem w (wide w s r) :=
  State.lawful_noSlot (h.then fun _ => .single (.advance _ _))

theorem State.lawful_veryWide (h : s.Computes mem r) : s.Lawful mem w (veryWide w s r) :=
  State.lawful_noSlot (h.then fun _ => .single (.advance _ _))

theorem State.lawful_reserved : s.Lawful mem w (reserved w s) := ⟨_, rfl, s.computes_error _⟩

end

/-! ### Every instruction -/

section
open State

/-- Every instruction settles a result made of elementary writes, each in a mode that allows it; memory is written by a
storing instruction alone. The rows are grouped by what they compute. -/
theorem exec_lawful (i : Instr) (s : State) : s.Lawful i.stores (firstWord i) (exec i s) := by
  cases i with
  | movWQAtPcDispRn n disp =>
    rw [exec_movWQAtPcDispRn_loadReg]
    exact lawful_shortNoSlot (s.computes_loadReg _ s.wq_narrow _ _)
  | movRmRn | movImmRn => exact lawful_short (computes_ok (s.writes_wr_dq _ _))
  | movBRmAtRn | movWQRmAtRn | movLRmAtRn | movBRmAtR0Rn | movWQRmAtR0Rn | movLRmAtR0Rn | movLRmAtRnDisp
  | movBR0AtRnDisp | movWQR0AtRnDisp | movcaLR0AtRn => exact lawful_short (s.computes_store rfl _ _ _)
  | movBAtRmRn | movLAtRmRn | movBAtR0RmRn | movLAtR0RmRn | movLAtRmDispRn | movBAtRmDispR0 =>
    exact lawful_short (s.computes_loadReg _ (.inl (by decide)) _ _)
  | movWQAtRmRn | movWQAtR0RmRn => exact lawful_short (s.computes_loadReg _ s.wq_narrow _ _)
  | movBRmAtDecRn | movWQRmAtDecRn | movLRmAtDecRn | pushLQRm => exact lawful_short (s.computes_storeDec rfl _ _ _)
  | movBAtRmIncRn | movLAtRmIncRn => exact lawful_short (s.computes_loadRegInc _ _ (.inl (by decide)) _)
  | movWQAtRmIncRn => exact lawful_short (s.computes_loadRegInc _ _ s.wq_narrow _)
  | movWQAtRmDispR0 => exact lawful_short (s.computes_loadReg _ (s.wqDisp_narrow _) _ _)
  | movLAtPcDispRn => exact lawful_shortNoSlot (s.computes_loadReg _ (.inl (by decide)) _ _)
  | movaAtPcDispR0 => exact lawful_shortNoSlot (computes_ok (s.writes_wrA _ _))
  | movBR0AtGbrDisp | movWQR0AtGbrDisp | movLR0AtGbrDisp =>
    exact lawful_short (computes_needNotJq (s.computes_store rfl _ _ _))
  | movBAtGbrDispR0 | movWQAtGbrDispR0 | movLAtGbrDispR0 =>
    exact lawful_short (computes_needNotJq (s.computes_loadReg _ (.inl (by decide)) _ _))
  | movBR0AtRnInc | movWQR0AtRnInc | movLR0AtRnInc => exact lawful_short (s.computes_storeInc rfl _ _ _)
  | movBAtDecRmR0 | movLAtDecRmR0 => exact lawful_short (s.computes_loadRegDec _ _ (.inl (by decide)) _)
  | movWQAtDecRmR0 => exact lawful_short (s.computes_loadRegDec _ _ s.wq_narrow _)
  | popLQRn => exact lawful_short (s.computes_pop _)
  | movQWAtR0Rn => exact lawful_short (computes_needJq fun hj => s.computes_loadReg _ (.inr (hasRh_of_jq hj)) _ _)
  | movQWRmAtR0 => exact lawful_short (computes_needJq fun _ => s.computes_store rfl _ _ _)
  | movuaLAtRmR0 => exact lawful_short (computes_loadU fun _ => s.writes_wrLoad _ (.inl (by decide)) _ _)
  | movuaLAtRmIncR0 =>
    exact lawful_short (computes_loadU fun _ => (s.writes_wrA _ _).trans (writes_wrLoad _ _ (.inl (by decide)) _ _))
  | movuaLR0AtRm => exact lawful_short (s.computes_storeU rfl _ _ _)
  | movuaLR0AtDecRm => exact lawful_short ((s.computes_storeU rfl _ _ _).then fun t => t.writes_wrA _ _)
  | movtRn | movrtRn | swapBRmRn | swapWRmRn | xtrctRmRn | extsBRmRn | extsWRmRn | extuBRmRn | extuWRmRn | shll4Rn
  | shlr4Rn => exact lawful_short (computes_ok (s.writes_wrNoSuffix _ _ _))
  | movLAtPcIncRn | movQAtPcIncRn | divuR0Rn | divsR0Rn | rtsn | rtvnRm | jsrnRm | resbank | synco
  | xFmovDAtPcDisp13YDn | resXpfx1 | resXpfx3 | resXpfx4 | resXpfx5 | resXpfy0 | resXpfy1 | resXpfz1 | resXpfv0
  | res3xx9 | res8C1x | res8C2x | res8C4x | res8C5x | res8C6x | res8C7x | res8C8x | resTacb9 | resTacbA | resTacbB =>
    exact lawful_reserved
  | addRmRn | addImmRn | subRmRn | negRmRn | andRmRn | andImmR0 | orRmRn | orImmR0 | xorRmRn | xorImmR0 | notRmRn
  | shadRmRn | shldRmRn => exact lawful_short (computes_ok (s.writes_binOp _ _ _ _))
  | addcRmRn | addvRmRn | subcRmRn | subvRmRn | negcRmRn => exact lawful_short (computes_ok (s.writes_binTOp _ _ _ _))
  | cmpeqRmRn | cmphsRmRn | cmpgeRmRn | cmphiRmRn | cmpgtRmRn | cmppzRn | cmpplRn | cmpeqImmR0 | tstRmRn | tstImmR0 =>
    exact lawful_short (computes_ok (s.writes_cmpOp _ _ _))
  | cmpstrRmRn | clrt | sett | nott => exact lawful_short (computes_ok (s.writes_setT _))
  | dtRn | shllRn | shalRn | shlrRn | sharRn | rotlRn | rotrRn | rotclRn | rotcrRn =>
    exact lawful_short (computes_ok (s.writes_unTOp _ _))
  | mulLRmRn => exact lawful_short (computes_ok (s.writes_setSys (q := false) (x := .macl) nofun nofun _))
  | muluWQRmRn => exact lawful_short (computes_ok (s.writes_mulu _ _))
  | mulsWQRmRn => exact lawful_short (computes_ok (s.writes_muls _ _))
  | dmuluLRmRn | dmulsLRmRn => exact lawful_short (computes_ok (s.writes_setMac32 _))
  | div0sRmRn | div0u => exact lawful_short (computes_ok (s.writes_div0 _ _))
  | div1RmRn => exact lawful_short (computes_ok (s.writes_div1 _ _))
  | macLAtRmIncAtRnInc => exact lawful_short (s.computes_macL _ _)
  | macWQAtRmIncAtRnInc => exact lawful_short (s.computes_macW _ _)
  | andBImmAtGbrR0 | orBImmAtGbrR0 | xorBImmAtGbrR0 =>
    exact lawful_short (computes_needNotJq (s.computes_modifyByte rfl _ _))
  | tasBAtRn => exact lawful_short (s.computes_tas rfl _)
  | shll2Rn | shll8Rn | shll16Rn | shlr2Rn | shlr8Rn | shlr16Rn =>
    exact lawful_short (computes_ok (s.writes_unOp _ _))
  | shll32Rn | shlr32Rn | rot32Rn | extsLRn =>
    exact lawful_short (computes_needRh fun hr => computes_ok (writes_setR hr _ _))
  | movhiR0RHn | extuLRn =>
    exact lawful_short (computes_needRh fun hr => computes_ok (s.writes_setHalf (fun _ => hr) _ _))
  | movhiRHmR0 => exact lawful_short (computes_needRh fun hr => computes_ok (s.writes_setLow _ _))
  | bt | bf | xBtDisp16 | xBfDisp16 => exact lawful_noSlot (computes_ok (s.writes_branchIf _ _ _))
  | bts | bfs | xBtsDisp16 | xBfsDisp16 => exact lawful_noSlot (computes_ok (s.writes_delayedIf _ _ _))
  | bra | brafRm | jmpAtRm | rts | xBraDisp20 => exact lawful_noSlot (computes_ok (.single (.delayedBranch _ _)))
  | bsr | bsrfRm | jsrAtRm | xBsrDisp20 =>
    exact lawful_noSlot (computes_ok ((s.writes_link _).tail (.delayedBranch _ _)))
  | stcSrRn | stcVbrRn | stcSsrRn | stcSpcRn | stcRmBRn | stcSgrRn | stcDbrRn | stsFpulRn
  | stsFpscrRn => exact lawful_short (s.computes_sysToReg _ _)
  | stcGbrRn => exact lawful_short (s.computes_sysToReg .gbr _)
  | stsMachRn => exact lawful_short (s.computes_sysToReg .mach _)
  | stsMaclRn => exact lawful_short (s.computes_sysToReg .macl _)
  | stsPrRn => exact lawful_short (s.computes_sysToReg .pr _)
  | ldcRmSr | ldcRmVbr | ldcRmSsr | ldcRmSpc | ldcRmRnB | ldcRmSgr | ldcRmDbr | ldsRmFpul
  | ldsRmFpscr => exact lawful_short (s.computes_regToSys _ _)
  | ldcRmGbr => exact lawful_short (s.computes_regToSys .gbr _)
  | ldsRmMach => exact lawful_short (s.computes_regToSys .mach _)
  | ldsRmMacl => exact lawful_short (s.computes_regToSys .macl _)
  | ldsRmPr => exact lawful_short (s.computes_regToSys .pr _)
  | iclrmdDQ | iclrmdJQ | isetmdDQ | isetmdJQ =>
    exact lawful_short (computes_modeOp fun h => writes_modeBit h (by decide) _)
  | iclrmdJDQ | isetmdJDQ =>
    exact lawful_short (computes_modeOp fun h =>
      (writes_modeBit h (i := 31) (by decide) _).tail (.setSrBit 12 _ (.inr ⟨by decide, h⟩)))
  | clrs | sets => exact lawful_short (computes_ok (s.writes_setSrBit (by decide) _))
  | clrmac => exact lawful_short (computes_ok (.single .clearMac))
  | nop | prefAtRn => exact lawful_short (computes_ok (.refl))
  | trapaImm | brk => exact lawful_noSlot (s.computes_error _)
  | rte => exact lawful_noSlot (computes_priv fun hm => computes_ok (.single (.returnFromTrap hm)))
  | sleep => exact lawful_shortNoSlot (computes_priv fun _ => computes_ok (.single .sleep))
  | ldtlb => exact lawful_short (computes_priv fun _ => computes_ok (.refl))
  | icbiAtRn => exact lawful_short (computes_ok (.single (.icbi _)))
  | casLRmRnAtR0 => exact lawful_short (s.computes_cas rfl _ _ _)
  | stcLQSgrAtDecRn | stsLQFpulAtDecRn | stsLQFpscrAtDecRn | stcLQDbrAtDecRn | stcLQSrAtDecRn
  | stcLQVbrAtDecRn | stcLQSsrAtDecRn | stcLQSpcAtDecRn | stcLQRmBAtDecRn => exact lawful_short (s.computes_sysToMem rfl _ _)
  | stsLQMachAtDecRn => exact lawful_short (s.computes_sysToMem rfl .mach _)
  | stsLQMaclAtDecRn => exact lawful_short (s.computes_sysToMem rfl .macl _)
  | stsLQPrAtDecRn => exact lawful_short (s.computes_sysToMem rfl .pr _)
  | stcLQGbrAtDecRn => exact lawful_short (s.computes_sysToMem rfl .gbr _)
  | ldcLQAtRmIncSgr | ldsLQAtRmIncFpul | ldsLQAtRmIncFpscr | ldcLQAtRmIncDbr | ldcLQAtRmIncSr
  | ldcLQAtRmIncVbr | ldcLQAtRmIncSsr | ldcLQAtRmIncSpc | ldcLQAtRmIncRnB => exact lawful_short (s.computes_memToSys _ _)
  | ldsLQAtRmIncMach => exact lawful_short (s.computes_memToSys .mach _)
  | ldsLQAtRmIncMacl => exact lawful_short (s.computes_memToSys .macl _)
  | ldsLQAtRmIncPr => exact lawful_short (s.computes_memToSys .pr _)
  | ldcLQAtRmIncGbr => exact lawful_short (s.computes_memToSys .gbr _)
  | faddFRmFRn | fsubFRmFRn | fmulFRmFRn | fdivFRmFRn => exact lawful_short (s.computes_fpArith _ _ _)
  | fcmpeqFRmFRn | fcmpgtFRmFRn => exact lawful_short (computes_fpu (computes_ok (s.writes_setT _)))
  | fmovSAtR0RmFRn | fmovSAtRmFRn => exact lawful_short (computes_fpu (s.computes_fpLoad _ _ _ _))
  | fmovSFRmAtR0Rn | fmovSFRmAtRn => exact lawful_short (computes_fpu (s.computes_fpStore rfl _ _ _ _))
  | fmovSAtRmIncFRn => exact lawful_short (computes_fpu (s.computes_fpLoadInc _ _ _ _))
  | fmovSFRmAtDecRn => exact lawful_short (computes_fpu (s.computes_fpStoreDec rfl _ _ _ _))
  | fmovFRmFRn => exact lawful_short (computes_fpu (computes_ok (s.writes_setFpReg _ _ _ _)))
  | fstsFRn | fldi0FRn | fldi1FRn => exact lawful_short (computes_fpu (computes_ok (s.writes_setFx _ _ _)))
  | fldsFRm | ftrcFRm | fcnvdsFRm => exact lawful_short (computes_fpu (computes_ok (s.writes_fpul _)))
  | floatFRn | fsqrtFRn | fmacFRmFRn => exact lawful_short (computes_fpu (computes_ok (s.writes_setOpd _ _)))
  | fnegFRn | fabsFRn => exact lawful_short (computes_fpu (computes_ok (s.writes_fpSign _ _)))
  | fcnvsdFRn => exact lawful_short (computes_fpu (computes_ok (s.writes_setPair _ _ _)))
  | psetmdImm4 => exact lawful_short (computes_fpu (computes_ok (s.writes_setFpscr fun h => fpscr_packMode4 _ h)))
  | fschg | fpchg | frchg =>
    exact lawful_short (computes_fpu (computes_ok (s.writes_setFpscr fun h => fpscr_flipBit (by decide) h)))
  | xvFmovSAtRmRoFRn | xvFmovSAtRmDisp4FRn => exact lawful_wide (computes_vvForm fun _ => s.computes_fpLoad _ _ _ _)
  | xvFmovSFRmAtRnRo | xvFmovSFRmAtRnDisp4 =>
    exact lawful_wide (computes_vvForm fun _ => s.computes_fpStore rfl _ _ _ _)
  | xvFmovSAtRmIncFRn => exact lawful_wide (computes_vvForm fun _ => s.computes_fpLoadInc _ _ _ _)
  | xvFmovSFRmAtDecRn => exact lawful_wide (computes_vvForm fun _ => s.computes_fpStoreDec rfl _ _ _ _)
  | xvFmovFRmFRn => exact lawful_wide (computes_require fun _ => s.computes_vvMove _ _ _ _ _)
  | xPsetmdImm12 =>
    exact lawful_wide (computes_require fun _ => computes_fpu (computes_ok (s.writes_setFpscr fun _ =>
      fpscr_packMode12 _)))
  | xMovBRmAtRnRoDisp4 | xMovWRmAtRnRoDisp4 | xMovLRmAtRnRoDisp4 | xMovLRmAtRnRoDisp8s | xMovBRmAtRnDisp8s
  | xMovWRmAtRnDisp8s | xMovLRmAtRnDisp8s | xMovBImmAtRn | xMovWImmAtRn | xMovLImmAtRn =>
    exact lawful_wide (s.computes_store rfl _ _ _)
  | xMovQRmAtRnRoDisp4 | xMovQRmAtRnDisp8s | xMovQImmAtRn =>
    exact lawful_wide (computes_needJq fun _ => s.computes_store rfl _ _ _)
  | xMovBAtRmRoDisp4Rn | xMovWAtRmRoDisp4Rn | xMovLAtRmRoDisp4Rn | xMovLAtRmRoDisp8sRn | xMovBAtRmDisp8sRn
  | xMovWAtRmDisp8sRn | xMovLAtRmDisp8sRn | xMovuBAtRmDisp8sRn | xMovuWAtRmDisp8sRn | xMovuLAtRmDisp8sRn
  | xMovuWAtPcDisp13Rn | xMovLAtPcDisp13Rn | xMovWAtPcDisp13Rn => exact lawful_wide (s.computes_loadReg _ (.inl (by decide)) _ _)
  | xMovQAtRmRoDisp4Rn | xMovQAtRmDisp8sRn =>
    exact lawful_wide (computes_needJq fun hj => s.computes_loadReg _ (.inr (hasRh_of_jq hj)) _ _)
  | xFmovSFRmAtRnDisp8s => exact lawful_wide (computes_fpu (s.computes_fpStore rfl _ _ _ _))
  | xFmovDDRmAtRnDisp8s | wFmovSFRmAtRnDisp =>
    exact lawful_wide (computes_require fun _ => computes_fpu (s.computes_fpStore rfl _ _ _ _))
  | xFmovSAtRmDisp8sFRn | xFmovSAtPcDisp13FRn | xFmovSAtPcDisp13XFn | xFmovDAtPcDisp13DRn =>
    exact lawful_wide (computes_fpu (s.computes_fpLoad _ _ _ _))
  | xFmovDAtRmDisp8sDRn | wFmovSAtRmDispFRn =>
    exact lawful_wide (computes_require fun _ => computes_fpu (s.computes_fpLoad _ _ _ _))
  | xAndRmImm8Rn | xXorRmImm8Rn | xOrRmImm8Rn | xMullRmImm8Rn | xSubRmImm8Rn | xAddRmImm8Rn | xShadRmImmRn
  | xShldRmImmRn | xAddImm16Rn | xAndImm12Rn | xXorImm12Rn | xOrImm12Rn =>
    exact lawful_wide (computes_ok (s.writes_binOp _ _ _ _))
  | xCmpeqImm12Rn | xCmphsImm12Rn | xCmpgeImm12Rn | xCmphiImm12Rn | xCmpgtImm12Rn | xCmpeqImm16R0 | xTstImm12Rn =>
    exact lawful_wide (computes_ok (s.writes_cmpOp _ _ _))
  | xMovBImmAtDecRn | xMovWImmAtDecRn | xMovLImmAtDecRn => exact lawful_wide (s.computes_storeDec rfl _ _ _)
  | xMovQImmAtDecRn => exact lawful_wide (computes_needJq fun _ => s.computes_storeDec rfl _ _ _)
  | xLeaBAtRmRoDisp4Rn | xLeaWAtRmRoDisp4Rn | xLeaLAtRmRoDisp4Rn | xLeaQAtRmRoDisp4Rn | xLeaBAtRmDisp8sRn
  | xLeaWAtRmDisp8sRn | xLeaLAtRmDisp8sRn | xLeaQAtRmDisp8sRn | xMovaAtPcDisp13Rn =>
    exact lawful_wide (computes_ok (s.writes_wrA _ _))
  | xBranDisp16 => exact lawful_noSlot (computes_ok (.single (.jump _)))
  | xBsrnDisp16 => exact lawful_noSlot (computes_ok ((s.writes_link _).tail (.jump _)))
  | xLdhf16ImmFpul => exact lawful_wide (computes_fpu (computes_ok (s.writes_fpul _)))
  | xLdsh16ImmR0 => exact lawful_wide (computes_ok (s.writes_wr_jq _ _))
  | xMovuWAtPcDisp13RHn | xMovLAtPcDisp13RHn | xMovWAtPcDisp13RHn =>
    exact lawful_wide (computes_needRh fun hr => computes_load fun _ => s.writes_setHalf (fun _ => hr) _ _)
  | xMovuWAtPcDisp13RQn | xMovLAtPcDisp13RQn | xMovWAtPcDisp13RQn | xMovuLAtPcDisp13RQn =>
    exact lawful_wide (computes_needRh fun hr => computes_load fun _ => writes_setR hr _ _)
  | xMovQAtPcDisp13RQn =>
    exact lawful_wide (computes_needJq fun _ => computes_needRh fun hr => computes_load fun _ => writes_setR hr _ _)
  | xMovImm16Rn => exact lawful_wide (computes_ok (s.writes_wr_dq _ _))
  | oMovLRmAtRnDisp5 | oMovQRmAtRnDisp5 =>
    exact lawful_wide (computes_oprexMemCheck fun _ _ => s.computes_store rfl _ _ _)
  | oMovBRmAtRn | oMovWRmAtRn | oMovLRmAtRn =>
    exact lawful_wide (computes_oprexStoreCheck (s.computes_store rfl _ _ _))
  | oMovBRmAtDecRn | oMovWRmAtDecRn | oMovLRmAtDecRn =>
    exact lawful_wide (computes_oprexStoreCheck (s.computes_storeDec rfl _ _ _))
  | oTstRmRn | oCmpeqRmRn | oCmphsRmRn | oCmpgeRmRn | oCmphiRmRn | oCmpgtRmRn =>
    exact lawful_wide (computes_oprexCheck fun _ _ => computes_ok (s.writes_setT _))
  | oAndRmRn | oXorRmRn | oOrRmRn | oSubRmRn | oAddRmRn | oMovRmRn | oNotRmRn | oNegRmRn | oExtuBRmRn | oExtuWRmRn
  | oExtsBRmRn | oExtsWRmRn | oMovImm10Rn => exact lawful_wide (s.computes_oprexRow _ _ _ _ _ _)
  | oSubcRmRn | oSubvRmRn | oAddcRmRn | oAddvRmRn | oNegcRmRn =>
    exact lawful_wide (s.computes_oprexTRow _ _ _ _ _ _ _ _)
  | oMovLAtRmDisp5Rn =>
    exact lawful_wide (computes_oprexMemCheck fun _ hx => computes_load fun _ => s.writes_setHalf hx _ _)
  | oMovQAtRmDisp5Rn =>
    exact lawful_wide (computes_oprexMemCheck fun hq _ => computes_load fun _ => writes_setR (hq rfl) _ _)
  | oMovBAtRmRn | oMovWAtRmRn | oMovLAtRmRn =>
    exact lawful_wide (computes_oprexLoadCheck fun hq hx => computes_load fun _ => s.writes_setOpx hq hx _ _)
  | oMovBAtRmIncRn | oMovWAtRmIncRn | oMovLAtRmIncRn =>
    exact lawful_wide (computes_oprexLoadCheck fun hq hx => computes_load fun _ => (s.writes_wrA _ _).trans
      (writes_setOpx _ (by simpa using hq) (by simpa using hx) _ _))
  | tAddRsRtRn | tSubRsRtRn | tMulRsRtRn | tAndRsRtRn | tOrRsRtRn | tXorRsRtRn | tShllRsRtRn =>
    exact lawful_wide (computes_tacbCheck fun hx => computes_ok (s.writes_setOpx (q := false) nofun hx _ _))
  | tAddRsRtRnQuad | tAddQRsImm6Rn | tSubRsRtRnQuad | tSubQRsImm6Rn | tMulRsRtRnQuad | tAndRsRtRnQuad
  | tOrRsRtRnQuad | tXorRsRtRnQuad | tShllRsRtRnQuad | tShllQRsImm6Rn | tShlrQRsImm6Rn | tSharQRsImm6Rn =>
    exact lawful_wide (computes_needJq fun hj => computes_ok (writes_setR (hasRh_of_jq hj) _ _))
  | tAddLRsImm5Rn | tSubLRsImm5Rn | tShllLRsImm5Rn | tShlrLRsImm5Rn | tSharLRsImm5Rn =>
    exact lawful_wide (computes_ok (s.writes_setLow _ _))
  | tShlrRsRtRn | tSharRsRtRn =>
    exact lawful_wide (computes_tacbCheck fun hx => computes_ok (s.writes_tacbShift (q := false) nofun hx _ _ _ _ _ _))
  | tShlrRsRtRnQuad | tSharRsRtRnQuad =>
    exact lawful_wide (computes_needJq fun hj => computes_ok (s.writes_tacbShift (nx := false) (fun _ => hasRh_of_jq hj) nofun _
      _ _ _ _ _))
  | tFaddFRsFRtFRn | tFsubFRsFRtFRn | tFmulFRsFRtFRn | tFdivFRsFRtFRn =>
    exact lawful_wide (s.computes_fpArith3 _ _ _ _ _ _ _ _)
  | movi24Imm24R0 => exact lawful_wide (computes_ok (s.writes_wrNoSuffix _ _ _))
  | movi20ImmRn | movi20sImmRn =>
    exact lawful_wide (computes_require fun _ => computes_ok (s.writes_wrNoSuffix _ _ _))
  | wMovBRmAtRnDisp | wMovWRmAtRnDisp | wMovLRmAtRnDisp =>
    exact lawful_wide (computes_require fun _ => s.computes_store rfl _ _ _)
  | wMovBAtRmDispRn | wMovWAtRmDispRn | wMovLAtRmDispRn | wMovuBAtRmDispRn | wMovuWAtRmDispRn =>
    exact lawful_wide (computes_require fun _ => s.computes_loadReg _ (.inl (by decide)) _ _)
  | zAddQImm48Rn | zMovQImm48Rn =>
    exact lawful_veryWide (computes_require fun _ => computes_needJq fun hj => computes_ok (writes_setR
      (hasRh_of_jq hj) _ _))
  | zBraDisp48 =>
    exact lawful_noSlot (computes_require fun _ => computes_needJq fun _ => computes_ok (.single (.jump _)))
  | zBsrDisp48 =>
    exact lawful_noSlot (computes_require fun _ => computes_needJq fun _ => computes_ok ((s.writes_link _).tail
      (.jump _)))
  | tstBImmAtGbrR0 => exact lawful_short (computes_needNotJq (computes_load fun _ => s.writes_setT _))

end

/-- Where an instruction ends in a next state, it has made its writes or taken an exception. -/
theorem exec_next_cases {i : Instr} {s t : State} (h : exec i s = .next t) :
    s.Writes i.stores t ∨ ∃ e, t = s.takeException (firstWord i) e := by
  obtain ⟨r, hr, hc⟩ := exec_lawful i s
  rw [hr] at h
  match r with
  | .ok u =>
    obtain rfl : u = t := by simpa [settle] using h
    exact .inl (hc u rfl)
  | .error (.exc e) => exact .inr ⟨e, by simpa [settle] using h.symm⟩
  | .error (.refuse x) => simp [settle] at h

/-! ### One step -/

/-- `t` is `s` after some free values were drawn. -/
def State.Drawn (s t : State) : Prop := ∃ k, t = { s with freeCount := k }

theorem State.drawn_refl (s : State) : s.Drawn s := ⟨s.freeCount, rfl⟩

theorem State.Drawn.trans {s t u : State} (h : s.Drawn t) (h' : t.Drawn u) : s.Drawn u := by
  obtain ⟨k, rfl⟩ := h
  obtain ⟨l, rfl⟩ := h'
  exact ⟨l, rfl⟩

/-- A fetch draws at most one free value and changes nothing else (rule R136). -/
theorem State.fetch16_drawn {s s' : State} {a : Quad} {w : IWord} (h : s.fetch16 a = .ok (w, s')) : s.Drawn s' := by
  unfold State.fetch16 at h
  cases hp : s.resolve .fetch s.fetchMd 2 a with
  | error e => simp [hp, Except.map] at h
  | ok p =>
    rw [hp, Except.map, Except.ok.injEq] at h
    split at h
    · exact ⟨s.freeCount + 1, (congrArg Prod.snd h).symm⟩
    · exact ⟨s.freeCount, (congrArg Prod.snd h).symm⟩

/-- So does a run of fetches, whether it reads all its words or stops. -/
theorem State.fetchRest_drawn (s : State) (a : Quad) (n : Nat) :
    (∀ ws s', s.fetchRest a n = .ok (ws, s') → s.Drawn s') ∧ ∀ s' e, s.fetchRest a n = .error (s', e) → s.Drawn s' := by
  induction n generalizing s a with
  | zero =>
    refine ⟨fun ws s' h => ?_, fun s' e h => by simp [State.fetchRest] at h⟩
    obtain ⟨-, rfl⟩ : [] = ws ∧ s = s' := by simpa [State.fetchRest] using h
    exact s.drawn_refl
  | succ n ih =>
    simp only [State.fetchRest]
    cases hf : s.fetch16 a with
    | error x =>
      refine ⟨fun ws s' h => by simp at h, fun s' e h => ?_⟩
      obtain ⟨rfl, -⟩ : s = s' ∧ x = e := by simpa using h
      exact s.drawn_refl
    | ok x =>
      obtain ⟨w, s1⟩ := x
      have h1 := State.fetch16_drawn hf
      obtain ⟨hok, herr⟩ := ih s1 (a + 2)
      dsimp only
      cases hr : State.fetchRest s1 (a + 2) n with
      | error y =>
        refine ⟨fun ws s' h => by simp at h, fun s' e h => ?_⟩
        obtain rfl : y = (s', e) := by simpa using h
        exact h1.trans (herr _ _ hr)
      | ok y =>
        refine ⟨fun ws s' h => ?_, fun s' e h => by simp at h⟩
        obtain ⟨-, rfl⟩ : w :: y.1 = ws ∧ y.2 = s' := by simpa using h
        exact h1.trans (hok _ _ hr)

/-- The state in which a fetched instruction runs. -/
theorem State.fetchInstr_ok_drawn {s s' : State} {i : Instr} (h : s.fetchInstr = .ok (i, s')) : s.Drawn s' := by
  unfold State.fetchInstr at h
  split at h
  next => simp at h
  next w s1 hf =>
    have h1 := State.fetch16_drawn hf
    split at h
    next => simp at h
    next =>
      split at h
      next =>
        obtain ⟨-, rfl⟩ : _ ∧ s1 = s' := by simpa using h
        exact h1
      next =>
        split at h
        next => simp at h
        next ws s2 hr =>
          split at h
          next =>
            obtain ⟨-, rfl⟩ : _ ∧ s2 = s' := by simpa using h
            exact h1.trans ((State.fetchRest_drawn _ _ _).1 _ _ hr)
          next => simp at h

/-- The state in which the exception of a fetch is taken. -/
theorem State.fetchInstr_error_drawn {s : State} {x : NoFetch} (h : s.fetchInstr = .error x) : s.Drawn x.state := by
  unfold State.fetchInstr at h
  split at h
  next =>
    obtain rfl := Except.error.inj h
    exact s.drawn_refl
  next w s1 hf =>
    have h1 := State.fetch16_drawn hf
    split at h
    next =>
      obtain rfl := Except.error.inj h
      exact h1
    next =>
      split at h
      next => simp at h
      next =>
        split at h
        next s2 e hr =>
          obtain rfl := Except.error.inj h
          exact h1.trans ((State.fetchRest_drawn _ _ _).2 _ _ hr)
        next ws s2 hr =>
          split at h
          next => simp at h
          next =>
            obtain rfl := Except.error.inj h
            exact h1.trans ((State.fetchRest_drawn _ _ _).1 _ _ hr)

/-- What a step can do (rule R970): the reset procedure, an acceptable interrupt, nothing while the core sleeps, an
instruction, or the exception of a fetch that gives none. -/
theorem step_next_cases {s t : State} (h : step s = .next t) :
    (s.resetReq = true ∧ t = s.performReset) ∨ (∃ l, s.acceptable = some l ∧ t = s.takeInterrupt l) ∨ t = s ∨
      (∃ k i, exec i { s with freeCount := k } = .next t) ∨ ∃ k w e, t = { s with freeCount := k }.takeException w e := by
  unfold step at h
  split at h
  next hr => exact .inl ⟨hr, by simpa using h.symm⟩
  next =>
    split at h
    next l hl => exact .inr (.inl ⟨l, hl, by simpa using h.symm⟩)
    next =>
      split at h
      next => exact .inr (.inr (.inl (by simpa using h.symm)))
      next =>
        cases hx : s.fetchInstr with
        | ok y =>
          obtain ⟨i, s'⟩ := y
          obtain ⟨k, rfl⟩ := State.fetchInstr_ok_drawn hx
          rw [hx] at h
          exact .inr (.inr (.inr (.inl ⟨k, i, h⟩)))
        | error x =>
          obtain ⟨k, hk⟩ := State.fetchInstr_error_drawn hx
          rw [hx] at h
          cases hs : x.stop with
          | exc e =>
            refine .inr (.inr (.inr (.inr ⟨k, x.word, e, ?_⟩)))
            rw [← hk]
            simpa [hs, settle] using h.symm
          | refuse y => simp [hs, settle] at h

/-- What a reset, an interrupt, an exception, a draw and every elementary write keep, every step keeps. -/
theorem step_keeps {P : State → Prop} (hreset : ∀ s, P s → P s.performReset) (hirq : ∀ s l, P s → P (s.takeInterrupt l))
    (hexc : ∀ s w e, P s → P (s.takeException w e)) (hwrite : ∀ mem s u, P s → State.Write mem s u → P u)
    (hdraw : ∀ s k, P s → P { s with freeCount := k }) {s t : State} (hs : P s) (h : step s = .next t) : P t := by
  rcases step_next_cases h with ⟨-, rfl⟩ | ⟨l, -, rfl⟩ | rfl | ⟨k, i, hi⟩ | ⟨k, w, e, rfl⟩
  · exact hreset s hs
  · exact hirq s l hs
  · exact hs
  · rcases exec_next_cases hi with hw | ⟨e, rfl⟩
    · exact hw.keeps (hwrite _) (hdraw s k hs)
    · exact hexc _ _ e (hdraw s k hs)
  · exact hexc _ w e (hdraw s k hs)

/-! ### Configuration and inputs -/

/-- The parameters and inputs of `t` are those of `s` (rules R8, R111, R995). -/
def State.SameInputs (s t : State) : Prop := t.cfg = s.cfg ∧ t.irq = s.irq ∧ t.resetReq = s.resetReq

theorem State.sameInputs_refl (s : State) : s.SameInputs s := ⟨rfl, rfl, rfl⟩

theorem State.SameInputs.trans {s t u : State} (h : s.SameInputs t) (h' : t.SameInputs u) : s.SameInputs u :=
  ⟨h'.1.trans h.1, h'.2.1.trans h.2.1, h'.2.2.trans h.2.2⟩

/-- Taking an exception is a trap entry (rules R971, R982). -/
theorem State.takeException_eq (s : State) (w : IWord) (e : Exc) :
    ∃ kind wr value, s.takeException w e = s.trapEntry kind wr value s.faultPc ∨
      s.takeException w e = s.trapEntry kind wr value (s.addr (s.pcn + 2)) := by
  cases e
  case trapa => exact ⟨_, _, _, .inr rfl⟩
  case brk => exact ⟨_, _, _, .inr rfl⟩
  all_goals exact ⟨_, _, _, .inl rfl⟩

theorem State.sameInputs_setSys (s : State) (q : Bool) (x : SysReg) (v : Quad) : s.SameInputs (s.setSys q x v) := by
  cases x
  case bank b => exact ⟨State.setOb_cfg s b _, State.setOb_irq s b _, State.setOb_resetReq s b _⟩
  all_goals exact s.sameInputs_refl

theorem State.Write.sameInputs {mem : Bool} {s t : State} (h : State.Write mem s t) : s.SameInputs t := by
  cases h with
  | setSys q x v => exact s.sameInputs_setSys q x v
  | putBytes a p bs =>
    rw [State.putBytes_eq]
    exact s.sameInputs_refl
  | setR | setLow | setFx | advance => simp [State.SameInputs]
  | setSrBit | clearMac | setFpscr | draw | icbi | sleep | jump | delayedBranch | returnFromTrap =>
    exact s.sameInputs_refl

/-- Settles O8: neither reset nor a trap entry writes an input, nor does an elementary write. -/
theorem stepKeepsConfigAndInputs : Obligations.StepKeepsConfigAndInputs := by
  intro s t h
  refine step_keeps (P := s.SameInputs) (fun _ hu => hu) (fun _ _ hu => hu) (fun u w e hu => ?_)
    (fun _ _ _ hu hw => hu.trans hw.sameInputs) (fun _ _ hu => hu) s.sameInputs_refl h
  obtain ⟨kind, wr, value, he | he⟩ := u.takeException_eq w e <;> rw [he] <;> exact hu

/-! ### User mode -/

theorem State.md_setSrBit (s : State) {i : Nat} (hi : i < 64) (hne : i ≠ 30) (b : Bool) : (s.setSrBit i b).md = s.md := by
  rw [State.md, State.setSrBit_sr, getLsbD_putBit _ hi, if_neg (Ne.symm hne), State.md]

/-- No elementary write leaves user mode: SR is written only bit by bit, or in supervisor mode (rule R1010). -/
theorem State.Write.md_false {mem : Bool} {s t : State} (h : State.Write mem s t) (hs : s.md = false) : t.md = false := by
  cases h with
  | setSys q x v _ hx =>
    cases x
    case sr => rw [hx rfl] at hs; exact absurd hs (by decide)
    case bank b => rw [State.setSys, State.setOb_md, hs]
    all_goals exact hs
  | returnFromTrap h => rw [h] at hs; exact absurd hs (by decide)
  | setSrBit i b hi =>
    have hi : i < 64 ∧ i ≠ 30 := by
      simp only [List.mem_cons, List.not_mem_nil, or_false] at hi
      omega
    rw [s.md_setSrBit hi.1 hi.2, hs]
  | putBytes a p bs =>
    rw [State.putBytes_eq]
    exact hs
  | setR | setLow | setFx | advance => simpa using hs
  | clearMac | setFpscr | draw | icbi | sleep | jump | delayedBranch => exact hs

/-- Settles O13: an instruction that completes leaves user mode as it is, so only the other steps can leave it. -/
theorem userModeStays : Obligations.UserModeStays := by
  intro s t hs h ht
  rcases step_next_cases h with hr | hl | rfl | ⟨k, i, hi⟩ | he
  · exact .inl hr
  · exact .inr (.inl hl)
  · rw [hs] at ht
    exact absurd ht (by decide)
  · rcases exec_next_cases hi with hw | ⟨e, he⟩
    · have hmd := hw.keeps (P := fun u => u.md = false) (fun _ _ hu hw => hw.md_false hu) hs
      rw [hmd] at ht
      exact absurd ht (by decide)
    · exact .inr (.inr ⟨k, _, e, he⟩)
  · exact .inr (.inr he)

/-! ### Memory -/

/-- Where memory may not be written, no elementary write changes it. -/
theorem State.Write.mem_eq {s t : State} (h : State.Write false s t) : t.mem = s.mem := by
  cases h with
  | setSys q x v =>
    cases x
    case bank => exact State.setOb_mem s _ _
    all_goals rfl
  | putBytes a p bs hm => exact absurd hm (by decide)
  | setR | setLow | setFx | advance => simp
  | setSrBit | clearMac | setFpscr | draw | icbi | sleep | jump | delayedBranch | returnFromTrap => rfl

/-- Settles O24: a row that is none of the storing ones makes no write of memory, and a trap makes none either. -/
theorem memoryKept : Obligations.MemoryKept := by
  intro i s t hi h
  rcases exec_next_cases h with hw | ⟨e, rfl⟩
  · rw [hi] at hw
    exact hw.keeps (P := fun u => u.mem = s.mem) (fun _ _ hu hw => hw.mem_eq.trans hu) rfl
  · obtain ⟨kind, wr, value, he | he⟩ := s.takeException_eq (firstWord i) e <;> rw [he] <;> rfl

/-! ### The invariant -/

theorem get8_set8 {α : Type} (v : Vector α 8) (i j : BitVec 3) (x : α) :
    get8 (set8 v i x) j = if j = i then x else get8 v j := by
  have h : get8 (set8 v i x) j = if i.toNat = j.toNat then x else get8 v j :=
    Vector.getElem_set i.isLt j.isLt
  rw [h]
  simp only [BitVec.toNat_inj, @eq_comm _ i j]

/-- The high half of an address of a core without JQ is 0 (rule R131). -/
theorem State.hi32_addr {s : State} (h : s.is64 = false) (x : Quad) : hi32 (s.addr x) = 0 := by
  rw [State.addr, State.jq, h, Bool.false_and, if_neg Bool.false_ne_true, hi32_zx32]

/-- The registers of `s` meet the widths of a core without 64-bit registers (rule R51, log 24). -/
def State.Narrow (s : State) : Prop :=
  ∀ v ∈ [s.pc, s.gbr, s.vbr, s.ssr, s.spc, s.sgr, s.dbr, s.mach, s.macl, s.pr], hi32 v = 0

theorem State.narrow_iff (s : State) :
    s.Narrow ↔ hi32 s.pc = 0 ∧ hi32 s.gbr = 0 ∧ hi32 s.vbr = 0 ∧ hi32 s.ssr = 0 ∧ hi32 s.spc = 0 ∧ hi32 s.sgr = 0 ∧
      hi32 s.dbr = 0 ∧ hi32 s.mach = 0 ∧ hi32 s.macl = 0 ∧ hi32 s.pr = 0 := by
  simp [State.Narrow]

/-- No cell of the general registers has a high half (rule R58). -/
def State.NoHalves (s : State) : Prop :=
  ∀ b : BankReg, hi32 (get8 s.ga b) = 0 ∧ hi32 (get8 s.gb b) = 0 ∧ hi32 (get8 s.g b) = 0

theorem State.NoHalves.r {s : State} (h : s.NoHalves) (n : Reg) : hi32 (s.r n) = 0 := by
  obtain ⟨ha, hb, hg⟩ := h (n.extractLsb' 0 3)
  unfold State.r
  split
  · exact hg
  · split
    · exact hb
    · exact ha

theorem State.NoHalves.ob {s : State} (h : s.NoHalves) (b : BankReg) : hi32 (s.ob b) = 0 := by
  obtain ⟨ha, hb, -⟩ := h b
  unfold State.ob
  split
  · exact ha
  · exact hb

theorem hi32_get8_set8 {v : Vector Quad 8} {x : Quad} (hx : hi32 x = 0) (i j : BitVec 3) (hv : hi32 (get8 v j) = 0) :
    hi32 (get8 (set8 v i x) j) = 0 := by
  rw [get8_set8]
  split
  · exact hx
  · exact hv

theorem State.NoHalves.setR {s : State} (h : s.NoHalves) (n : Reg) {v : Quad} (hv : hi32 v = 0) :
    (s.setR n v).NoHalves := by
  intro b
  obtain ⟨ha, hb, hg⟩ := h b
  unfold State.setR
  split
  · exact ⟨ha, hb, hi32_get8_set8 hv _ b hg⟩
  · split
    · exact ⟨ha, hi32_get8_set8 hv _ b hb, hg⟩
    · exact ⟨hi32_get8_set8 hv _ b ha, hb, hg⟩

theorem State.NoHalves.setOb {s : State} (h : s.NoHalves) (i : BankReg) {v : Quad} (hv : hi32 v = 0) :
    (s.setOb i v).NoHalves := by
  intro b
  obtain ⟨ha, hb, hg⟩ := h b
  unfold State.setOb
  split
  · exact ⟨hi32_get8_set8 hv _ b ha, hb, hg⟩
  · exact ⟨ha, hi32_get8_set8 hv _ b hb, hg⟩

/-- What SR may hold: a bit is set only inside the mask (rule R76). -/
theorem sr_putBit {c : Config} {x : Quad} {i : Nat} (hi : (srMask c).getLsbD i = true) (b : Bool)
    (h : x &&& ~~~srMask c = 0) : putBit x i b &&& ~~~srMask c = 0 := by
  rw [and_not_eq_zero_iff] at h ⊢
  have hi64 := BitVec.lt_of_getLsbD hi
  intro k hk
  rw [getLsbD_putBit x hi64] at hk
  split at hk
  next hki => rw [hki, hi]
  next => exact h k hk

/-- The bits of SR that a core of either variant has (rule R76). -/
theorem srMask_common (c : Config) {i : Nat} (hi : i ∈ [0, 1, 8, 9, 28, 29, 30]) : (srMask c).getLsbD i = true := by
  have h : ∀ v : Variant, ∀ i ∈ [0, 1, 8, 9, 28, 29, 30], (srMask { Config.default with variant := v }).getLsbD i = true := by
    intro v
    cases v <;> decide
  exact h c.variant i hi

/-- JQ and DQ, which only a BJX1-64 has. -/
theorem srMask_modes {c : Config} (hc : c.variant = .bjx1_64) {i : Nat} (hi : i ∈ [12, 31]) :
    (srMask c).getLsbD i = true := by
  have h : ∀ i ∈ [12, 31], (srMask Config.default).getLsbD i = true := by decide
  rw [show srMask c = srMask Config.default by rw [srMask, srMask, hc]; rfl]
  exact h i hi

theorem State.is64_iff (s : State) : s.is64 = true ↔ s.cfg.variant = .bjx1_64 := by
  unfold State.is64
  cases s.cfg.variant <;> simp

theorem State.is64_false_iff (s : State) : s.is64 = false ↔ s.cfg.variant = .bjx1_32 := by
  unfold State.is64
  cases s.cfg.variant <;> simp

theorem State.is64_false_of_hasRh_false {s : State} (h : s.hasRh = false) : s.is64 = false := by
  rw [State.hasRh, Bool.or_eq_false_iff] at h
  exact h.1

theorem hi32_merge_false (old v : Quad) : hi32 (merge false old v) = hi32 old := by simp

/-- A write at a width the core has leaves a 32-bit register 32 bits wide. -/
theorem hi32_merge_eq_zero {q : Bool} (hq : q = false) {old : Quad} (h : hi32 old = 0) (v : Quad) :
    hi32 (merge q old v) = 0 := by
  rw [hq, hi32_merge_false, h]

/-- The part of SR that a value of it, masked, leaves. -/
theorem sr_merge {c : Config} {x : Quad} (q : Bool) (h : x &&& ~~~srMask c = 0) (v : Quad) :
    merge q x (v &&& srMask c) &&& ~~~srMask c = 0 := by
  cases q
  · rw [and_not_eq_zero_iff] at h ⊢
    intro k hk
    rw [merge_false, getLsbD_halves] at hk
    split at hk
    · have hk' : (v &&& srMask c).getLsbD k = true := by
        rw [lo32, BitVec.getLsbD_setWidth, Bool.and_eq_true] at hk
        exact hk.2
      rw [BitVec.getLsbD_and, Bool.and_eq_true] at hk'
      exact hk'.2
    · rename_i hge
      rw [hi32, BitVec.getLsbD_extractLsb', show 32 + (k - 32) = k by omega, Bool.and_eq_true] at hk
      exact h k hk.2
  · exact and_mask_and_not v _

/-- Only the general registers changed. -/
theorem State.Inv.setR {s : State} (h : s.Inv) (n : Reg) {v : Quad} (hv : s.hasRh = false → hi32 v = 0) :
    (s.setR n v).Inv where
  mem := by simpa using h.mem
  stale := by simpa using h.stale
  sr := by simpa using h.sr
  fpscr := by simpa using h.fpscr
  narrow := by simpa using h.narrow
  slot := by simpa using h.slot
  halves hr := by
    rw [State.setR_hasRh] at hr
    exact State.NoHalves.setR (h.halves hr) n (hv hr)

theorem State.Inv.setLow {s : State} (h : s.Inv) (n : Reg) (v : Dword) : (s.setHalf false n v).Inv :=
  h.setR n fun hr => by
    rw [if_neg Bool.false_ne_true, hi32_append]
    exact State.NoHalves.r (h.halves hr) n

theorem State.Inv.setSr {s : State} (h : s.Inv) {v : Quad} (hv : v &&& ~~~srMask s.cfg = 0) : { s with sr := v }.Inv where
  mem := h.mem
  stale := h.stale
  sr := hv
  fpscr := h.fpscr
  narrow := h.narrow
  slot := h.slot
  halves := h.halves

theorem State.Inv.setFpscr {s : State} (h : s.Inv) {v : Dword} (hv : v &&& ~~~fpscrMask = 0) :
    { s with fpscr := v }.Inv where
  mem := h.mem
  stale := h.stale
  sr := h.sr
  fpscr := hv
  narrow := h.narrow
  slot := h.slot
  halves := h.halves

/-- A new PC, within the width of the core, and no pending branch or one within that width. -/
theorem State.Inv.setPc {s : State} (h : s.Inv) {pc : Quad} {ds : Option DelaySlot} (hpc : s.is64 = false → hi32 pc = 0)
    (hds : s.is64 = false → ∀ d, ds = some d → hi32 d.target = 0 ∧ hi32 d.branchPc = 0) :
    { s with pc := pc, ds := ds }.Inv where
  mem := h.mem
  stale := h.stale
  sr := h.sr
  fpscr := h.fpscr
  narrow h32 := by
    have hn := (State.narrow_iff _).mp (h.narrow h32)
    exact (State.narrow_iff _).mpr ⟨hpc h32, hn.2⟩
  slot := hds
  halves := h.halves

theorem State.Inv.putBytes {s : State} (h : s.Inv) (a : Quad) (p : Nat) (bs : List Byte) : (s.putBytes a p bs).Inv := by
  rw [State.putBytes_eq]
  exact
    { mem := wf_putMem h.mem p bs
      stale := staleWf_putStale _ h.stale a _
      sr := h.sr
      fpscr := h.fpscr
      narrow := h.narrow
      slot := h.slot
      halves := h.halves }

theorem State.Inv.setSys {s : State} (h : s.Inv) {q : Bool} (hq : q = true → s.is64 = true) (x : SysReg) (v : Quad) :
    (s.setSys q x v).Inv := by
  have hm : s.is64 = false → ∀ {old : Quad}, hi32 old = 0 → hi32 (merge q old v) = 0 := fun h32 _ ho =>
    hi32_merge_eq_zero (Bool.eq_false_iff.mpr fun hq' => absurd (hq hq') (by simp [h32])) ho v
  have hw : ∀ t : State, t.mem = s.mem → t.stale = s.stale → t.sr = s.sr → t.cfg = s.cfg → t.fpscr = s.fpscr →
      t.ds = s.ds → t.ga = s.ga → t.gb = s.gb → t.g = s.g → (s.is64 = false → t.Narrow) → t.Inv := by
    intro t hmem hstale hsr hcfg hfp hds hga hgb hg hn
    have h64 : t.is64 = s.is64 := by rw [State.is64, State.is64, hcfg]
    have hrh : t.hasRh = s.hasRh := by rw [State.hasRh, State.hasRh, h64, hcfg]
    refine ⟨by rw [hmem]; exact h.mem, by rw [hstale]; exact h.stale, by rw [hsr, hcfg]; exact h.sr,
      by rw [hfp]; exact h.fpscr, by rw [h64]; exact hn, by rw [h64, hds]; exact h.slot, ?_⟩
    rw [hrh, hga, hgb, hg]
    exact h.halves
  cases x with
  | sr => exact h.setSr (sr_merge q h.sr v)
  | fpscr => exact h.setFpscr (and_mask_and_not _ _)
  | fpul => exact ⟨h.mem, h.stale, h.sr, h.fpscr, h.narrow, h.slot, h.halves⟩
  | bank b =>
    refine ⟨by simpa [State.setSys] using h.mem, by simpa [State.setSys] using h.stale,
      by simpa [State.setSys] using h.sr, by simpa [State.setSys] using h.fpscr,
      by simpa [State.setSys] using h.narrow, by simpa [State.setSys] using h.slot, fun hr => ?_⟩
    rw [State.setSys, State.setOb_hasRh] at hr
    exact State.NoHalves.setOb (h.halves hr) b
      (hm (State.is64_false_of_hasRh_false hr) (State.NoHalves.ob (h.halves hr) b))
  | gbr | vbr | ssr | spc | sgr | dbr | mach | macl | pr =>
    refine hw _ rfl rfl rfl rfl rfl rfl rfl rfl rfl fun h32 => ?_
    obtain ⟨h1, h2, h3, h4, h5, h6, h7, h8, h9, h10⟩ := (State.narrow_iff s).mp (h.narrow h32)
    simp only [State.narrow_iff, State.setSys]
    simp only [h1, h2, h3, h4, h5, h6, h7, h8, h9, h10, hm h32, and_self]

/-- Every elementary write keeps the invariant. -/
theorem State.Write.inv {mem : Bool} {s t : State} (h : State.Write mem s t) (hs : s.Inv) : t.Inv := by
  cases h with
  | setR n v hr => exact hs.setR n fun hr' => absurd hr (by simp [hr'])
  | setLow n v => exact hs.setLow n v
  | setSrBit i b hi =>
    refine hs.setSr (sr_putBit ?_ b hs.sr)
    rcases hi with hi | ⟨hi, h64⟩
    · exact srMask_common _ (by simp only [List.mem_cons, List.not_mem_nil, or_false] at hi ⊢; omega)
    · exact srMask_modes (s.is64_iff.mp h64) hi
  | setSys q x v hq => exact hs.setSys hq x v
  | clearMac =>
    refine ⟨hs.mem, hs.stale, hs.sr, hs.fpscr, fun h32 => ?_, hs.slot, hs.halves⟩
    obtain ⟨h1, h2, h3, h4, h5, h6, h7, -, -, h10⟩ := (State.narrow_iff s).mp (hs.narrow h32)
    exact (State.narrow_iff _).mpr ⟨h1, h2, h3, h4, h5, h6, h7, hi32_zx32 0, hi32_zx32 0, h10⟩
  | setFx x i v =>
    unfold State.setFx
    split <;> exact ⟨hs.mem, hs.stale, hs.sr, hs.fpscr, hs.narrow, hs.slot, hs.halves⟩
  | setFpscr v hv => exact hs.setFpscr (hv hs.fpscr)
  | putBytes a p bs => exact hs.putBytes a p bs
  | icbi a => exact ⟨hs.mem, hs.stale.filter _, hs.sr, hs.fpscr, hs.narrow, hs.slot, hs.halves⟩
  | draw | sleep => exact ⟨hs.mem, hs.stale, hs.sr, hs.fpscr, hs.narrow, hs.slot, hs.halves⟩
  | advance p l =>
    unfold State.advance
    split
    next hd => exact hs.setPc (ds := s.ds) (fun h32 => State.hi32_addr h32 _) hs.slot
    next => exact hs.setPc (fun h32 => State.hi32_addr h32 _) nofun
  | jump a => exact hs.setPc (ds := s.ds) (fun h32 => State.hi32_addr h32 _) hs.slot
  | delayedBranch l a =>
    refine hs.setPc (fun h32 => State.hi32_addr h32 _) fun h32 d hd => ?_
    obtain rfl := Option.some.inj hd
    exact ⟨State.hi32_addr h32 _, State.hi32_addr h32 _⟩
  | returnFromTrap =>
    refine (hs.setSr (and_mask_and_not s.ssr _)).setPc (fun h32 => State.hi32_addr h32 _) fun h32 d hd => ?_
    obtain rfl := Option.some.inj hd
    exact ⟨State.hi32_addr h32 _, State.hi32_addr (s := s) h32 _⟩

/-- SR after a trap entry has no reserved bit (rule R980). -/
theorem State.Inv.trapSr {s : State} (h : s.Inv) : s.trapSr &&& ~~~srMask s.cfg = 0 := by
  have h3 := sr_putBit (srMask_common s.cfg (i := 28) (by decide)) true
    (sr_putBit (srMask_common s.cfg (i := 29) (by decide)) true
      (sr_putBit (srMask_common s.cfg (i := 30) (by decide)) true h.sr))
  unfold State.trapSr
  dsimp only
  split
  next h64 =>
    have hv := s.is64_iff.mp h64
    exact sr_putBit (srMask_modes hv (by decide)) _ (sr_putBit (srMask_modes hv (by decide)) _ h3)
  next => exact h3

/-- On BJX1-32 no bit of SR is beyond its 32. -/
theorem State.Inv.hi32_sr {s : State} (h : s.Inv) (h32 : s.is64 = false) : hi32 s.sr = 0 := by
  have hm : hi32 (srMask s.cfg) = 0 := by
    rw [srMask, s.is64_false_iff.mp h32]
    decide
  have hsr := (and_not_eq_zero_iff s.sr _).mp h.sr
  refine BitVec.eq_of_getLsbD_eq fun i hi => ?_
  cases hb : (hi32 s.sr).getLsbD i with
  | false => simp
  | true =>
    rw [hi32, BitVec.getLsbD_extractLsb', Bool.and_eq_true] at hb
    have : (hi32 (srMask s.cfg)).getLsbD i = true := by
      rw [hi32, BitVec.getLsbD_extractLsb', hb.1, Bool.true_and]
      exact hsr _ hb.2
    rw [hm] at this
    simp at this

/-- A trap entry keeps the invariant. -/
theorem State.Inv.trapEntry {s : State} (h : s.Inv) (kind : TrapKind) (w : Bool) (value : Quad) {spc : Quad}
    (hspc : s.is64 = false → hi32 spc = 0) : (s.trapEntry kind w value spc).Inv where
  mem := h.mem
  stale := h.stale
  sr := h.trapSr
  fpscr := h.fpscr
  narrow h32 := by
    have h32' : s.is64 = false := h32
    obtain ⟨-, h2, h3, -, -, -, h7, h8, h9, h10⟩ := (State.narrow_iff s).mp (h.narrow h32')
    have hpc : hi32 (s.handlerPc kind) = 0 := by simp [State.handlerPc, h32']
    have hsgr : hi32 (if s.is64 then s.r 15 else zx32 (lo32 (s.r 15))) = 0 := by simp [h32']
    exact (State.narrow_iff _).mpr ⟨hpc, h2, h3, h.hi32_sr h32', hspc h32', hsgr, h7, h8, h9, h10⟩
  slot := fun _ => nofun
  halves := h.halves

theorem State.Inv.hi32_faultPc {s : State} (h : s.Inv) (h32 : s.is64 = false) : hi32 s.faultPc = 0 := by
  unfold State.faultPc
  split
  next => exact State.hi32_addr h32 _
  next d hd => exact (h.slot h32 d hd).2

theorem State.Inv.takeException {s : State} (h : s.Inv) (w : IWord) (e : Exc) : (s.takeException w e).Inv := by
  obtain ⟨kind, wr, value, he | he⟩ := s.takeException_eq w e <;> rw [he]
  · exact h.trapEntry kind wr value fun h32 => h.hi32_faultPc h32
  · exact h.trapEntry kind wr value fun h32 => State.hi32_addr h32 _

theorem hi32_xlen {c : Config} (h : c.variant = .bjx1_32) (v : Quad) : hi32 (xlen c v) = 0 := by
  rw [xlen, h]
  exact hi32_zx32 (lo32 v)

/-- The reset procedure keeps the invariant. -/
theorem State.Inv.performReset {s : State} (h : s.Inv) : s.performReset.Inv where
  mem := h.mem
  stale := List.Pairwise.nil
  sr := and_mask_and_not _ _
  fpscr := and_mask_and_not _ _
  narrow h32 := by
    have h32' : s.is64 = false := h32
    have hv := s.is64_false_iff.mp h32'
    obtain ⟨-, h2, -, h4, h5, h6, h7, h8, h9, h10⟩ := (State.narrow_iff s).mp (h.narrow h32')
    exact (State.narrow_iff _).mpr ⟨hi32_xlen hv _, h2, hi32_xlen hv _, h4, h5, h6, h7, h8, h9, h10⟩
  slot := fun _ => nofun
  halves := h.halves

/-- Settles O7: each of the things a step can do keeps the invariant. -/
theorem stepKeepsInv : Obligations.StepKeepsInv := by
  intro s t hs h
  exact step_keeps (P := State.Inv) (fun _ hu => hu.performReset)
    (fun _ _ hu => hu.trapEntry _ _ _ fun h32 => State.hi32_addr h32 _) (fun _ w e hu => hu.takeException w e)
    (fun _ _ _ hu hw => hw.inv hu) (fun _ _ hu => ⟨hu.mem, hu.stale, hu.sr, hu.fpscr, hu.narrow, hu.slot, hu.halves⟩) hs h

end Sys2Proof.Machine
end

section
/-! PROOFS. Instructions that are illegal whatever they would do: the reserved rows, the privileged rows in user mode, what
may not stand in a delay slot, operands that no state allows, and the FPU rows without the FPU (statements O60, O12,
O16, O18 and O26). -/
namespace Sys2Proof.Machine

/-! ### An illegal instruction, however it ends -/

section
variable {i : Instr} {s : State} {r : Res State}

theorem raises_reserved (hx : exec i s = reserved (firstWord i) s) : Raises i s .illegal := hx

theorem raises_short_illegal (hr : r = illegal) (hx : exec i s = short (firstWord i) s r) : Raises i s .illegal := by
  rw [Raises, hx, hr, short_illegal]

theorem raises_wide_illegal (hr : r = illegal) (hx : exec i s = wide (firstWord i) s r) : Raises i s .illegal := by
  rw [Raises, hx, hr, wide_illegal]

theorem raises_noSlot_illegal (hr : r = illegal) (hx : exec i s = noSlot (firstWord i) s r) : Raises i s .illegal := by
  rw [Raises, hx, hr]
  exact noSlot_error_illegal _ s

end

/-! ### Reserved rows -/

/-- Settles O60: every line is a reserved row. -/
theorem reservedRowsTrap : Obligations.ReservedRowsTrap := by
  intro s
  refine ⟨fun n => ?_, fun n => ?_, fun n => ?_, fun n => ?_, ?_, fun m => ?_, fun m => ?_, ?_, ?_, fun disp n => ?_,
    fun p => ?_, fun p => ?_, fun p => ?_, fun p => ?_, fun p => ?_, fun p => ?_, fun p => ?_, fun p => ?_, fun p => ?_,
    fun p => ?_, fun p => ?_, fun p => ?_, fun p => ?_, fun p => ?_, fun p => ?_, fun p => ?_, fun p r => ?_,
    fun p r => ?_, fun p r => ?_⟩
  all_goals exact raises_reserved rfl

/-! ### Privileged rows -/

theorem State.priv_user {α : Type} {s : State} (h : s.md = false) (r : Res α) : s.priv r = illegal := by
  rw [State.priv, h, if_neg Bool.false_ne_true]

/-- Settles O12: every privileged row checks the mode before all else. -/
theorem privilegedInUserMode : Obligations.PrivilegedInUserMode := by
  intro i s hi hm
  cases i with
  | stcSrRn | stcVbrRn | stcSsrRn | stcSpcRn | stcRmBRn | stcSgrRn | stcDbrRn | ldcRmSr | ldcRmVbr | ldcRmSsr | ldcRmSpc
  | ldcRmRnB | ldcRmSgr | ldcRmDbr | stcLQSgrAtDecRn | stcLQDbrAtDecRn | stcLQSrAtDecRn | stcLQVbrAtDecRn
  | stcLQSsrAtDecRn | stcLQSpcAtDecRn | stcLQRmBAtDecRn | ldcLQAtRmIncSgr | ldcLQAtRmIncDbr | ldcLQAtRmIncSr
  | ldcLQAtRmIncVbr | ldcLQAtRmIncSsr | ldcLQAtRmIncSpc | ldcLQAtRmIncRnB | ldtlb =>
    exact raises_short_illegal (State.priv_user hm _) rfl
  | rte => exact raises_noSlot_illegal (State.priv_user hm _) rfl
  | sleep =>
    have h := exec_sleep s
    rw [execSleep, State.priv_user hm] at h
    exact raises_noSlot_illegal rfl h
  | _ => exact absurd hi Bool.false_ne_true

/-! ### Delay slots -/

/-- Settles O16: a reserved row is illegal anywhere, the rows named next may stand in a slot, and every other row ends in
`noSlot`. -/
theorem slotRules : Obligations.SlotRules := by
  intro i s hd hi
  cases i with
  | movLAtPcIncRn | movQAtPcIncRn | divuR0Rn | divsR0Rn | rtsn | rtvnRm | jsrnRm | resbank | synco
  | xFmovDAtPcDisp13YDn | resXpfx1 | resXpfx3 | resXpfx4 | resXpfx5 | resXpfy0 | resXpfy1 | resXpfz1 | resXpfv0
  | res3xx9 | res8C1x | res8C2x | res8C4x | res8C5x | res8C6x | res8C7x | res8C8x | resTacb9 | resTacbA | resTacbB => exact raises_reserved rfl
  | movRmRn | movImmRn | movBRmAtRn | movWQRmAtRn | movLRmAtRn | movBAtRmRn | movWQAtRmRn | movLAtRmRn
  | movBRmAtDecRn | movWQRmAtDecRn | movLRmAtDecRn | movBAtRmIncRn | movWQAtRmIncRn | movLAtRmIncRn | movBRmAtR0Rn
  | movWQRmAtR0Rn | movLRmAtR0Rn | movBAtR0RmRn | movWQAtR0RmRn | movLAtR0RmRn | movLRmAtRnDisp | movLAtRmDispRn
  | movBR0AtRnDisp | movWQR0AtRnDisp | movBAtRmDispR0 | movWQAtRmDispR0 | movBR0AtGbrDisp | movWQR0AtGbrDisp
  | movLR0AtGbrDisp | movBAtGbrDispR0 | movWQAtGbrDispR0 | movLAtGbrDispR0 | movBR0AtRnInc | movWQR0AtRnInc
  | movLR0AtRnInc | movBAtDecRmR0 | movWQAtDecRmR0 | movLAtDecRmR0 | pushLQRm | popLQRn | movQWAtR0Rn | movQWRmAtR0
  | movuaLAtRmR0 | movuaLAtRmIncR0 | movuaLR0AtRm | movuaLR0AtDecRm | movtRn | movrtRn | swapBRmRn | swapWRmRn
  | xtrctRmRn | addRmRn | addImmRn | addcRmRn | addvRmRn | subRmRn | subcRmRn | subvRmRn | negRmRn | negcRmRn
  | cmpeqRmRn | cmphsRmRn | cmpgeRmRn | cmphiRmRn | cmpgtRmRn | cmppzRn | cmpplRn | cmpstrRmRn | cmpeqImmR0 | dtRn
  | extsBRmRn | extsWRmRn | extuBRmRn | extuWRmRn | mulLRmRn | muluWQRmRn | mulsWQRmRn | dmuluLRmRn | dmulsLRmRn
  | div0sRmRn | div0u | div1RmRn | macLAtRmIncAtRnInc | macWQAtRmIncAtRnInc | andRmRn | andImmR0 | andBImmAtGbrR0
  | orRmRn | orImmR0 | orBImmAtGbrR0 | xorRmRn | xorImmR0 | xorBImmAtGbrR0 | tstRmRn | tstImmR0 | tstBImmAtGbrR0
  | notRmRn | tasBAtRn | shadRmRn | shldRmRn | shllRn | shalRn | shlrRn | sharRn | rotlRn | rotrRn | rotclRn
  | rotcrRn | shll2Rn | shll8Rn | shll16Rn | shlr2Rn | shlr8Rn | shlr16Rn | shll4Rn | shlr4Rn | shll32Rn | shlr32Rn
  | rot32Rn | movhiR0RHn | movhiRHmR0 | extuLRn | extsLRn | stcSrRn | stcGbrRn | stcVbrRn | stcSsrRn | stcSpcRn
  | stcRmBRn | stcSgrRn | stcDbrRn | stsMachRn | stsMaclRn | stsPrRn | stsFpulRn | stsFpscrRn | ldcRmSr | ldcRmGbr
  | ldcRmVbr | ldcRmSsr | ldcRmSpc | ldcRmRnB | ldcRmSgr | ldcRmDbr | ldsRmMach | ldsRmMacl | ldsRmPr | iclrmdDQ
  | iclrmdJQ | iclrmdJDQ | isetmdDQ | isetmdJQ | isetmdJDQ | ldsRmFpul | ldsRmFpscr | clrt | sett | clrs | sets
  | nott | clrmac | nop | ldtlb | prefAtRn | movcaLR0AtRn | icbiAtRn | casLRmRnAtR0 | stsLQMachAtDecRn
  | stsLQMaclAtDecRn | stsLQPrAtDecRn | stcLQSgrAtDecRn | stsLQFpulAtDecRn | stsLQFpscrAtDecRn | stcLQDbrAtDecRn
  | stcLQSrAtDecRn | stcLQGbrAtDecRn | stcLQVbrAtDecRn | stcLQSsrAtDecRn | stcLQSpcAtDecRn | stcLQRmBAtDecRn
  | ldsLQAtRmIncMach | ldsLQAtRmIncMacl | ldsLQAtRmIncPr | ldcLQAtRmIncSgr | ldsLQAtRmIncFpul | ldsLQAtRmIncFpscr
  | ldcLQAtRmIncDbr | ldcLQAtRmIncSr | ldcLQAtRmIncGbr | ldcLQAtRmIncVbr | ldcLQAtRmIncSsr | ldcLQAtRmIncSpc
  | ldcLQAtRmIncRnB | faddFRmFRn | fsubFRmFRn | fmulFRmFRn | fdivFRmFRn | fcmpeqFRmFRn | fcmpgtFRmFRn
  | fmovSAtR0RmFRn | fmovSFRmAtR0Rn | fmovSAtRmFRn | fmovSAtRmIncFRn | fmovSFRmAtRn | fmovSFRmAtDecRn | fmovFRmFRn
  | fstsFRn | fldsFRm | floatFRn | ftrcFRm | fnegFRn | fabsFRn | fsqrtFRn | fldi0FRn | fldi1FRn | fcnvsdFRn
  | fcnvdsFRm | psetmdImm4 | fschg | fpchg | frchg | fmacFRmFRn =>
    exact hi.elim (fun hl => absurd rfl hl) fun hf => absurd hf Bool.false_ne_true
  | _ => exact raises_noSlot_slot hd rfl

/-! ### Operands that no state allows -/

theorem require_false {α : Type} {b : Bool} (h : b = false) (r : Res α) : require b r = illegal := by
  rw [require, h, if_neg Bool.false_ne_true]

theorem require_require {α : Type} (a b : Bool) (r : Res α) : require a (require b r) = require (a && b) r := by
  cases a <;> rfl

/-- A VV form is one check of its operands and then the FPU check (rules R690, R1000). -/
theorem State.vvForm_eq (s : State) (v : BitVec 4) (b : Bool) (f : Xfer → Res State) :
    ∃ r, s.vvForm v b f = require (wfTransfer v b) (s.fpu r) := by
  have hk : ∀ v, vvKind v = none ↔ v.extractLsb' 2 2 = 3 := by decide
  unfold State.vvForm
  split
  next k h =>
    have hne : v.extractLsb' 2 2 ≠ 3 := fun h3 => by simp [(hk v).mpr h3] at h
    exact ⟨f k, by rw [wfTransfer, bne_iff_ne.mpr hne, Bool.true_and]⟩
  next h => exact ⟨illegal, by rw [wfTransfer, (hk v).mp h]; rfl⟩

/-- A move of the VV byte is one check of its operands and of the high half it names, and then the FPU check (rules R697,
R698, R1000). -/
theorem exec_xvFmovFRmFRn_eq (v : BitVec 8) (n m : Nib) (s : State) :
    ∃ r, exec (.xvFmovFRmFRn v n m) s =
      wide (firstWord (.xvFmovFRmFRn v n m)) s (require (wfMove v && (!moveNamesHigh v || s.hasRh)) (s.fpu r)) := by
  suffices h : ∃ r, require (!(v.getLsbD 3 || v.getLsbD 1))
      (s.vvMove (v.extractLsb' 4 4) (v.getLsbD 2) (v.getLsbD 0) n m) =
        require (wfMove v && (!moveNamesHigh v || s.hasRh)) (s.fpu r) by
    obtain ⟨r, hr⟩ := h
    exact ⟨r, by rw [← hr]; rfl⟩
  unfold State.vvMove wfMove moveNamesHigh
  split
  case h_9 =>
    refine ⟨illegal, ?_⟩
    have hl : ∀ b : Bool, require b (illegal : Res State) = illegal := fun b => by cases b <;> rfl
    rw [hl, require_false]
    split <;> simp_all
  all_goals
    rename_i h
    simp only [h, require_require]
    refine ⟨_, congrArg (require · (s.fpu _)) ?_⟩
    grind

/-- The checks of OPREX operands hold those that do not depend on the state (rule R861). -/
theorem State.oprexCheck_of_wfData {s : State} {q nx mx bx : Bool} (h : wfData q nx mx bx = false) (r : Res State) :
    s.oprexCheck q nx mx bx r = illegal := by
  refine require_false ?_ r
  unfold wfData at h
  grind

theorem State.oprexMemCheck_of_wfAddress {s : State} {q ax dx : Bool} (h : wfAddress q ax dx = false) (r : Res State) :
    s.oprexMemCheck q ax dx r = illegal := by
  refine require_false ?_ r
  unfold wfAddress at h
  grind

theorem State.oprexStoreCheck_of_wf {s : State} {q ax dx bx : Bool} (h : (wfAddress q ax dx && !bx && !q) = false)
    (r : Res State) : s.oprexStoreCheck q ax dx bx r = illegal := by
  rw [State.oprexStoreCheck, State.oprexMemCheck, require_require]
  refine require_false ?_ r
  unfold wfAddress at h
  grind

theorem State.oprexLoadCheck_of_wf {s : State} {q ax dx bx : Bool} (h : (wfAddress q ax dx && !bx) = false)
    (r : Res State) : s.oprexLoadCheck q ax dx bx r = illegal := by
  rw [State.oprexLoadCheck, State.oprexMemCheck, require_require]
  refine require_false ?_ r
  unfold wfAddress at h
  grind

/-- Settles O18: the operand checks that do not depend on the state come first. -/
theorem illFormedTrap : Obligations.IllFormedTrap := by
  intro i s hi
  cases i with
  | xvFmovSAtRmRoFRn | xvFmovSFRmAtRnRo | xvFmovSAtRmDisp4FRn | xvFmovSAtRmIncFRn | xvFmovSFRmAtRnDisp4
  | xvFmovSFRmAtDecRn =>
    obtain ⟨r, hr⟩ := s.vvForm_eq _ _ _
    exact raises_wide_illegal (hr.trans (require_false hi _)) rfl
  | xvFmovFRmFRn v n m =>
    obtain ⟨r, hr⟩ := exec_xvFmovFRmFRn_eq v n m s
    have hw : wfMove v = false := hi
    exact raises_wide_illegal (require_false (by rw [hw, Bool.false_and]) _) hr
  | xPsetmdImm12 imm => exact raises_wide_illegal (require_false hi _) rfl
  | oMovLRmAtRnDisp5 | oMovQRmAtRnDisp5 | oMovLAtRmDisp5Rn | oMovQAtRmDisp5Rn =>
    exact raises_wide_illegal (State.oprexMemCheck_of_wfAddress hi _) rfl
  | oMovBRmAtRn | oMovWRmAtRn | oMovLRmAtRn | oMovBRmAtDecRn | oMovWRmAtDecRn | oMovLRmAtDecRn =>
    exact raises_wide_illegal (State.oprexStoreCheck_of_wf hi _) rfl
  | oMovBAtRmRn | oMovWAtRmRn | oMovLAtRmRn | oMovBAtRmIncRn | oMovWAtRmIncRn | oMovLAtRmIncRn =>
    exact raises_wide_illegal (State.oprexLoadCheck_of_wf hi _) rfl
  | oTstRmRn | oAndRmRn | oXorRmRn | oOrRmRn | oCmpeqRmRn | oCmphsRmRn | oCmpgeRmRn | oCmphiRmRn | oCmpgtRmRn
  | oSubRmRn | oSubcRmRn | oSubvRmRn | oAddRmRn | oAddcRmRn | oAddvRmRn | oMovRmRn | oNotRmRn | oNegcRmRn
  | oNegRmRn | oExtuBRmRn | oExtuWRmRn | oExtsBRmRn | oExtsWRmRn | oMovImm10Rn =>
    exact raises_wide_illegal (State.oprexCheck_of_wfData hi _) rfl
  | _ => exact absurd hi Bool.true_eq_false.mp

/-! ### The FPU check -/

theorem State.fpu_absent {α : Type} {s : State} (h : s.cfg.fpu = .absent) (r : Res α) : s.fpu r = illegal := by
  rw [State.fpu, h]

theorem State.fpu_disabled {α : Type} {s : State} (h : s.cfg.fpu = .basic) (hf : s.fd = true) (r : Res α) :
    s.fpu r = .error (.exc .fpuDisable) := by
  rw [State.fpu, h]
  exact if_pos hf

/-- What FpuCheck says of one instruction (rules R640, R641). -/
def FpuChecked (i : Instr) (s : State) : Prop :=
  (s.cfg.fpu = .absent → Raises i s .illegal) ∧
    (s.cfg.fpu = .basic → s.fd = true → wellFormed i = true → i.fpuRowLegal s = true →
      (i.length = 2 ∨ s.ds = none) → Raises i s .fpuDisable) ∧
    (i.fpuRowLegal s = false → Raises i s .illegal)

/-- A 16-bit FPU row asks for nothing but the FPU. -/
theorem fpuChecked_short {i : Instr} {s : State} {r : Res State} (hl : i.fpuRowLegal s = true)
    (hx : exec i s = short (firstWord i) s (s.fpu r)) : FpuChecked i s := by
  refine ⟨fun ha => raises_short_illegal (State.fpu_absent ha r) hx, fun hb hf _ _ _ => ?_, fun hn => ?_⟩
  · rw [Raises, hx, State.fpu_disabled hb hf, short_error]
  · exact absurd (hl.symm.trans hn) (by decide)

/-- A 32-bit FPU row checks its operands and what it asks of the core, in `g`, and then the FPU. -/
theorem fpuChecked_wide {i : Instr} {s : State} {r : Res State} {g : Bool} (hlen : i.length ≠ 2)
    (hg : (wellFormed i && i.fpuRowLegal s) = g) (hx : exec i s = wide (firstWord i) s (require g (s.fpu r))) :
    FpuChecked i s := by
  refine ⟨fun ha => ?_, fun hb hf hw hl hd => ?_, fun hn => ?_⟩
  · refine raises_wide_illegal ?_ hx
    rw [State.fpu_absent ha]
    cases g <;> rfl
  · rw [← hg, hw, hl] at hx
    rw [Raises, hx, State.fpu_disabled hb hf]
    exact wide_error (hd.resolve_left hlen) _ _
  · exact raises_wide_illegal (require_false (by rw [← hg, hn, Bool.and_false]) _) hx

/-- Settles O26: every FPU row makes its own checks, if any, and then that of the FPU. -/
theorem fpuCheck : Obligations.FpuCheck := by
  intro i s hi
  show FpuChecked i s
  cases i with
  | stsFpulRn | stsFpscrRn | ldsRmFpul | ldsRmFpscr | stsLQFpulAtDecRn | stsLQFpscrAtDecRn | ldsLQAtRmIncFpul
  | ldsLQAtRmIncFpscr | faddFRmFRn | fsubFRmFRn | fmulFRmFRn | fdivFRmFRn | fcmpeqFRmFRn | fcmpgtFRmFRn
  | fmovSAtR0RmFRn | fmovSFRmAtR0Rn | fmovSAtRmFRn | fmovSAtRmIncFRn | fmovSFRmAtRn | fmovSFRmAtDecRn | fmovFRmFRn
  | fstsFRn | fldsFRm | floatFRn | ftrcFRm | fnegFRn | fabsFRn | fsqrtFRn | fldi0FRn | fldi1FRn | fcnvsdFRn
  | fcnvdsFRm | psetmdImm4 | fschg | fpchg | frchg | fmacFRmFRn => exact fpuChecked_short rfl rfl
  | xvFmovSAtRmRoFRn | xvFmovSFRmAtRnRo | xvFmovSAtRmDisp4FRn | xvFmovSAtRmIncFRn | xvFmovSFRmAtRnDisp4
  | xvFmovSFRmAtDecRn =>
    obtain ⟨r, hr⟩ := s.vvForm_eq _ _ _
    exact fpuChecked_wide (by simp [Instr.length, encode]) (Bool.and_true _) (congrArg (wide _ s) hr)
  | xvFmovFRmFRn v n m =>
    obtain ⟨r, hr⟩ := exec_xvFmovFRmFRn_eq v n m s
    exact fpuChecked_wide (by simp [Instr.length, encode]) rfl hr
  | xPsetmdImm12 imm => exact fpuChecked_wide (by simp [Instr.length, encode]) (Bool.and_true _) rfl
  | xFmovDDRmAtRnDisp8s | xFmovDAtRmDisp8sDRn | wFmovSFRmAtRnDisp | wFmovSAtRmDispFRn =>
    exact fpuChecked_wide (by simp [Instr.length, encode]) rfl rfl
  | xFmovSFRmAtRnDisp8s | xFmovSAtRmDisp8sFRn | xLdhf16ImmFpul | xFmovSAtPcDisp13FRn | xFmovSAtPcDisp13XFn
  | xFmovDAtPcDisp13DRn | tFaddFRsFRtFRn | tFsubFRsFRtFRn | tFmulFRsFRtFRn | tFdivFRsFRtFRn =>
    exact fpuChecked_wide (g := true) (by simp [Instr.length, encode]) rfl rfl
  | _ => exact absurd hi Bool.false_ne_true

end Sys2Proof.Machine
end

section
/-! PROOFS. The decoder gives back every encoded instruction (statement O1), and the step
that runs it (statements O2 to O4). -/
namespace Sys2Proof.Machine

/-- The words are as long as the first of them says, and decode to the instruction whatever words follow. -/
structure DecodesTo (jq : Bool) (ws : List IWord) (i : Instr) : Prop where
  length : lengthOf jq (ws.headD 0) = 2 * ws.length
  decode : ∀ tail, decodeWords jq (ws ++ tail) = .ok i

theorem decodeWords_cons_of_reserved {jq : Bool} {w : IWord} {i : Instr} (h : reservedFirst jq w = some i)
    (ws : List IWord) : decodeWords jq (w :: ws) = .ok i := by
  simp only [decodeWords, h]

theorem decodeWords_short {jq : Bool} {w : IWord} (hr : reservedFirst jq w = none) (hl : lengthOf jq w = 2)
    (ws : List IWord) : decodeWords jq (w :: ws) = decode16 jq (nib w 3) (nib w 2) (nib w 1) (nib w 0) := by
  simp only [decodeWords, hr, hl]

theorem decodeWords_wide {jq : Bool} {w w1 : IWord} (hr : reservedFirst jq w = none) (hl : lengthOf jq w = 4)
    (ws : List IWord) :
    decodeWords jq (w :: w1 :: ws) =
      decode32 (nib w 3) (nib w 2) (nib w 1) (nib w 0) (nib w1 3) (nib w1 2) (nib w1 1) (nib w1 0) := by
  simp only [decodeWords, hr, hl]

theorem decodeWords_long {jq : Bool} {w w1 w2 w3 : IWord} (hr : reservedFirst jq w = none) (hl : lengthOf jq w = 8)
    (ws : List IWord) : decodeWords jq (w :: w1 :: w2 :: w3 :: ws) = decode64 (nib w 1) (nib w 0) w1 w2 w3 := by
  simp only [decodeWords, hr, hl]

/-! The same with the nibbles of each word, for each length of the opcode table. -/
namespace DecodesTo
variable {jq : Bool} {a b c d e f g h : Nib} {i : Instr}

theorem reserved {ws : List IWord} (hr : reservedNib jq a b c d = some i)
    (hl : lengthNib jq a b c d = 2 * (ws.length + 1)) : DecodesTo jq (mk4 a b c d :: ws) i where
  length := by simpa [lengthOf] using hl
  decode _ := decodeWords_cons_of_reserved (by simpa [reservedFirst] using hr) _

theorem short (hr : reservedNib jq a b c d = none) (hl : lengthNib jq a b c d = 2)
    (hd : decode16 jq a b c d = .ok i) : DecodesTo jq [mk4 a b c d] i where
  length := by simpa [lengthOf] using hl
  decode tail := (decodeWords_short (by simpa [reservedFirst] using hr) (by simpa [lengthOf] using hl) tail).trans
    (by simpa using hd)

theorem wide (hr : reservedNib jq a b c d = none) (hl : lengthNib jq a b c d = 4)
    (hd : decode32 a b c d e f g h = .ok i) : DecodesTo jq [mk4 a b c d, mk4 e f g h] i where
  length := by simpa [lengthOf] using hl
  decode tail := (decodeWords_wide (by simpa [reservedFirst] using hr) (by simpa [lengthOf] using hl) tail).trans
    (by simpa using hd)

theorem long {w1 w2 w3 : IWord} (hr : reservedNib jq a b c d = none) (hl : lengthNib jq a b c d = 8)
    (hd : decode64 c d w1 w2 w3 = .ok i) : DecodesTo jq [mk4 a b c d, w1, w2, w3] i where
  length := by simpa [lengthOf] using hl
  decode tail := (decodeWords_long (by simpa [reservedFirst] using hr) (by simpa [lengthOf] using hl) tail).trans
    (by simpa using hd)

end DecodesTo

theorem decode32_oprex {e a b c d : Nib} :
    decode32 0x8 0xC 0x0 e a b c d = decodeOprex e a b c d := rfl

theorem decode32_tacb {e a b c d : Nib} : decode32 0x8 0xC 0x3 e a b c d = decodeTacb e a b c d := rfl

/-- The eight numbers of a banked register. -/
theorem bankReg_cases : ∀ b : BankReg, b = 0 ∨ b = 1 ∨ b = 2 ∨ b = 3 ∨ b = 4 ∨ b = 5 ∨ b = 6 ∨ b = 7 := by decide

/-- A seven-bit field from its three bits and its nibble. -/
theorem join7 (x : BitVec 7) : (x.extractLsb' 4 3 ++ x.extractLsb' 0 4 : BitVec (3 + 4)) = x := by
  rw [join_fields x 0 3 4]
  exact whole_field x

theorem reservedNib_8C8 (jq : Bool) (x : BitVec 3) (d : Nib) {p : BitVec 7}
    (hp : (1#1 ++ x : Nib).extractLsb' 0 3 ++ d = p) :
    reservedNib jq 0x8 0xC (1#1 ++ x) d = some (.res8C8x p) :=
  (if_pos (Laws.EncodeLength.top_of_one x)).trans (congrArg _ (congrArg _ hp))

/-- Decoding an encoded instruction in a mode that selects its row, by the shape of its words. -/
theorem decodesTo_encode (i : Instr) (jq : Bool) (h : i.legalIn jq = true) : DecodesTo jq (encode i) i := by
  cases i with
  | movRmRn | movBRmAtRn | movWQRmAtRn | movLRmAtRn | movBAtRmRn | movWQAtRmRn | movLAtRmRn | movBRmAtDecRn |
    movWQRmAtDecRn | movLRmAtDecRn | movBAtRmIncRn | movWQAtRmIncRn | movLAtRmIncRn | movBRmAtR0Rn | movWQRmAtR0Rn |
    movLRmAtR0Rn | movBAtR0RmRn | movWQAtR0RmRn | movLAtR0RmRn | movLRmAtRnDisp | movLAtRmDispRn | movBR0AtRnDisp |
    movWQR0AtRnDisp | movBAtRmDispR0 | movWQAtRmDispR0 | movBR0AtRnInc | movWQR0AtRnInc | movLR0AtRnInc |
    movBAtDecRmR0 | movWQAtDecRmR0 | movLAtDecRmR0 | pushLQRm | popLQRn | movQWAtR0Rn | movQWRmAtR0 | movuaLAtRmR0 |
    movuaLAtRmIncR0 | movuaLR0AtRm | movuaLR0AtDecRm | movtRn | movrtRn | swapBRmRn | swapWRmRn | xtrctRmRn |
    movLAtPcIncRn | movQAtPcIncRn | addRmRn | addcRmRn | addvRmRn | subRmRn | subcRmRn | subvRmRn | negRmRn |
    negcRmRn | cmpeqRmRn | cmphsRmRn | cmpgeRmRn | cmphiRmRn | cmpgtRmRn | cmppzRn | cmpplRn | cmpstrRmRn | dtRn |
    extsBRmRn | extsWRmRn | extuBRmRn | extuWRmRn | mulLRmRn | muluWQRmRn | mulsWQRmRn | dmuluLRmRn | dmulsLRmRn |
    div0sRmRn | div0u | div1RmRn | divuR0Rn | divsR0Rn | macLAtRmIncAtRnInc | macWQAtRmIncAtRnInc | andRmRn | orRmRn
    | xorRmRn | tstRmRn | notRmRn | tasBAtRn | shadRmRn | shldRmRn | shllRn | shalRn | shlrRn | sharRn | rotlRn |
    rotrRn | rotclRn | rotcrRn | shll2Rn | shll8Rn | shll16Rn | shlr2Rn | shlr8Rn | shlr16Rn | shll4Rn | shlr4Rn |
    shll32Rn | shlr32Rn | rot32Rn | movhiR0RHn | movhiRHmR0 | extuLRn | extsLRn | brafRm | bsrfRm | jmpAtRm |
    jsrAtRm | rts | rtsn | rtvnRm | jsrnRm | stcSrRn | stcGbrRn | stcVbrRn | stcSsrRn | stcSpcRn | stcSgrRn |
    stcDbrRn | stsMachRn | stsMaclRn | stsPrRn | stsFpulRn | stsFpscrRn | ldcRmSr | ldcRmGbr | ldcRmVbr | ldcRmSsr |
    ldcRmSpc | ldcRmSgr | ldcRmDbr | ldsRmMach | ldsRmMacl | ldsRmPr | iclrmdDQ | iclrmdJQ | iclrmdJDQ | isetmdDQ |
    isetmdJQ | isetmdJDQ | ldsRmFpul | ldsRmFpscr | clrt | sett | clrs | sets | nott | clrmac | nop | rte | sleep |
    brk | ldtlb | resbank | synco | prefAtRn | movcaLR0AtRn | icbiAtRn | casLRmRnAtR0 | stsLQMachAtDecRn |
    stsLQMaclAtDecRn | stsLQPrAtDecRn | stcLQSgrAtDecRn | stsLQFpulAtDecRn | stsLQFpscrAtDecRn | stcLQDbrAtDecRn |
    stcLQSrAtDecRn | stcLQGbrAtDecRn | stcLQVbrAtDecRn | stcLQSsrAtDecRn | stcLQSpcAtDecRn | ldsLQAtRmIncMach |
    ldsLQAtRmIncMacl | ldsLQAtRmIncPr | ldcLQAtRmIncSgr | ldsLQAtRmIncFpul | ldsLQAtRmIncFpscr | ldcLQAtRmIncDbr |
    ldcLQAtRmIncSr | ldcLQAtRmIncGbr | ldcLQAtRmIncVbr | ldcLQAtRmIncSsr | ldcLQAtRmIncSpc | faddFRmFRn | fsubFRmFRn
    | fmulFRmFRn | fdivFRmFRn | fcmpeqFRmFRn | fcmpgtFRmFRn | fmovSAtR0RmFRn | fmovSFRmAtR0Rn | fmovSAtRmFRn |
    fmovSAtRmIncFRn | fmovSFRmAtRn | fmovSFRmAtDecRn | fmovFRmFRn | fstsFRn | fldsFRm | floatFRn | ftrcFRm | fnegFRn
    | fabsFRn | fsqrtFRn | fldi0FRn | fldi1FRn | fcnvsdFRn | fcnvdsFRm | psetmdImm4 | fschg | fpchg | frchg |
    fmacFRmFRn =>
    exact .short rfl rfl rfl
  | movImmRn | movWQAtPcDispRn | movLAtPcDispRn | addImmRn | cmpeqImmR0 | bt | bf | bts | bfs =>
    exact .short rfl rfl (congrArg Decoded.ok (by rw [join8]))
  | bra | bsr =>
    exact .short rfl rfl (congrArg Decoded.ok (by rw [join12]))
  | movaAtPcDispR0 | andImmR0 | orImmR0 | xorImmR0 | tstImmR0 | trapaImm =>
    cases jq <;> exact .short rfl rfl (congrArg Decoded.ok (by rw [join8]))
  | movBR0AtGbrDisp | movWQR0AtGbrDisp | movLR0AtGbrDisp | movBAtGbrDispR0 | movWQAtGbrDispR0 | movLAtGbrDispR0 |
    andBImmAtGbrR0 | orBImmAtGbrR0 | xorBImmAtGbrR0 | tstBImmAtGbrR0 =>
    cases jq with
    | false => exact .short rfl rfl (congrArg Decoded.ok (by rw [join8]))
    | true => exact absurd h Bool.false_ne_true
  | stcRmBRn _ b | ldcRmRnB _ b | stcLQRmBAtDecRn _ b | ldcLQAtRmIncRnB _ b =>
    obtain rfl | rfl | rfl | rfl | rfl | rfl | rfl | rfl := bankReg_cases b <;> exact .short rfl rfl rfl
  | xvFmovSAtRmRoFRn | xvFmovSFRmAtRnRo | xvFmovSAtRmDisp4FRn | xvFmovSAtRmIncFRn | xvFmovSFRmAtRnDisp4 |
    xvFmovSFRmAtDecRn | xMovBRmAtRnRoDisp4 | xMovWRmAtRnRoDisp4 | xMovLRmAtRnRoDisp4 | xMovQRmAtRnRoDisp4 |
    xMovBAtRmRoDisp4Rn | xMovWAtRmRoDisp4Rn | xMovLAtRmRoDisp4Rn | xMovQAtRmRoDisp4Rn | xLeaBAtRmRoDisp4Rn |
    xLeaWAtRmRoDisp4Rn | xLeaLAtRmRoDisp4Rn | xLeaQAtRmRoDisp4Rn | tAddRsRtRnQuad | tSubRsRtRnQuad | tMulRsRtRnQuad
    | tAndRsRtRnQuad | tOrRsRtRnQuad | tXorRsRtRnQuad | tShllRsRtRnQuad | tShlrRsRtRnQuad | tSharRsRtRnQuad =>
    exact .wide rfl rfl rfl
  | xvFmovFRmFRn | xMovLRmAtRnRoDisp8s | xMovLAtRmRoDisp8sRn | xMovBRmAtRnDisp8s | xMovWRmAtRnDisp8s |
    xMovLRmAtRnDisp8s | xMovQRmAtRnDisp8s | xFmovSFRmAtRnDisp8s | xFmovDDRmAtRnDisp8s | xFmovSAtRmDisp8sFRn |
    xFmovDAtRmDisp8sDRn | xAndRmImm8Rn | xXorRmImm8Rn | xOrRmImm8Rn | xMullRmImm8Rn | xSubRmImm8Rn | xAddRmImm8Rn |
    xMovBImmAtRn | xMovWImmAtRn | xMovLImmAtRn | xMovQImmAtRn | xMovBImmAtDecRn | xMovWImmAtDecRn | xMovLImmAtDecRn
    | xMovQImmAtDecRn | xShadRmImmRn | xShldRmImmRn | xMovBAtRmDisp8sRn | xMovWAtRmDisp8sRn | xMovLAtRmDisp8sRn |
    xMovQAtRmDisp8sRn | xLeaBAtRmDisp8sRn | xLeaWAtRmDisp8sRn | xLeaLAtRmDisp8sRn | xLeaQAtRmDisp8sRn |
    xMovuBAtRmDisp8sRn | xMovuWAtRmDisp8sRn | xMovuLAtRmDisp8sRn =>
    exact .wide rfl rfl (congrArg Decoded.ok (by rw [join8]))
  | xPsetmdImm12 | xCmpeqImm12Rn | xCmphsImm12Rn | xCmpgeImm12Rn | xCmphiImm12Rn | xCmpgtImm12Rn | xTstImm12Rn |
    xAndImm12Rn | xXorImm12Rn | xOrImm12Rn | wMovBRmAtRnDisp | wMovWRmAtRnDisp | wMovLRmAtRnDisp | wFmovSFRmAtRnDisp
    | wMovBAtRmDispRn | wMovWAtRmDispRn | wMovLAtRmDispRn | wFmovSAtRmDispFRn | wMovuBAtRmDispRn | wMovuWAtRmDispRn
    | resTacb9 | resTacbA | resTacbB =>
    exact .wide rfl rfl (congrArg Decoded.ok (by rw [join12]))
  | xAddImm16Rn | xBranDisp16 | xBsrnDisp16 | xCmpeqImm16R0 | xBtDisp16 | xLdhf16ImmFpul | xBfDisp16 | xLdsh16ImmR0
    | xBtsDisp16 | xBfsDisp16 | xMovImm16Rn =>
    exact .wide rfl rfl (congrArg Decoded.ok (by rw [join16]))
  | xBraDisp20 | xBsrDisp20 | movi20ImmRn | movi20sImmRn =>
    exact .wide rfl rfl (congrArg Decoded.ok (by rw [join20]))
  | movi24Imm24R0 =>
    exact .wide rfl rfl (congrArg Decoded.ok (by rw [join24]))
  | xMovaAtPcDisp13Rn | xMovuWAtPcDisp13Rn | xFmovSAtPcDisp13FRn | xMovuWAtPcDisp13RHn | xFmovSAtPcDisp13XFn |
    xMovuWAtPcDisp13RQn | xFmovDAtPcDisp13YDn | xFmovDAtPcDisp13DRn | xMovLAtPcDisp13Rn | xMovWAtPcDisp13Rn |
    xMovLAtPcDisp13RHn | xMovWAtPcDisp13RHn | xMovLAtPcDisp13RQn | xMovWAtPcDisp13RQn | xMovuLAtPcDisp13RQn |
    xMovQAtPcDisp13RQn =>
    exact .wide rfl rfl (by simp [decode32, decodeXpfx0, decodeX9, decodeXD])
  | oMovQRmAtRnDisp5 | oMovQAtRmDisp5Rn | oMovLRmAtRnDisp5 | oMovLAtRmDisp5Rn | oMovBRmAtRn | oMovWRmAtRn |
    oMovLRmAtRn | oMovBRmAtDecRn | oMovWRmAtDecRn | oMovLRmAtDecRn | oTstRmRn | oAndRmRn | oXorRmRn | oOrRmRn |
    oCmpeqRmRn | oCmphsRmRn | oCmpgeRmRn | oCmphiRmRn | oCmpgtRmRn | oSubRmRn | oSubcRmRn | oSubvRmRn | oAddRmRn |
    oAddcRmRn | oAddvRmRn | oMovBAtRmRn | oMovWAtRmRn | oMovLAtRmRn | oMovRmRn | oMovBAtRmIncRn | oMovWAtRmIncRn |
    oMovLAtRmIncRn | oNotRmRn | oNegcRmRn | oNegRmRn | oExtuBRmRn | oExtuWRmRn | oExtsBRmRn | oExtsWRmRn =>
    exact .wide rfl rfl (decode32_oprex.trans (by simp [decodeOprex, decodeO1, decodeO2, decodeO3, decodeO5, decodeO6]))
  | oMovImm10Rn =>
    exact .wide rfl rfl (decode32_oprex.trans (by simp [decodeOprex, decodeOE]))
  | tAddRsRtRn | tSubRsRtRn | tMulRsRtRn | tAndRsRtRn | tOrRsRtRn | tXorRsRtRn | tShllRsRtRn | tShlrRsRtRn |
    tSharRsRtRn | tAddLRsImm5Rn | tSubLRsImm5Rn | tShllLRsImm5Rn | tShlrLRsImm5Rn | tSharLRsImm5Rn | tAddQRsImm6Rn |
    tSubQRsImm6Rn | tShllQRsImm6Rn | tShlrQRsImm6Rn | tSharQRsImm6Rn | tFaddFRsFRtFRn | tFsubFRsFRtFRn |
    tFmulFRsFRtFRn | tFdivFRsFRtFRn =>
    exact .wide rfl rfl (decode32_tacb.trans (by simp [decodeTacb]))
  | zAddQImm48Rn | zBraDisp48 | zBsrDisp48 | zMovQImm48Rn =>
    cases jq with
    | false => exact absurd h Bool.false_ne_true
    | true => exact .long rfl rfl (congrArg Decoded.ok (by
        rw [mk4_fields _ 32, mk4_fields _ 16, mk4_fields _ 0, join48]))
  | resXpfx1 | resXpfx3 | resXpfx4 | resXpfx5 | resXpfv0 | res3xx9 =>
    exact .reserved (congrArg some (by rw [join8])) rfl
  | res8C1x | res8C2x | res8C4x | res8C5x | res8C6x | res8C7x =>
    exact .reserved rfl rfl
  | resXpfy0 | resXpfy1 | resXpfz1 =>
    cases jq with
    | false => exact absurd h Bool.false_ne_true
    | true => exact .reserved (congrArg some (by rw [join8])) rfl
  | res8C8x p =>
    exact .reserved (reservedNib_8C8 _ _ _ (by rw [extract_join13_lo, join7]))
      (if_pos (Laws.EncodeLength.top_of_one _))

/-- Settles O1: the words by the shape of the encoding, the bytes because the words are read back from them. -/
theorem roundTrip : Obligations.RoundTrip := by
  intro i jq _ hmode
  have h := (decodesTo_encode i jq hmode).decode
  refine ⟨h, fun e bs => ?_⟩
  rw [decode, encodeBytes, wordsOfBytes_flatMap]
  exact h _

/-! ### A step on encoded words -/

theorem wordOfBytes_of_wordBytes {e : Endian} {b0 b1 : Byte} {w : IWord} (h : [b0, b1] = wordBytes e w) :
    wordOfBytes e b0 b1 = w := by
  have hw := wordsOfBytes_wordBytes e w []
  rw [← h] at hw
  exact (List.cons.inj hw).1

/-- A fetch of a word that stands at the address and is not stale draws nothing. -/
theorem State.fetch16_of_codeAt {s : State} {a : Quad} {w : IWord} {ws : List IWord} (h : s.CodeAt a (w :: ws)) :
    s.fetch16 a = .ok (w, s) := by
  obtain ⟨⟨p, hp, hb⟩, hs, -⟩ := h
  simp [State.fetch16, hp, hs, Except.map, wordOfBytes_of_wordBytes hb]

theorem State.fetchRest_of_codeAt {s : State} : ∀ {ws : List IWord} {a : Quad}, s.CodeAt a ws →
    s.fetchRest a ws.length = .ok (ws, s)
  | [], _, _ => rfl
  | w :: ws, a, h => by
    have hrest : s.CodeAt (a + 2) ws := h.2.2
    simp only [List.length_cons, State.fetchRest, State.fetch16_of_codeAt h, State.fetchRest_of_codeAt hrest]

theorem encode_eq_cons (i : Instr) : encode i = firstWord i :: (encode i).tail := by
  cases i <;> rfl

/-- The fetch of an encoded instruction is that instruction, unless its first word alone is illegal. -/
theorem State.fetchInstr_of_codeAt {s : State} {i : Instr} (hmode : i.legalIn s.jq = true)
    (hc : s.CodeAt s.pcn (encode i)) :
    s.fetchInstr = if s.firstWordIllegal (firstWord i) then .error ⟨firstWord i, s, .exc .illegal⟩ else .ok (i, s) := by
  obtain ⟨hlen, hdec⟩ := decodesTo_encode i s.jq hmode
  have hfull := hdec []
  rw [List.append_nil] at hfull
  rw [encode_eq_cons] at hlen hc hfull
  have hrest : s.fetchRest (s.pcn + 2) (lengthOf s.jq (firstWord i) / 2 - 1) = .ok ((encode i).tail, s) := by
    have hn : lengthOf s.jq (firstWord i) / 2 - 1 = (encode i).tail.length := by
      simp only [List.headD_cons, List.length_cons] at hlen
      omega
    rw [hn]
    exact State.fetchRest_of_codeAt hc.2.2
  rw [State.fetchInstr, State.fetch16_of_codeAt hc]
  simp only [hrest, hfull]
  cases hres : reservedFirst s.jq (firstWord i) with
  | none => rfl
  | some j =>
    have hj := decodeWords_cons_of_reserved hres (encode i).tail
    obtain rfl : i = j := by simpa [hfull] using hj
    rfl

theorem isMisc32_mk4 (a b c d : Nib) :
    isMisc32 (mk4 a b c d) = ((a == 0 && (d == 0 || d == 1)) || (a == 3 && d == 1)) := by simp [isMisc32]

theorem isXpfz0_mk4 (a b c d : Nib) : isXpfz0 (mk4 a b c d) = (a == 0xC && b == 0xE) := by simp [isXpfz0]

theorem raises_of_isMisc32 {i : Instr} {s : State} (hc : s.cfg.hasMisc32 = false)
    (h : isMisc32 (firstWord i) = true) : Raises i s .illegal := by
  cases i with
  | movi20ImmRn | movi20sImmRn | wMovBRmAtRnDisp | wMovWRmAtRnDisp | wMovLRmAtRnDisp | wFmovSFRmAtRnDisp
  | wMovBAtRmDispRn | wMovWAtRmDispRn | wMovLAtRmDispRn | wFmovSAtRmDispFRn | wMovuBAtRmDispRn | wMovuWAtRmDispRn =>
    exact raises_wide_illegal (require_false hc _) rfl
  | _ => exact absurd ((isMisc32_mk4 _ _ _ _).symm.trans h) Bool.false_ne_true

theorem raises_veryWide_illegal {i : Instr} {s : State} {r : Res State} (hr : r = illegal)
    (hx : exec i s = veryWide (firstWord i) s r) : Raises i s .illegal := by
  rw [Raises, hx, hr]
  exact noSlot_error_illegal _ s

theorem raises_of_isXpfz0 {i : Instr} {s : State} (hm : i.legalIn s.jq = true) (hj : s.jq = true) (h : isXpfz0 (firstWord i) = true) (hu : (!s.cfg.hasXpfz0 || unallocatedXpfz0 (firstWord i)) = true) :
    Raises i s .illegal := by
  cases i with
  | zAddQImm48Rn | zMovQImm48Rn =>
    have hc : s.cfg.hasXpfz0 = false := by simpa [unallocatedXpfz0, firstWord, encode] using hu
    exact raises_veryWide_illegal (require_false hc _) rfl
  | zBraDisp48 | zBsrDisp48 =>
    have hc : s.cfg.hasXpfz0 = false := by simpa [unallocatedXpfz0, firstWord, encode] using hu
    exact raises_noSlot_illegal (require_false hc _) rfl
  | xorBImmAtGbrR0 => simp [Instr.legalIn, Instr.mode, hj] at hm
  | _ => exact absurd ((isXpfz0_mk4 _ _ _ _).symm.trans h) Bool.false_ne_true

/-- What the check of the first word refuses, `exec` refuses as well. -/
theorem raises_of_firstWordIllegal {i : Instr} {s : State} (hmode : i.legalIn s.jq = true)
    (h : s.firstWordIllegal (firstWord i) = true) : Raises i s .illegal := by
  simp only [State.firstWordIllegal, Bool.or_eq_true, Bool.and_eq_true, Bool.not_eq_true'] at h
  obtain (⟨hd, hl⟩ | ⟨hc, hw⟩) | ⟨⟨hj, hw⟩, hu⟩ := h
  · have hlen := (decodesTo_encode i s.jq hmode).length
    refine slotRules i s hd (.inl fun h2 => bne_iff_ne.mp hl (hlen.trans h2))
  · exact raises_of_isMisc32 hc hw
  · exact raises_of_isXpfz0 hmode hj hw (by simpa using hu)

section
variable {s : State} (hr : s.resetReq = false) (ha : s.acceptable = none) (hs : s.sleeping = false)
include hr ha hs

theorem step_of_fetchInstr_ok {i : Instr} {s' : State} (hf : s.fetchInstr = .ok (i, s')) : step s = exec i s' := by
  simp only [step, hr, ha, hs, hf, Bool.false_eq_true, if_false]

theorem step_of_fetchInstr_error {x : NoFetch} (hf : s.fetchInstr = .error x) :
    step s = settle x.word x.state (.error x.stop) := by
  simp only [step, hr, ha, hs, hf, Bool.false_eq_true, if_false]

end

/-- Settles O3. -/
theorem stepRunsFetched : Obligations.StepRunsFetched :=
  fun _ _ _ hr ha hs hf => step_of_fetchInstr_ok hr ha hs hf

/-- Settles O4: the fetch gives the instruction and draws nothing, and where it stops after the first word, `exec` takes
the same trap. -/
theorem stepRunsDecoded : Obligations.StepRunsDecoded := by
  intro s i hr ha hs _ hmode hc
  have hf := State.fetchInstr_of_codeAt hmode hc
  cases hw : s.firstWordIllegal (firstWord i) with
  | false =>
    rw [hw, if_neg Bool.false_ne_true] at hf
    exact step_of_fetchInstr_ok hr ha hs hf
  | true =>
    rw [hw, if_pos rfl] at hf
    exact (step_of_fetchInstr_error hr ha hs hf).trans (raises_of_firstWordIllegal hmode hw).symm

/-- Settles O2: each line is a short evaluation of the decoder. -/
theorem decodeExamples : Obligations.DecodeExamples := by
  refine ⟨rfl, rfl, rfl, rfl, rfl, rfl, rfl, rfl, rfl, rfl, rfl, rfl, rfl⟩

end Sys2Proof.Machine
end

section
/-! PROOFS. In user mode bank B is neither read nor written (statement O14). -/
namespace Sys2Proof.Machine

/-! ### The same state with other contents of bank B -/

/-- The state with other contents of bank B. -/
def State.withGb (s : State) (v : Vector Quad 8) : State := { s with gb := v }

@[simp] theorem State.withGb_cfg (s : State) (v : Vector Quad 8) : (s.withGb v).cfg = s.cfg := rfl
@[simp] theorem State.withGb_ga (s : State) (v : Vector Quad 8) : (s.withGb v).ga = s.ga := rfl
@[simp] theorem State.withGb_g (s : State) (v : Vector Quad 8) : (s.withGb v).g = s.g := rfl
@[simp] theorem State.withGb_pc (s : State) (v : Vector Quad 8) : (s.withGb v).pc = s.pc := rfl
@[simp] theorem State.withGb_sr (s : State) (v : Vector Quad 8) : (s.withGb v).sr = s.sr := rfl
@[simp] theorem State.withGb_gbr (s : State) (v : Vector Quad 8) : (s.withGb v).gbr = s.gbr := rfl
@[simp] theorem State.withGb_vbr (s : State) (v : Vector Quad 8) : (s.withGb v).vbr = s.vbr := rfl
@[simp] theorem State.withGb_ssr (s : State) (v : Vector Quad 8) : (s.withGb v).ssr = s.ssr := rfl
@[simp] theorem State.withGb_spc (s : State) (v : Vector Quad 8) : (s.withGb v).spc = s.spc := rfl
@[simp] theorem State.withGb_sgr (s : State) (v : Vector Quad 8) : (s.withGb v).sgr = s.sgr := rfl
@[simp] theorem State.withGb_dbr (s : State) (v : Vector Quad 8) : (s.withGb v).dbr = s.dbr := rfl
@[simp] theorem State.withGb_mach (s : State) (v : Vector Quad 8) : (s.withGb v).mach = s.mach := rfl
@[simp] theorem State.withGb_macl (s : State) (v : Vector Quad 8) : (s.withGb v).macl = s.macl := rfl
@[simp] theorem State.withGb_pr (s : State) (v : Vector Quad 8) : (s.withGb v).pr = s.pr := rfl
@[simp] theorem State.withGb_fpul (s : State) (v : Vector Quad 8) : (s.withGb v).fpul = s.fpul := rfl
@[simp] theorem State.withGb_fpscr (s : State) (v : Vector Quad 8) : (s.withGb v).fpscr = s.fpscr := rfl
@[simp] theorem State.withGb_ds (s : State) (v : Vector Quad 8) : (s.withGb v).ds = s.ds := rfl
@[simp] theorem State.withGb_stale (s : State) (v : Vector Quad 8) : (s.withGb v).stale = s.stale := rfl
@[simp] theorem State.withGb_history (s : State) (v : Vector Quad 8) : (s.withGb v).history = s.history := rfl
@[simp] theorem State.withGb_mem (s : State) (v : Vector Quad 8) : (s.withGb v).mem = s.mem := rfl
@[simp] theorem State.withGb_freeCount (s : State) (v : Vector Quad 8) : (s.withGb v).freeCount = s.freeCount := rfl
@[simp] theorem State.withGb_is64 (s : State) (v : Vector Quad 8) : (s.withGb v).is64 = s.is64 := rfl
@[simp] theorem State.withGb_jq (s : State) (v : Vector Quad 8) : (s.withGb v).jq = s.jq := rfl
@[simp] theorem State.withGb_dq (s : State) (v : Vector Quad 8) : (s.withGb v).dq = s.dq := rfl
@[simp] theorem State.withGb_hasRh (s : State) (v : Vector Quad 8) : (s.withGb v).hasRh = s.hasRh := rfl
@[simp] theorem State.withGb_md (s : State) (v : Vector Quad 8) : (s.withGb v).md = s.md := rfl
@[simp] theorem State.withGb_bankB (s : State) (v : Vector Quad 8) : (s.withGb v).bankB = s.bankB := rfl
@[simp] theorem State.withGb_t (s : State) (v : Vector Quad 8) : (s.withGb v).t = s.t := rfl
@[simp] theorem State.withGb_q (s : State) (v : Vector Quad 8) : (s.withGb v).q = s.q := rfl
@[simp] theorem State.withGb_m (s : State) (v : Vector Quad 8) : (s.withGb v).m = s.m := rfl
@[simp] theorem State.withGb_sat (s : State) (v : Vector Quad 8) : (s.withGb v).sat = s.sat := rfl
@[simp] theorem State.withGb_pcn (s : State) (v : Vector Quad 8) : (s.withGb v).pcn = s.pcn := rfl
@[simp] theorem State.withGb_lq (s : State) (v : Vector Quad 8) : (s.withGb v).lq = s.lq := rfl
@[simp] theorem State.withGb_wq (s : State) (v : Vector Quad 8) : (s.withGb v).wq = s.wq := rfl
@[simp] theorem State.withGb_qw (s : State) (v : Vector Quad 8) : (s.withGb v).qw = s.qw := rfl
@[simp] theorem State.withGb_pcb16 (s : State) (v : Vector Quad 8) : (s.withGb v).pcb16 = s.pcb16 := rfl
@[simp] theorem State.withGb_pcb32 (s : State) (v : Vector Quad 8) : (s.withGb v).pcb32 = s.pcb32 := rfl
@[simp] theorem State.withGb_fpPr (s : State) (v : Vector Quad 8) : (s.withGb v).fpPr = s.fpPr := rfl
@[simp] theorem State.withGb_fpSz (s : State) (v : Vector Quad 8) : (s.withGb v).fpSz = s.fpSz := rfl
@[simp] theorem State.withGb_xferKind (s : State) (v : Vector Quad 8) : (s.withGb v).xferKind = s.xferKind := rfl

section
variable (s : State) (v : Vector Quad 8)

@[simp] theorem State.withGb_addr (a : Quad) : (s.withGb v).addr a = s.addr a := rfl
@[simp] theorem State.withGb_wqDisp (d : BitVec 4) : (s.withGb v).wqDisp d = s.wqDisp d := rfl
@[simp] theorem State.withGb_tacbImm {w : Nat} (i : BitVec w) : (s.withGb v).tacbImm i = s.tacbImm i := rfl
@[simp] theorem State.withGb_fx (x : Bool) (i : Reg) : (s.withGb v).fx x i = s.fx x i := rfl
@[simp] theorem State.withGb_pair (x : Bool) (i : Reg) : (s.withGb v).pair x i = s.pair x i := rfl
@[simp] theorem State.withGb_fpReg (d b : Bool) (n : Reg) : (s.withGb v).fpReg d b n = s.fpReg d b n := rfl
@[simp] theorem State.withGb_opd (n : Reg) : (s.withGb v).opd n = s.opd n := rfl
@[simp] theorem State.withGb_fpBin (op : FpOp) (d : Bool) (a b : Quad) : (s.withGb v).fpBin op d a b = s.fpBin op d a b := rfl
@[simp] theorem State.withGb_fpSqrt (d : Bool) (a : Quad) : (s.withGb v).fpSqrt d a = s.fpSqrt d a := rfl
@[simp] theorem State.withGb_fpMac (d : Bool) (a b c : Quad) : (s.withGb v).fpMac d a b c = s.fpMac d a b c := rfl
@[simp] theorem State.withGb_fpEq (d : Bool) (a b : Quad) : (s.withGb v).fpEq d a b = s.fpEq d a b := rfl
@[simp] theorem State.withGb_fpGt (d : Bool) (a b : Quad) : (s.withGb v).fpGt d a b = s.fpGt d a b := rfl
@[simp] theorem State.withGb_fpFromInt (d : Bool) (i : Dword) : (s.withGb v).fpFromInt d i = s.fpFromInt d i := rfl
@[simp] theorem State.withGb_fpToInt (d : Bool) (a : Quad) : (s.withGb v).fpToInt d a = s.fpToInt d a := rfl
@[simp] theorem State.withGb_fpWiden (a : Dword) : (s.withGb v).fpWiden a = s.fpWiden a := rfl
@[simp] theorem State.withGb_fpNarrow (a : Quad) : (s.withGb v).fpNarrow a = s.fpNarrow a := rfl
@[simp] theorem State.withGb_fpHalf (h : BitVec 16) : (s.withGb v).fpHalf h = s.fpHalf h := rfl
@[simp] theorem State.withGb_sysOf {x : SysReg} (h : ∀ b, x ≠ .bank b) : (s.withGb v).sys x = s.sys x := by
  cases x with
  | bank b => exact absurd rfl (h b)
  | _ => rfl
@[simp] theorem State.withGb_resolve (k : Access) (md : Bool) (al : Nat) (a : Quad) :
    (s.withGb v).resolve k md al a = s.resolve k md al a := rfl
@[simp] theorem State.withGb_load (a : Quad) (n : Nat) : (s.withGb v).load a n = s.load a n := rfl
@[simp] theorem State.withGb_loadU (a : Quad) (n : Nat) : (s.withGb v).loadU a n = s.loadU a n := rfl

/-! The checks say the same; what comes after a check may be changed under it. -/

@[simp] theorem State.withGb_fpu {α : Type} (r : Res α) : (s.withGb v).fpu r = s.fpu r := rfl
@[simp] theorem State.withGb_needRh {α : Type} (r : Res α) : (s.withGb v).needRh r = s.needRh r := rfl
@[simp] theorem State.withGb_needJq {α : Type} (r : Res α) : (s.withGb v).needJq r = s.needJq r := rfl
@[simp] theorem State.withGb_needNotJq {α : Type} (r : Res α) : (s.withGb v).needNotJq r = s.needNotJq r := rfl
@[simp] theorem State.withGb_priv {α : Type} (r : Res α) : (s.withGb v).priv r = s.priv r := rfl
@[simp] theorem State.withGb_bothChecked (a : Quad) (n : Nat) (r : Res State) :
    (s.withGb v).bothChecked a n r = s.bothChecked a n r := rfl
@[simp] theorem State.withGb_oprexCheck (q nx mx bx : Bool) (r : Res State) :
    (s.withGb v).oprexCheck q nx mx bx r = s.oprexCheck q nx mx bx r := rfl
@[simp] theorem State.withGb_oprexMemCheck (q ax dx : Bool) (r : Res State) :
    (s.withGb v).oprexMemCheck q ax dx r = s.oprexMemCheck q ax dx r := rfl
@[simp] theorem State.withGb_oprexStoreCheck (q ax dx bx : Bool) (r : Res State) :
    (s.withGb v).oprexStoreCheck q ax dx bx r = s.oprexStoreCheck q ax dx bx r := rfl
@[simp] theorem State.withGb_oprexLoadCheck (q ax dx bx : Bool) (r : Res State) :
    (s.withGb v).oprexLoadCheck q ax dx bx r = s.oprexLoadCheck q ax dx bx r := rfl
@[simp] theorem State.withGb_tacbCheck (nx sx tx : Bool) (r : Res State) :
    (s.withGb v).tacbCheck nx sx tx r = s.tacbCheck nx sx tx r := rfl
@[simp] theorem State.withGb_vvForm (w : BitVec 4) (b : Bool) (f : Xfer → Res State) :
    (s.withGb v).vvForm w b f = s.vvForm w b f := rfl

end

@[simp] theorem map_error {α β : Type} (e : Stop) (f : α → β) : (Except.error e : Res α).map f = .error e := rfl
@[simp] theorem map_ok {α β : Type} (x : α) (f : α → β) : (Except.ok x : Res α).map f = .ok (f x) := rfl
@[simp] theorem map_map {α β γ : Type} (r : Res α) (f : α → β) (g : β → γ) :
    (r.map f).map g = r.map fun x => g (f x) := by cases r <;> rfl
@[simp] theorem map_illegal {α β : Type} (f : α → β) : (illegal : Res α).map f = illegal := rfl

section
variable (s : State) (f : State → State) (r : Res State)

@[simp] theorem map_require (b : Bool) : (require b r).map f = require b (r.map f) := by cases b <;> rfl
@[simp] theorem State.map_fpu : (s.fpu r).map f = s.fpu (r.map f) := by
  unfold State.fpu
  cases s.cfg.fpu with
  | absent => rfl
  | basic => cases s.fd <;> rfl
@[simp] theorem State.map_needRh : (s.needRh r).map f = s.needRh (r.map f) := map_require f r s.hasRh
@[simp] theorem State.map_needJq : (s.needJq r).map f = s.needJq (r.map f) := map_require f r s.jq
@[simp] theorem State.map_needNotJq : (s.needNotJq r).map f = s.needNotJq (r.map f) := by
  unfold State.needNotJq
  cases s.jq <;> rfl
@[simp] theorem State.map_priv : (s.priv r).map f = s.priv (r.map f) := map_require f r s.md
@[simp] theorem State.map_bothChecked (a : Quad) (n : Nat) : (s.bothChecked a n r).map f = s.bothChecked a n (r.map f) := by
  unfold State.bothChecked
  split <;> rfl
@[simp] theorem State.map_oprexCheck (q nx mx bx : Bool) :
    (s.oprexCheck q nx mx bx r).map f = s.oprexCheck q nx mx bx (r.map f) := map_require f r _
@[simp] theorem State.map_oprexMemCheck (q ax dx : Bool) :
    (s.oprexMemCheck q ax dx r).map f = s.oprexMemCheck q ax dx (r.map f) := map_require f r _
@[simp] theorem State.map_oprexStoreCheck (q ax dx bx : Bool) :
    (s.oprexStoreCheck q ax dx bx r).map f = s.oprexStoreCheck q ax dx bx (r.map f) := by
  simp [State.oprexStoreCheck]
@[simp] theorem State.map_oprexLoadCheck (q ax dx bx : Bool) :
    (s.oprexLoadCheck q ax dx bx r).map f = s.oprexLoadCheck q ax dx bx (r.map f) := by
  simp [State.oprexLoadCheck]
@[simp] theorem State.map_tacbCheck (nx sx tx : Bool) :
    (s.tacbCheck nx sx tx r).map f = s.tacbCheck nx sx tx (r.map f) := map_require f r _
@[simp] theorem State.map_vvForm (w : BitVec 4) (b : Bool) (g : Xfer → Res State) :
    (s.vvForm w b g).map f = s.vvForm w b fun k => (g k).map f := by
  unfold State.vvForm
  cases vvKind w <;> simp

end

/-! ### Writes that no bank matters to -/

section
variable (s : State) (v : Vector Quad 8)

@[simp] theorem State.withGb_withMem (m : Memory) (l : List Nat) (h : List CacheEvent) :
    (s.withGb v).withMem m l h = (s.withMem m l h).withGb v := rfl
@[simp] theorem State.withMem_md (m : Memory) (l : List Nat) (h : List CacheEvent) : (s.withMem m l h).md = s.md := rfl
@[simp] theorem State.withGb_setSrBit (i : Nat) (b : Bool) : (s.withGb v).setSrBit i b = (s.setSrBit i b).withGb v := rfl
@[simp] theorem State.withGb_setT (b : Bool) : (s.withGb v).setT b = (s.setT b).withGb v := rfl
@[simp] theorem State.withGb_jump (a : Quad) : (s.withGb v).jump a = (s.jump a).withGb v := rfl
@[simp] theorem State.withGb_delayedBranch (l a : Quad) :
    (s.withGb v).delayedBranch l a = (s.delayedBranch l a).withGb v := rfl
@[simp] theorem State.withGb_advance (p l : Quad) : (s.withGb v).advance p l = (s.advance p l).withGb v := by
  unfold State.advance
  rw [State.withGb_ds]
  cases s.ds <;> rfl
@[simp] theorem State.withGb_branchIf (c : Bool) (l a : Quad) : (s.withGb v).branchIf c l a = (s.branchIf c l a).withGb v := by
  cases c
  · exact s.withGb_advance v s.pcn l
  · rfl
@[simp] theorem State.withGb_delayedIf (c : Bool) (l a : Quad) :
    (s.withGb v).delayedIf c l a = (s.delayedIf c l a).withGb v := by
  cases c
  · exact s.withGb_advance v s.pcn l
  · rfl
@[simp] theorem State.withGb_setSys (q : Bool) {x : SysReg} (h : ∀ b, x ≠ .bank b) (a : Quad) :
    (s.withGb v).setSys q x a = (s.setSys q x a).withGb v := by
  cases x with
  | bank b => exact absurd rfl (h b)
  | _ => rfl
@[simp] theorem State.withGb_link (a : Quad) : (s.withGb v).link a = (s.link a).withGb v := rfl
@[simp] theorem State.withGb_setMac32 (p : Quad) : (s.withGb v).setMac32 p = (s.setMac32 p).withGb v := rfl
@[simp] theorem State.withGb_setMac128 (p : BitVec 128) : (s.withGb v).setMac128 p = (s.setMac128 p).withGb v := rfl
@[simp] theorem State.withGb_mulu (a b : Quad) : (s.withGb v).mulu a b = (s.mulu a b).withGb v := by
  unfold State.mulu
  rw [State.withGb_dq]
  cases s.dq <;> rfl
@[simp] theorem State.withGb_muls (a b : Quad) : (s.withGb v).muls a b = (s.muls a b).withGb v := by
  unfold State.muls
  rw [State.withGb_dq]
  cases s.dq <;> rfl
@[simp] theorem State.withGb_div0 (q m : Bool) : (s.withGb v).div0 q m = (s.div0 q m).withGb v := rfl
@[simp] theorem State.withGb_cmpOp (f : (w : Nat) → BitVec w → BitVec w → Bool) (a b : Quad) :
    (s.withGb v).cmpOp f a b = (s.cmpOp f a b).withGb v := rfl
@[simp] theorem State.withGb_icbi (a : Quad) : (s.withGb v).icbi a = (s.icbi a).withGb v := rfl
@[simp] theorem State.withGb_modeOp (u : State) : (s.withGb v).modeOp (u.withGb v) = (s.modeOp u).map (·.withGb v) := by
  unfold State.modeOp
  rw [State.withGb_is64, State.withGb_cfg]
  cases s.is64 <;> cases s.cfg.modeOpsPrivileged <;> simp
@[simp] theorem State.withGb_setFx (x : Bool) (i : Reg) (a : Dword) :
    (s.withGb v).setFx x i a = (s.setFx x i a).withGb v := by
  have hf : (s.withGb v).fpFr = s.fpFr := rfl
  unfold State.setFx
  rw [hf]
  cases x ^^ s.fpFr <;> rfl
@[simp] theorem State.withGb_setPair (b : Bool) (n : Reg) (a : Quad) :
    (s.withGb v).setPair b n a = (s.setPair b n a).withGb v := by simp [State.setPair]
@[simp] theorem State.withGb_setFpReg (d b : Bool) (n : Reg) (a : Quad) :
    (s.withGb v).setFpReg d b n a = (s.setFpReg d b n a).withGb v := by cases d <;> simp [State.setFpReg]
@[simp] theorem State.withGb_setOpd (n : Reg) (a : Quad) : (s.withGb v).setOpd n a = (s.setOpd n a).withGb v :=
  s.withGb_setFpReg v _ _ n a
@[simp] theorem State.withGb_fpSign (n : Reg) (f : Dword → Dword) :
    (s.withGb v).fpSign n f = (s.fpSign n f).withGb v := by
  unfold State.fpSign
  rw [State.withGb_fpPr]
  cases s.fpPr <;> simp
@[simp] theorem State.withGb_fpArith (op : FpOp) (n m : Reg) :
    (s.withGb v).fpArith op n m = (s.fpArith op n m).map (·.withGb v) := by simp [State.fpArith]
@[simp] theorem State.withGb_fpArith3 (op : FpOp) (q nx sx tx : Bool) (n a b : Reg) :
    (s.withGb v).fpArith3 op q nx sx tx n a b = (s.fpArith3 op q nx sx tx n a b).map (·.withGb v) := by
  simp [State.fpArith3]
@[simp] theorem State.withGb_fpLoad (k : Xfer) (b : Bool) (n : Reg) (a : Quad) :
    (s.withGb v).fpLoad k b n a = (s.fpLoad k b n a).map (·.withGb v) := by
  cases k <;> simp [State.fpLoad]

/-- A store as one update of memory, STALE and the history. -/
theorem State.store_eq (a : Quad) (n : Nat) (x : Quad) :
    s.store a n x = (s.resolve .write s.md (alignOf n) a).map fun p =>
      s.withMem (putMem s.mem p (toBytes s.cfg.endian n x))
        (putStale (fun y => (s.addr y).toNat) s.stale a (toBytes s.cfg.endian n x).length)
        (putHistory s.history s.mem p (toBytes s.cfg.endian n x)) := by
  simp only [State.store, State.putBytes_withMem]
theorem State.storeU_eq (a : Quad) (n : Nat) (x : Quad) :
    s.storeU a n x = (s.resolve .write s.md 1 a).map fun p =>
      s.withMem (putMem s.mem p (toBytes s.cfg.endian n x))
        (putStale (fun y => (s.addr y).toNat) s.stale a (toBytes s.cfg.endian n x).length)
        (putHistory s.history s.mem p (toBytes s.cfg.endian n x)) := by
  simp only [State.storeU, State.putBytes_withMem]
@[simp] theorem State.withGb_store (a : Quad) (n : Nat) (x : Quad) :
    (s.withGb v).store a n x = (s.store a n x).map (·.withGb v) := by simp [State.store_eq]
@[simp] theorem State.withGb_storeU (a : Quad) (n : Nat) (x : Quad) :
    (s.withGb v).storeU a n x = (s.storeU a n x).map (·.withGb v) := by simp [State.storeU_eq]
@[simp] theorem State.withGb_fpStore (k : Xfer) (b : Bool) (n : Reg) (a : Quad) :
    (s.withGb v).fpStore k b n a = (s.fpStore k b n a).map (·.withGb v) := by
  cases k <;> simp [State.fpStore]
@[simp] theorem State.withGb_modifyByte (a : Quad) (f : Byte → Byte) :
    (s.withGb v).modifyByte a f = (s.modifyByte a f).map (·.withGb v) := by
  unfold State.modifyByte
  rw [State.withGb_load]
  cases s.load a 1 <;> simp
@[simp] theorem State.withGb_tas (a : Quad) : (s.withGb v).tas a = (s.tas a).map (·.withGb v) := by
  unfold State.tas
  rw [State.withGb_load]
  cases s.load a 1 <;> simp
@[simp] theorem State.withGb_takeException (w : IWord) (e : Exc) :
    (s.withGb v).takeException w e = (s.takeException w e).withGb v := by cases e <;> rfl

end

/-! ### Registers in user mode -/

section
variable {s : State} (hm : s.md = false) (v : Vector Quad 8)
include hm

theorem State.bankB_user : s.bankB = false := by rw [State.bankB, hm, Bool.false_and]

@[simp] theorem State.withGb_r (n : Reg) : (s.withGb v).r n = s.r n := by
  unfold State.r
  rw [State.withGb_bankB, State.bankB_user hm]
  rfl

@[simp] theorem State.withGb_half (x : Bool) (n : Reg) : (s.withGb v).half x n = s.half x n := by
  simp [State.half, hm]

@[simp] theorem State.withGb_opx (q x : Bool) (n : Reg) : (s.withGb v).opx q x n = s.opx q x n := by
  simp [State.opx, hm]

@[simp] theorem State.withGb_ea3 (base : Quad) (o : Reg) (d : Quad) (n : Nat) :
    (s.withGb v).ea3 base o d n = s.ea3 base o d n := by simp [State.ea3, hm]

@[simp] theorem State.withGb_setR (n : Reg) (a : Quad) : (s.withGb v).setR n a = (s.setR n a).withGb v := by
  unfold State.setR
  rw [State.withGb_bankB, State.bankB_user hm]
  cases n.getLsbD 3 <;> rfl

@[simp] theorem State.withGb_wr (q : Bool) (n : Reg) (a : Quad) : (s.withGb v).wr q n a = (s.wr q n a).withGb v := by
  simp [State.wr, hm]

@[simp] theorem State.withGb_wrA (n : Reg) (a : Quad) : (s.withGb v).wrA n a = (s.wrA n a).withGb v := by
  simp [State.wrA, hm]

@[simp] theorem State.withGb_setHalf (x : Bool) (n : Reg) (a : Dword) :
    (s.withGb v).setHalf x n a = (s.setHalf x n a).withGb v := by
  cases x <;> simp [State.setHalf, hm]

@[simp] theorem State.withGb_setOpx (q x : Bool) (n : Reg) (a : Quad) :
    (s.withGb v).setOpx q x n a = (s.setOpx q x n a).withGb v := by
  cases q <;> simp [State.setOpx, hm]

@[simp] theorem State.withGb_oprexLoaded (q x : Bool) (n : Reg) (bits : Nat) (a : Quad) :
    (s.withGb v).oprexLoaded q x n bits a = (s.oprexLoaded q x n bits a).withGb v := by simp [State.oprexLoaded, hm]

@[simp] theorem State.withGb_wrLoad (n : Reg) (bits : Nat) (e : Ext) (a : Quad) :
    (s.withGb v).wrLoad n bits e a = (s.wrLoad n bits e a).withGb v := by simp [State.wrLoad, hm]

/-- A register written after a free value was drawn. -/
theorem State.withGb_draw_setR (n : Reg) (a : Quad) :
    (s.withGb v).draw.2.setR n a = (s.draw.2.setR n a).withGb v :=
  State.withGb_setR (s := s.draw.2) hm v n a

@[simp] theorem State.withGb_wrNoSuffix (n : Reg) (e : NatExt) (a : Dword) :
    (s.withGb v).wrNoSuffix n e a = (s.wrNoSuffix n e a).withGb v := by
  have hd : (s.withGb v).draw.1 = s.draw.1 := rfl
  unfold State.wrNoSuffix
  rw [State.withGb_dq, State.withGb_cfg, hd]
  cases s.dq
  · simp [hm]
  · cases s.cfg.noSuffixHi <;> cases e <;> simp [hm, State.withGb_draw_setR hm]

@[simp] theorem State.withGb_tacbShift (q nx sx tx : Bool) (n a b : Reg) (f : (w : Nat) → BitVec w → BitVec w → BitVec w) :
    (s.withGb v).tacbShift q nx sx tx n a b f = (s.tacbShift q nx sx tx n a b f).withGb v := by
  have hd : (s.withGb v).draw.1 = s.draw.1 := rfl
  have hs : ∀ x, (s.withGb v).draw.2.setOpx q nx n x = (s.draw.2.setOpx q nx n x).withGb v :=
    State.withGb_setOpx (s := s.draw.2) hm v q nx n
  simp only [State.tacbShift, State.withGb_opx hm, hd, hs, State.withGb_setOpx hm]
  exact (apply_ite (State.withGb · v) _ _ _).symm

@[simp] theorem State.withGb_binOp (f : (w : Nat) → BitVec w → BitVec w → BitVec w) (n : Reg) (a b : Quad) :
    (s.withGb v).binOp f n a b = (s.binOp f n a b).withGb v := by simp [State.binOp, hm]

@[simp] theorem State.withGb_unOp (f : (w : Nat) → BitVec w → BitVec w) (n : Reg) :
    (s.withGb v).unOp f n = (s.unOp f n).withGb v := by simp [State.unOp, hm]

@[simp] theorem State.withGb_binTOp (f : (w : Nat) → BitVec w → BitVec w → Bool → BitVec w × Bool) (n : Reg)
    (a b : Quad) : (s.withGb v).binTOp f n a b = (s.binTOp f n a b).withGb v := by simp [State.binTOp, hm]

@[simp] theorem State.withGb_unTOp (f : (w : Nat) → BitVec w → Bool → BitVec w × Bool) (n : Reg) :
    (s.withGb v).unTOp f n = (s.unTOp f n).withGb v := by simp [State.unTOp, hm]

@[simp] theorem State.withGb_oprexTOp (q x : Bool) (n : Reg)
    (f : (w : Nat) → BitVec w → BitVec w → Bool → BitVec w × Bool) (a b : Quad) :
    (s.withGb v).oprexTOp q x n f a b = (s.oprexTOp q x n f a b).withGb v := by simp [State.oprexTOp, hm]

@[simp] theorem State.withGb_div1 (n m : Reg) : (s.withGb v).div1 n m = (s.div1 n m).withGb v := by
  simp [State.div1, hm]

@[simp] theorem State.withGb_macL (n m : Reg) : (s.withGb v).macL n m = (s.macL n m).map (·.withGb v) := by
  simp only [State.macL, State.withGb_r hm, State.withGb_load, State.withGb_wrA hm]
  cases s.load (s.r n) 4 with
  | error e => rfl
  | ok a =>
    simp only [State.withGb_r ((s.wrA_md n _).trans hm)]
    cases (s.wrA n (s.r n + 4)).load ((s.wrA n (s.r n + 4)).r m) 4 <;> simp [hm]

@[simp] theorem State.withGb_macW (n m : Reg) : (s.withGb v).macW n m = (s.macW n m).map (·.withGb v) := by
  simp only [State.macW, State.withGb_r hm, State.withGb_load, State.withGb_wrA hm, State.withGb_dq]
  cases s.dq with
  | true => rfl
  | false =>
    cases s.load (s.r n) 2 with
    | error e => rfl
    | ok a =>
      simp only [State.withGb_r ((s.wrA_md n _).trans hm)]
      cases (s.wrA n (s.r n + 2)).load ((s.wrA n (s.r n + 2)).r m) 2 <;> simp [hm]

@[simp] theorem State.withGb_loadReg (d : Reg) (n : Nat) (e : Ext) (a : Quad) :
    (s.withGb v).loadReg d n e a = (s.loadReg d n e a).map (·.withGb v) := by simp [State.loadReg, hm]

@[simp] theorem State.withGb_loadRegInc (d m : Reg) (n : Nat) (e : Ext) :
    (s.withGb v).loadRegInc d m n e = (s.loadRegInc d m n e).map (·.withGb v) := by simp [State.loadRegInc, hm]

@[simp] theorem State.withGb_loadRegDec (d m : Reg) (n : Nat) (e : Ext) :
    (s.withGb v).loadRegDec d m n e = (s.loadRegDec d m n e).map (·.withGb v) := by simp [State.loadRegDec, hm]

@[simp] theorem State.withGb_storeDec (n : Reg) (k : Nat) (x : Quad) :
    (s.withGb v).storeDec n k x = (s.storeDec n k x).map (·.withGb v) := by
  simp [State.storeDec, State.store_eq, hm]

@[simp] theorem State.withGb_storeInc (n : Reg) (k : Nat) (x : Quad) :
    (s.withGb v).storeInc n k x = (s.storeInc n k x).map (·.withGb v) := by
  simp [State.storeInc, State.store_eq, hm]

@[simp] theorem State.withGb_pop (n : Reg) : (s.withGb v).pop n = (s.pop n).map (·.withGb v) := by
  simp [State.pop, hm]

@[simp] theorem State.withGb_cas (a : Quad) (n m : Reg) : (s.withGb v).cas a n m = (s.cas a n m).map (·.withGb v) := by
  have hT : ∀ (t : State) (b : Bool), t.md = false → (t.setT b).md = false := fun t b h =>
    (t.md_setSrBit (by decide) (by decide) b).trans h
  simp only [State.cas, State.withGb_bothChecked, State.map_bothChecked, State.withGb_load, State.withGb_r hm]
  cases s.load a 4 with
  | error e => rfl
  | ok x =>
    dsimp only
    cases lo32 x == lo32 (s.r m) <;> simp [State.store_eq, hm, hT]

@[simp] theorem State.withGb_fpLoadInc (k : Xfer) (b : Bool) (n m : Reg) :
    (s.withGb v).fpLoadInc k b n m = (s.fpLoadInc k b n m).map (·.withGb v) := by
  cases k <;> simp [State.fpLoadInc, State.fpLoad, hm]

@[simp] theorem State.withGb_fpStoreDec (k : Xfer) (b : Bool) (m n : Reg) :
    (s.withGb v).fpStoreDec k b m n = (s.fpStoreDec k b m n).map (·.withGb v) := by
  cases k <;> simp [State.fpStoreDec, State.fpStore, State.store_eq, hm]

@[simp] theorem State.withGb_vvMove (w : BitVec 4) (x y : Bool) (n m : Reg) :
    (s.withGb v).vvMove w x y n m = (s.vvMove w x y n m).map (·.withGb v) := by
  unfold State.vvMove
  split <;> simp [hm]

end

/-! ### Transfers of system registers -/

section
variable {s : State} (hm : s.md = false) (v : Vector Quad 8)
include hm

@[simp] theorem State.withGb_sysToReg (x : SysReg) (n : Reg) :
    (s.withGb v).sysToReg x n = (s.sysToReg x n).map (·.withGb v) := by
  cases x <;> simp [State.sysToReg, State.sysCheck, State.sys, State.priv_user, hm]

@[simp] theorem State.withGb_regToSys (x : SysReg) (m : Reg) :
    (s.withGb v).regToSys x m = (s.regToSys x m).map (·.withGb v) := by
  cases x <;> simp [State.regToSys, State.sysCheck, State.priv_user, hm]

@[simp] theorem State.withGb_sysToMem (x : SysReg) (n : Reg) :
    (s.withGb v).sysToMem x n = (s.sysToMem x n).map (·.withGb v) := by
  cases x <;> simp [State.sysToMem, State.sysCheck, State.sys, State.priv_user, hm]

@[simp] theorem State.withGb_memToSys (x : SysReg) (m : Reg) :
    (s.withGb v).memToSys x m = (s.memToSys x m).map (·.withGb v) := by
  cases x <;> simp [State.memToSys, State.sysCheck, State.priv_user, hm]

end

/-! ### How an instruction ends -/

section
variable {s : State} {v : Vector Quad 8} {r r' : Res State} (h : r' = r.map (·.withGb v)) (w : IWord)
include h

theorem settle_withGb : settle w (s.withGb v) r' = withBankB v (settle w s r) := by
  subst h
  match r with
  | .ok u => rfl
  | .error (.exc e) => exact congrArg _ (s.withGb_takeException v w e)
  | .error (.refuse x) => rfl

theorem noSlot_withGb : noSlot w (s.withGb v) r' = withBankB v (noSlot w s r) := by
  refine settle_withGb ?_ w
  rw [State.withGb_ds, h]
  cases s.ds.isSome <;> rfl

theorem map_advance_withGb (l : Quad) :
    (r'.map fun u => u.advance (s.withGb v).pcn l) = (r.map fun u => u.advance s.pcn l).map (·.withGb v) := by
  simp [h]

end

/-! An instruction by the way it ends: `R` is what it computes from a state. -/

section
variable {i : Instr} {R : State → Res State} {U : State → State} {s : State} {v : Vector Quad 8}

theorem withGb_of_short (hx : ∀ u, exec i u = short (firstWord i) u (R u))
    (h : R (s.withGb v) = (R s).map (·.withGb v)) : exec i (s.withGb v) = withBankB v (exec i s) := by
  rw [hx, hx]
  exact settle_withGb (map_advance_withGb h 2) _

theorem withGb_of_short_ok (hx : ∀ u, exec i u = short (firstWord i) u (.ok (U u)))
    (h : U (s.withGb v) = (U s).withGb v) : exec i (s.withGb v) = withBankB v (exec i s) :=
  withGb_of_short hx (congrArg Except.ok h)

theorem withGb_of_noSlot (hx : ∀ u, exec i u = noSlot (firstWord i) u (R u))
    (h : R (s.withGb v) = (R s).map (·.withGb v)) : exec i (s.withGb v) = withBankB v (exec i s) := by
  rw [hx, hx]
  exact noSlot_withGb h _

theorem withGb_of_noSlot_ok (hx : ∀ u, exec i u = noSlot (firstWord i) u (.ok (U u)))
    (h : U (s.withGb v) = (U s).withGb v) : exec i (s.withGb v) = withBankB v (exec i s) :=
  withGb_of_noSlot hx (congrArg Except.ok h)

theorem withGb_of_shortNoSlot (hx : ∀ u, exec i u = shortNoSlot (firstWord i) u (R u))
    (h : R (s.withGb v) = (R s).map (·.withGb v)) : exec i (s.withGb v) = withBankB v (exec i s) := by
  rw [hx, hx]
  exact noSlot_withGb (map_advance_withGb h 2) _

theorem withGb_of_shortNoSlot_ok (hx : ∀ u, exec i u = shortNoSlot (firstWord i) u (.ok (U u)))
    (h : U (s.withGb v) = (U s).withGb v) : exec i (s.withGb v) = withBankB v (exec i s) :=
  withGb_of_shortNoSlot hx (congrArg Except.ok h)

theorem withGb_of_wide (hx : ∀ u, exec i u = wide (firstWord i) u (R u))
    (h : R (s.withGb v) = (R s).map (·.withGb v)) : exec i (s.withGb v) = withBankB v (exec i s) := by
  rw [hx, hx]
  exact noSlot_withGb (map_advance_withGb h 4) _

theorem withGb_of_wide_ok (hx : ∀ u, exec i u = wide (firstWord i) u (.ok (U u)))
    (h : U (s.withGb v) = (U s).withGb v) : exec i (s.withGb v) = withBankB v (exec i s) :=
  withGb_of_wide hx (congrArg Except.ok h)

theorem withGb_of_veryWide (hx : ∀ u, exec i u = veryWide (firstWord i) u (R u))
    (h : R (s.withGb v) = (R s).map (·.withGb v)) : exec i (s.withGb v) = withBankB v (exec i s) := by
  rw [hx, hx]
  exact noSlot_withGb (map_advance_withGb h 8) _

theorem withGb_of_reserved (hx : ∀ u, exec i u = reserved (firstWord i) u) :
    exec i (s.withGb v) = withBankB v (exec i s) := by
  rw [hx, hx]
  exact settle_withGb (r := illegal) rfl _

end

/-- In user mode an instruction does the same whatever bank B holds: by the way it ends, and in each the operations it is
made of commute with the change of bank B. -/
theorem exec_withGb (i : Instr) {s : State} (hm : s.md = false) (v : Vector Quad 8) :
    exec i (s.withGb v) = withBankB v (exec i s) := by
  cases i with
  | stcGbrRn n => exact withGb_of_short (R := (·.sysToReg .gbr n)) (fun _ => rfl) (by simp [hm])
  | stsMachRn n => exact withGb_of_short (R := (·.sysToReg .mach n)) (fun _ => rfl) (by simp [hm])
  | stsMaclRn n => exact withGb_of_short (R := (·.sysToReg .macl n)) (fun _ => rfl) (by simp [hm])
  | stsPrRn n => exact withGb_of_short (R := (·.sysToReg .pr n)) (fun _ => rfl) (by simp [hm])
  | ldcRmGbr m => exact withGb_of_short (R := (·.regToSys .gbr m)) (fun _ => rfl) (by simp [hm])
  | ldsRmMach m => exact withGb_of_short (R := (·.regToSys .mach m)) (fun _ => rfl) (by simp [hm])
  | ldsRmMacl m => exact withGb_of_short (R := (·.regToSys .macl m)) (fun _ => rfl) (by simp [hm])
  | ldsRmPr m => exact withGb_of_short (R := (·.regToSys .pr m)) (fun _ => rfl) (by simp [hm])
  | movWQAtPcDispRn => exact withGb_of_shortNoSlot (fun _ => rfl) (by cases h : s.dq <;> simp [hm, h])
  | movuaLR0AtDecRm => exact withGb_of_short (fun _ => rfl) (by simp [hm, State.storeU_eq])
  | movBRmAtRn | movWQRmAtRn | movLRmAtRn | movBAtRmRn | movWQAtRmRn | movLAtRmRn | movBRmAtDecRn | movWQRmAtDecRn |
    movLRmAtDecRn | movBAtRmIncRn | movWQAtRmIncRn | movLAtRmIncRn | movBRmAtR0Rn | movWQRmAtR0Rn | movLRmAtR0Rn |
    movBAtR0RmRn | movWQAtR0RmRn | movLAtR0RmRn | movLRmAtRnDisp | movLAtRmDispRn | movBR0AtRnDisp | movWQR0AtRnDisp
    | movBAtRmDispR0 | movWQAtRmDispR0 | movBR0AtGbrDisp | movWQR0AtGbrDisp | movLR0AtGbrDisp | movBAtGbrDispR0 |
    movWQAtGbrDispR0 | movLAtGbrDispR0 | movBR0AtRnInc | movWQR0AtRnInc | movLR0AtRnInc | movBAtDecRmR0 |
    movWQAtDecRmR0 | movLAtDecRmR0 | pushLQRm | popLQRn | movQWAtR0Rn | movQWRmAtR0 | movuaLAtRmR0 | movuaLAtRmIncR0
    | movuaLR0AtRm | macLAtRmIncAtRnInc | macWQAtRmIncAtRnInc | andBImmAtGbrR0 | orBImmAtGbrR0 | xorBImmAtGbrR0 |
    tstBImmAtGbrR0 | tasBAtRn | shll32Rn | shlr32Rn | rot32Rn | movhiR0RHn | movhiRHmR0 | extuLRn | extsLRn |
    stcSrRn | stcVbrRn | stcSsrRn | stcSpcRn | stcRmBRn | stcSgrRn | stcDbrRn | stsFpulRn | stsFpscrRn | ldcRmSr |
    ldcRmVbr | ldcRmSsr | ldcRmSpc | ldcRmRnB | ldcRmSgr | ldcRmDbr | iclrmdDQ | iclrmdJQ | iclrmdJDQ | isetmdDQ |
    isetmdJQ | isetmdJDQ | ldsRmFpul | ldsRmFpscr | ldtlb | movcaLR0AtRn | casLRmRnAtR0 | stsLQMachAtDecRn |
    stsLQMaclAtDecRn | stsLQPrAtDecRn | stcLQSgrAtDecRn | stsLQFpulAtDecRn | stsLQFpscrAtDecRn | stcLQDbrAtDecRn |
    stcLQSrAtDecRn | stcLQGbrAtDecRn | stcLQVbrAtDecRn | stcLQSsrAtDecRn | stcLQSpcAtDecRn | stcLQRmBAtDecRn |
    ldsLQAtRmIncMach | ldsLQAtRmIncMacl | ldsLQAtRmIncPr | ldcLQAtRmIncSgr | ldsLQAtRmIncFpul | ldsLQAtRmIncFpscr |
    ldcLQAtRmIncDbr | ldcLQAtRmIncSr | ldcLQAtRmIncGbr | ldcLQAtRmIncVbr | ldcLQAtRmIncSsr | ldcLQAtRmIncSpc |
    ldcLQAtRmIncRnB | faddFRmFRn | fsubFRmFRn | fmulFRmFRn | fdivFRmFRn | fcmpeqFRmFRn | fcmpgtFRmFRn |
    fmovSAtR0RmFRn | fmovSFRmAtR0Rn | fmovSAtRmFRn | fmovSAtRmIncFRn | fmovSFRmAtRn | fmovSFRmAtDecRn | fmovFRmFRn |
    fstsFRn | floatFRn | fnegFRn | fabsFRn | fsqrtFRn | fldi0FRn | fldi1FRn | fcnvsdFRn | fmacFRmFRn =>
    exact withGb_of_short (fun _ => rfl) (by simp [hm])
  | movLAtPcDispRn =>
    exact withGb_of_shortNoSlot (fun _ => rfl) (by simp [hm])
  | xvFmovSAtRmRoFRn | xvFmovSFRmAtRnRo | xvFmovSAtRmDisp4FRn | xvFmovSAtRmIncFRn | xvFmovSFRmAtRnDisp4 |
    xvFmovSFRmAtDecRn | xvFmovFRmFRn | xMovBRmAtRnRoDisp4 | xMovWRmAtRnRoDisp4 | xMovLRmAtRnRoDisp4 |
    xMovQRmAtRnRoDisp4 | xMovBAtRmRoDisp4Rn | xMovWAtRmRoDisp4Rn | xMovLAtRmRoDisp4Rn | xMovQAtRmRoDisp4Rn |
    xMovLRmAtRnRoDisp8s | xMovLAtRmRoDisp8sRn | xMovBRmAtRnDisp8s | xMovWRmAtRnDisp8s | xMovLRmAtRnDisp8s |
    xMovQRmAtRnDisp8s | xFmovSFRmAtRnDisp8s | xFmovDDRmAtRnDisp8s | xFmovSAtRmDisp8sFRn | xFmovDAtRmDisp8sDRn |
    xMovBImmAtRn | xMovWImmAtRn | xMovLImmAtRn | xMovQImmAtRn | xMovBImmAtDecRn | xMovWImmAtDecRn | xMovLImmAtDecRn
    | xMovQImmAtDecRn | xMovBAtRmDisp8sRn | xMovWAtRmDisp8sRn | xMovLAtRmDisp8sRn | xMovQAtRmDisp8sRn |
    xMovuBAtRmDisp8sRn | xMovuWAtRmDisp8sRn | xMovuLAtRmDisp8sRn | xMovuWAtPcDisp13Rn | xFmovSAtPcDisp13FRn |
    xMovuWAtPcDisp13RHn | xFmovSAtPcDisp13XFn | xMovuWAtPcDisp13RQn | xFmovDAtPcDisp13DRn | xMovLAtPcDisp13Rn |
    xMovWAtPcDisp13Rn | xMovLAtPcDisp13RHn | xMovWAtPcDisp13RHn | xMovLAtPcDisp13RQn | xMovWAtPcDisp13RQn |
    xMovuLAtPcDisp13RQn | xMovQAtPcDisp13RQn | oMovLRmAtRnDisp5 | oMovQRmAtRnDisp5 | oMovBRmAtRn | oMovWRmAtRn |
    oMovLRmAtRn | oMovBRmAtDecRn | oMovWRmAtDecRn | oMovLRmAtDecRn | oTstRmRn | oAndRmRn | oXorRmRn | oOrRmRn |
    oCmpeqRmRn | oCmphsRmRn | oCmpgeRmRn | oCmphiRmRn | oCmpgtRmRn | oSubRmRn | oSubcRmRn | oSubvRmRn | oAddRmRn |
    oAddcRmRn | oAddvRmRn | oMovLAtRmDisp5Rn | oMovQAtRmDisp5Rn | oMovBAtRmRn | oMovWAtRmRn | oMovLAtRmRn | oMovRmRn
    | oMovBAtRmIncRn | oMovWAtRmIncRn | oMovLAtRmIncRn | oNotRmRn | oNegcRmRn | oNegRmRn | oExtuBRmRn | oExtuWRmRn |
    oExtsBRmRn | oExtsWRmRn | oMovImm10Rn | tAddRsRtRn | tAddRsRtRnQuad | tAddQRsImm6Rn | tSubRsRtRn |
    tSubRsRtRnQuad | tSubQRsImm6Rn | tMulRsRtRn | tMulRsRtRnQuad | tAndRsRtRn | tAndRsRtRnQuad | tOrRsRtRn |
    tOrRsRtRnQuad | tXorRsRtRn | tXorRsRtRnQuad | tShllRsRtRn | tShllRsRtRnQuad | tShllQRsImm6Rn | tShlrRsRtRn |
    tShlrRsRtRnQuad | tShlrQRsImm6Rn | tSharRsRtRn | tSharRsRtRnQuad | tSharQRsImm6Rn | tFaddFRsFRtFRn |
    tFsubFRsFRtFRn | tFmulFRsFRtFRn | tFdivFRsFRtFRn | movi20ImmRn | movi20sImmRn | wMovBRmAtRnDisp |
    wMovWRmAtRnDisp | wMovLRmAtRnDisp | wFmovSFRmAtRnDisp | wMovBAtRmDispRn | wMovWAtRmDispRn | wMovLAtRmDispRn |
    wFmovSAtRmDispFRn | wMovuBAtRmDispRn | wMovuWAtRmDispRn =>
    exact withGb_of_wide (fun _ => rfl) (by simp [hm])
  | zAddQImm48Rn | zMovQImm48Rn =>
    exact withGb_of_veryWide (fun _ => rfl) (by simp [hm])
  | trapaImm | rte | brk | zBraDisp48 | zBsrDisp48 =>
    exact withGb_of_noSlot (fun _ => rfl) (by simp [hm, State.priv_user])
  | movRmRn | movImmRn | movtRn | movrtRn | swapBRmRn | swapWRmRn | xtrctRmRn | addRmRn | addImmRn | addcRmRn |
    addvRmRn | subRmRn | subcRmRn | subvRmRn | negRmRn | negcRmRn | cmpeqRmRn | cmphsRmRn | cmpgeRmRn | cmphiRmRn |
    cmpgtRmRn | cmppzRn | cmpplRn | cmpstrRmRn | cmpeqImmR0 | dtRn | extsBRmRn | extsWRmRn | extuBRmRn | extuWRmRn |
    mulLRmRn | muluWQRmRn | mulsWQRmRn | dmuluLRmRn | dmulsLRmRn | div0sRmRn | div0u | div1RmRn | andRmRn | andImmR0
    | orRmRn | orImmR0 | xorRmRn | xorImmR0 | tstRmRn | tstImmR0 | notRmRn | shadRmRn | shldRmRn | shllRn | shalRn |
    shlrRn | sharRn | rotlRn | rotrRn | rotclRn | rotcrRn | shll2Rn | shll8Rn | shll16Rn | shlr2Rn | shlr8Rn |
    shlr16Rn | shll4Rn | shlr4Rn | clrt | sett | clrs | sets | nott | nop | prefAtRn | icbiAtRn =>
    exact withGb_of_short_ok (fun _ => rfl) (by simp [hm])
  | movaAtPcDispR0 =>
    exact withGb_of_shortNoSlot_ok (fun _ => rfl) (by simp [hm])
  | xAndRmImm8Rn | xXorRmImm8Rn | xOrRmImm8Rn | xMullRmImm8Rn | xCmpeqImm12Rn | xCmphsImm12Rn | xCmpgeImm12Rn |
    xCmphiImm12Rn | xCmpgtImm12Rn | xSubRmImm8Rn | xAddRmImm8Rn | xShadRmImmRn | xShldRmImmRn | xLeaBAtRmRoDisp4Rn |
    xLeaWAtRmRoDisp4Rn | xLeaLAtRmRoDisp4Rn | xLeaQAtRmRoDisp4Rn | xLeaBAtRmDisp8sRn | xLeaWAtRmDisp8sRn |
    xLeaLAtRmDisp8sRn | xLeaQAtRmDisp8sRn | xAddImm16Rn | xCmpeqImm16R0 | xLdsh16ImmR0 | xMovaAtPcDisp13Rn |
    xTstImm12Rn | xAndImm12Rn | xXorImm12Rn | xOrImm12Rn | xMovImm16Rn | tAddLRsImm5Rn | tSubLRsImm5Rn |
    tShllLRsImm5Rn | tShlrLRsImm5Rn | tSharLRsImm5Rn | movi24Imm24R0 =>
    exact withGb_of_wide_ok (fun _ => rfl) (by simp [hm])
  | bt | bf | bts | bfs | bra | bsr | brafRm | bsrfRm | jmpAtRm | jsrAtRm | rts | xBranDisp16 | xBsrnDisp16 |
    xBtDisp16 | xBfDisp16 | xBtsDisp16 | xBfsDisp16 | xBraDisp20 | xBsrDisp20 =>
    exact withGb_of_noSlot_ok (fun _ => rfl) (by simp [hm])
  | clrmac =>
    exact withGb_of_short_ok (fun _ => rfl) rfl
  | sleep =>
    exact withGb_of_shortNoSlot (fun _ => rfl) (by rw [State.map_priv]; rfl)
  | fldsFRm | ftrcFRm | fcnvdsFRm | psetmdImm4 | fschg | fpchg | frchg =>
    exact withGb_of_short (fun _ => rfl) (by rw [State.map_fpu]; rfl)
  | xPsetmdImm12 | xLdhf16ImmFpul =>
    exact withGb_of_wide (fun _ => rfl) (by simp only [map_require, State.map_fpu]; rfl)
  | movLAtPcIncRn | movQAtPcIncRn | divuR0Rn | divsR0Rn | rtsn | rtvnRm | jsrnRm | resbank | synco |
    xFmovDAtPcDisp13YDn | resXpfx1 | resXpfx3 | resXpfx4 | resXpfx5 | resXpfy0 | resXpfy1 | resXpfz1 | resXpfv0 |
    res3xx9 | res8C1x | res8C2x | res8C4x | res8C5x | res8C6x | res8C7x | res8C8x | resTacb9 | resTacbA | resTacbB =>
    exact withGb_of_reserved fun _ => rfl

/-- Settles O14. -/
theorem bankBIsolated : Obligations.BankBIsolated := fun i _ v hm => exec_withGb i hm v


end Sys2Proof.Machine
end

section
/-! PROOFS. The machine as a whole: reset, sleep, trap entry, interrupts and the end of an instruction (statements O5, O6,
O9, O10, O11, O17 and O27). -/
namespace Sys2Proof.Machine

/-! ### Reset and sleep -/

/-- Settles O5: the reset procedure is one update; the default cores are evaluated. -/
theorem resetValues : Obligations.ResetValues := by
  refine ⟨?update, ?bits, rfl, rfl, rfl, rfl⟩
  case update =>
    rintro s _ rfl
    exact ⟨rfl, rfl, rfl, rfl, rfl, rfl, rfl, rfl, rfl, rfl⟩
  case bits =>
    intro s hs
    obtain rfl | rfl := by simpa using hs
    all_goals exact ⟨rfl, rfl, rfl, rfl, rfl, rfl, rfl, rfl, rfl⟩

/-- Settles O6: the default core starts with empty memory and with masked SR and FPSCR; it is a BJX1-64, so the clauses
about 32-bit cores say nothing of it. -/
theorem invAtReset : Obligations.InvAtReset where
  mem := ⟨List.Pairwise.nil, fun _ h => absurd h List.not_mem_nil⟩
  stale := List.Pairwise.nil
  sr := rfl
  fpscr := rfl
  narrow h := absurd h (by decide)
  slot h := absurd h (by decide)
  halves h := absurd h (by decide)

/-- Settles O27. -/
theorem sleepAndResetStep : Obligations.SleepAndResetStep := by
  refine fun s => ⟨fun hr => ?reset, fun hr ha hs => ?sleep⟩
  case reset => rw [step, if_pos hr]
  case sleep => simp [step, hr, ha, hs]

/-! ### Trap entry -/

/-- The bits of SR after trap entry. -/
theorem State.getLsbD_trapSr (s : State) (k : Nat) :
    s.trapSr.getLsbD k =
      if k = 28 ∨ k = 29 ∨ k = 30 then true
      else if s.is64 then
        (if k = 12 then s.sr.getLsbD 44 else if k = 31 then s.sr.getLsbD 63 else s.sr.getLsbD k)
      else s.sr.getLsbD k := by
  unfold State.trapSr
  cases s.is64 <;> simp only [Bool.false_eq_true, if_false, if_true] <;>
    repeat rw [getLsbD_putBit _ (by decide)]
  all_goals grind

theorem State.getLsbD_trapSr_set (s : State) {k : Nat} (hk : k = 28 ∨ k = 29 ∨ k = 30) : s.trapSr.getLsbD k = true := by
  rw [State.getLsbD_trapSr, if_pos hk]

theorem State.getLsbD_trapSr_mode (s : State) (h : s.is64 = true) :
    s.trapSr.getLsbD 31 = s.sr.getLsbD 63 ∧ s.trapSr.getLsbD 12 = s.sr.getLsbD 44 := by
  rw [State.getLsbD_trapSr, State.getLsbD_trapSr, h]
  exact ⟨rfl, rfl⟩

theorem State.getLsbD_trapSr_other (s : State) {k : Nat} (hk : k ∉ [28, 29, 30]) (h : s.is64 = true → k ∉ [12, 31]) :
    s.trapSr.getLsbD k = s.sr.getLsbD k := by
  rw [State.getLsbD_trapSr, if_neg (by simpa using hk)]
  cases h6 : s.is64 with
  | false => rfl
  | true =>
    obtain ⟨h12, h31⟩ : k ≠ 12 ∧ k ≠ 31 := by simpa using h h6
    simp [h12, h31]

/-- The handler's address is reduced as the new mode says. -/
theorem State.handlerPc_eq (s : State) (kind : TrapKind) (w : Bool) (value spc : Quad) :
    s.handlerPc kind = (s.trapEntry kind w value spc).addr (s.vbr + vectorOf s.cfg kind) := by
  have h : (s.trapEntry kind w value spc).jq = (s.is64 && s.trapSr.getLsbD 31) := rfl
  unfold State.handlerPc State.addr
  rw [h]
  cases h6 : s.is64 with
  | false => rfl
  | true => rw [(s.getLsbD_trapSr_mode h6).1]

/-- Settles O9. -/
theorem trapEntryEffect : Obligations.TrapEntryEffect := by
  rintro s _ kind w value spc rfl
  have hmd : (s.trapEntry kind w value spc).md = true := s.getLsbD_trapSr_set (.inr (.inr rfl))
  have hrb : (s.trapEntry kind w value spc).rb = true := s.getLsbD_trapSr_set (.inr (.inl rfl))
  have hbl : (s.trapEntry kind w value spc).bl = true := s.getLsbD_trapSr_set (.inl rfl)
  refine ⟨rfl, rfl, rfl, hmd, hrb, hbl, ?_, s.getLsbD_trapSr_mode, fun k => s.getLsbD_trapSr_other, rfl, rfl, rfl,
    s.handlerPc_eq kind w value spc, rfl⟩
  rw [State.bankB, hmd, hrb]
  rfl

/-- Settles O10: each line is one line of `takeException`, `vectorOf` or `causeCode`. -/
theorem synchronousTraps : Obligations.SynchronousTraps := by
  refine ⟨fun s w0 hd => ?plain, fun s w0 d hd => ?slot, fun c => ?vectors, fun c w v hc => ?codes⟩
  case plain =>
    have hp : s.faultPc = s.pcn := by rw [State.faultPc, hd]
    simp [State.takeException, hp, hd]
  case slot =>
    have hp : s.faultPc = d.branchPc := by rw [State.faultPc, hd]
    simp [State.takeException, hp, hd]
  case vectors => simp [vectorOf]
  case codes =>
    have hi : ∀ k : Nat, 1 ≤ k → k ≤ 15 →
        causeCode c .interrupt w (BitVec.ofNat 64 k) = BitVec.ofNat 32 (0x200 + 0x20 * (15 - k)) := by
      intro k h1 h15
      simp only [causeCode, hc]
      interval_cases k <;> rfl
    exact ⟨by simp only [causeCode, hc], by simp only [causeCode, hc], by simp only [causeCode, hc],
      by simp only [causeCode, hc], by simp only [causeCode, hc], by simp only [causeCode, hc],
      by simp only [causeCode, hc], by simp only [causeCode, hc], by simp only [causeCode, hc],
      by simp only [causeCode, hc], by simp only [causeCode, hc], hi⟩

/-! ### Interrupts -/

theorem topLevel_le (v : BitVec 16) (n : Nat) : topLevel v n ≤ n := by
  induction n with
  | zero => exact Nat.le_refl 0
  | succ n ih =>
    rw [topLevel]
    split
    · exact Nat.le_refl _
    · omega

theorem getLsbD_topLevel (v : BitVec 16) {n : Nat} (h : topLevel v n ≠ 0) : v.getLsbD (topLevel v n) = true := by
  induction n with
  | zero => exact absurd rfl h
  | succ n ih =>
    rw [topLevel] at h ⊢
    split
    next hb => exact hb
    next hb => exact ih (by rwa [if_neg hb] at h)

theorem le_topLevel (v : BitVec 16) {n k : Nat} (h1 : 1 ≤ k) (hn : k ≤ n) (hk : v.getLsbD k = true) :
    k ≤ topLevel v n := by
  induction n with
  | zero => omega
  | succ n ih =>
    rw [topLevel]
    split
    · exact hn
    next hb =>
      have hne : k ≠ n + 1 := by
        rintro rfl
        exact hb hk
      exact ih (by omega)

theorem State.acceptable_eq_some_iff (s : State) (l : Nat) :
    s.acceptable = some l ↔ s.ds = none ∧ s.bl = false ∧ s.im.toNat < s.irq.level ∧ l = s.irq.level := by
  unfold State.acceptable
  cases s.ds <;> cases s.bl <;> simp [eq_comm]

/-- Settles O11. -/
theorem interruptsTaken : Obligations.InterruptsTaken := by
  refine ⟨State.acceptable_eq_some_iff, fun q hq => ?nmi, fun q hq => ?level, fun s l hr ha => ?step⟩
  case nmi => rw [Irq.level, if_pos hq]
  case level =>
    rw [Irq.level, hq, if_neg Bool.false_ne_true]
    exact ⟨topLevel_le _ 15, getLsbD_topLevel _, fun k => le_topLevel _⟩
  case step =>
    simp only [step, hr, ha, Bool.false_eq_true, if_false]
    rfl

/-! ### The end of an instruction -/

/-- Settles O17. -/
theorem endOfInstruction : Obligations.EndOfInstruction :=
  fun _ p l => ⟨fun h => State.advance_none h p l, fun _ h => State.advance_some h p l⟩

end Sys2Proof.Machine
end

section
/-! PROOFS. The register files (statements O21 to O23). -/
namespace Sys2Proof.Machine

/-! ### General registers -/

/-- A register number from its top bit and the rest. -/
theorem reg_eq_iff : ∀ n m : Reg,
    m = n ↔ m.getLsbD 3 = n.getLsbD 3 ∧ m.extractLsb' 0 3 = n.extractLsb' 0 3 := by decide

theorem State.r_setR (s : State) (n m : Reg) (v : Quad) : (s.setR n v).r m = if m = n then v else s.r m := by
  simp only [State.r, State.setR_bankB]
  simp only [State.setR, reg_eq_iff n m]
  cases n.getLsbD 3 <;> cases m.getLsbD 3 <;> cases s.bankB <;> simp [get8_set8]

theorem State.half_setHalf (s : State) (x y : Bool) (n m : Reg) (v : Dword) :
    (s.setHalf x n v).half y m = if m = n ∧ y = x then v else s.half y m := by
  simp only [State.half, State.setHalf, State.r_setR]
  by_cases h : m = n
  · subst h
    cases x <;> cases y <;> simp
  · simp [h]

theorem State.setOb_r (s : State) (b : BankReg) (n : Reg) (v : Quad) : (s.setOb b v).r n = s.r n := by
  simp only [State.r, State.setOb_bankB, State.setOb_g]
  unfold State.setOb
  cases h : s.bankB <;> simp

theorem State.ob_setR (s : State) (n : Reg) (b : BankReg) (v : Quad) : (s.setR n v).ob b = s.ob b := by
  simp only [State.ob, State.setR_bankB]
  unfold State.setR
  cases n.getLsbD 3 <;> cases s.bankB <;> simp

theorem State.ob_setOb (s : State) (b c : BankReg) (v : Quad) :
    (s.setOb b v).ob c = if c = b then v else s.ob c := by
  simp only [State.ob, State.setOb_bankB]
  unfold State.setOb
  cases s.bankB <;> simp [get8_set8]

/-- The number of a banked register, and of one of R8 to R15. -/
theorem reg_low : ∀ k : BankReg, (0#1 ++ k : Reg).getLsbD 3 = false ∧ (0#1 ++ k : Reg).extractLsb' 0 3 = k := by decide
theorem reg_high : ∀ k : BankReg, (1#1 ++ k : Reg).getLsbD 3 = true ∧ (1#1 ++ k : Reg).extractLsb' 0 3 = k := by decide

theorem State.r_low (s : State) (k : BankReg) :
    s.r (0#1 ++ k) = if s.bankB then get8 s.gb k else get8 s.ga k := by
  obtain ⟨h3, h0⟩ := reg_low k
  rw [State.r, h3, h0, if_neg Bool.false_ne_true]

theorem State.r_high (s : State) (k : BankReg) : s.r (1#1 ++ k) = get8 s.g k := by
  obtain ⟨h3, h0⟩ := reg_high k
  rw [State.r, h3, h0, if_pos rfl]

/-- Settles O21. -/
theorem registerFile : Obligations.RegisterFile := by
  refine fun s => ⟨s.r_setR, s.half_setHalf, s.ob_setR, s.ob_setOb, fun b n v => s.setOb_r b n v, fun k hm hb => ?bankB,
    fun k h => ?bankA, s.r_high⟩
  case bankB =>
    have h : s.bankB = true := by rw [State.bankB, hm, hb]; rfl
    simp [State.r_low, State.ob, h]
  case bankA =>
    have hb : s.bankB = false := by
      obtain h | h := h <;> simp [State.bankB, h]
    simp [State.r_low, State.ob, hb]

/-! ### FPU registers -/

theorem get16_set16 (v : Vector Dword 16) (i j : Reg) (x : Dword) :
    get16 (set16 v i x) j = if j = i then x else get16 v j := by
  have h : get16 (set16 v i x) j = if i.toNat = j.toNat then x else get16 v j := Vector.getElem_set i.isLt j.isLt
  rw [h]
  simp only [BitVec.toNat_inj, @eq_comm _ i j]

theorem State.fx_setFx (s : State) (x y : Bool) (i j : Reg) (v : Dword) :
    (s.setFx x i v).fx y j = if y = x ∧ j = i then v else s.fx y j := by
  have hf : (s.setFx x i v).fpFr = s.fpFr := by rw [State.fpFr, State.setFx_fpscr, State.fpFr]
  unfold State.fx
  rw [hf]
  unfold State.setFx
  cases x <;> cases y <;> cases s.fpFr <;> simp [get16_set16]

/-- FPSCR.FR exchanges the banks. -/
theorem State.fx_flip (s : State) (x : Bool) (i : Reg) :
    { s with fpscr := s.fpscr ^^^ 0x00200000 }.fx x i = s.fx (!x) i := by
  have hf : State.fpFr { s with fpscr := s.fpscr ^^^ 0x00200000 } = !s.fpFr := by
    simp [State.fpFr]
  unfold State.fx
  rw [hf]
  cases x <;> cases s.fpFr <;> rfl

theorem State.pair_even (s : State) (b : Bool) {n : Reg} (h : n.getLsbD 0 = false) :
    s.pair b n = s.fx b n ++ s.fx b (n + 1) := by
  have key : ∀ n : Reg, n.getLsbD 0 = false → pairHi n = n ∧ pairLo n = n + 1 := by decide
  obtain ⟨hh, hl⟩ := key n h
  rw [State.pair, hh, hl, pairBank, h, Bool.xor_false]

theorem State.pair_odd (s : State) (b : Bool) {n : Reg} (h : n.getLsbD 0 = true) :
    s.pair b n = s.fx (!b) (n - 1) ++ s.fx (!b) n := by
  have key : ∀ n : Reg, n.getLsbD 0 = true → pairHi n = n - 1 ∧ pairLo n = n := by decide
  obtain ⟨hh, hl⟩ := key n h
  rw [State.pair, hh, hl, pairBank, h, Bool.xor_true]

/-- The cells of two pairs: the high cells are never low cells, and both agree or differ together. -/
theorem pair_cells : ∀ n m : Reg,
    pairHi m ≠ pairLo n ∧ pairLo m ≠ pairHi n ∧ (pairHi m = pairHi n ↔ m &&& 0xE = n &&& 0xE) ∧
      (pairLo m = pairLo n ↔ m &&& 0xE = n &&& 0xE) := by decide

theorem State.pair_setPair (s : State) (b c : Bool) (n m : Reg) (v : Quad) :
    (s.setPair b n v).pair c m =
      if (c ^^ m.getLsbD 0) = (b ^^ n.getLsbD 0) ∧ m &&& 0xE = n &&& 0xE then v else s.pair c m := by
  obtain ⟨hhl, hlh, hh, hl⟩ := pair_cells n m
  simp only [State.pair, State.setPair, State.fx_setFx, pairBank, hhl, hlh, hh, hl, and_false, if_false]
  by_cases h : (c ^^ m.getLsbD 0) = (b ^^ n.getLsbD 0) ∧ m &&& 0xE = n &&& 0xE
  · rw [if_pos h, if_pos h, if_pos h, hi32_lo32]
  · rw [if_neg h, if_neg h, if_neg h]

/-- Settles O22. -/
theorem fpRegisterFile : Obligations.FpRegisterFile :=
  fun s => ⟨s.fx_setFx, s.fx_flip, fun b _ h => s.pair_even b h, fun b _ h => s.pair_odd b h,
    fun b n v c m => s.pair_setPair b c n m v⟩

/-! ### A result without a size suffix -/

section
variable (s : State) (n : Reg) (v : Dword)

theorem State.wrNoSuffix_low (e : NatExt) (h : s.dq = false) : s.wrNoSuffix n e v = s.setHalf false n v := by
  unfold State.wrNoSuffix
  rw [h, if_neg Bool.false_ne_true]

theorem State.wrNoSuffix_preserve (e : NatExt) (h : s.dq = true) (hc : s.cfg.noSuffixHi = .preserve) :
    s.wrNoSuffix n e v = s.setHalf false n v := by
  unfold State.wrNoSuffix
  rw [h, if_pos rfl, hc]

theorem State.wrNoSuffix_any (e : NatExt) (h : s.dq = true) (hc : s.cfg.noSuffixHi = .any) :
    s.wrNoSuffix n e v =
      { s with freeCount := s.freeCount + 1 }.setR n (hi32 (Config.freeValue s.freeCount) ++ v) := by
  unfold State.wrNoSuffix
  rw [h, if_pos rfl, hc]
  rfl

/-- The low half is the result in every mode. -/
theorem State.half_wrNoSuffix (e : NatExt) : (s.wrNoSuffix n e v).half false n = v := by
  have hlo : ∀ (t : State) (x : Quad), lo32 x = v → (t.setR n x).half false n = v := by
    intro t x hx
    simpa [State.half, State.r_setR] using hx
  unfold State.wrNoSuffix
  cases s.dq with
  | false => simp [State.half_setHalf]
  | true =>
    cases s.cfg.noSuffixHi <;> cases e <;> simp [State.half_setHalf, hlo]

end

/-- Settles O23. -/
theorem noSuffixWrite : Obligations.NoSuffixWrite := by
  refine fun s n v => ⟨s.half_wrNoSuffix n v, s.wrNoSuffix_low n v, s.wrNoSuffix_preserve n v, fun hd hc => ?sign,
    fun hd hc => ?zero, s.wrNoSuffix_any n v⟩
  all_goals
    unfold State.wrNoSuffix
    rw [hd, if_pos rfl, hc]
  case zero => rfl

end Sys2Proof.Machine
end

section
/-! PROOFS. Memory, accesses and fetches (statements O15, O19, O20 and O25). -/
namespace Sys2Proof.Machine

/-! ### Memory as data -/

theorem Memory.wf_tail {c : Host.Cell} {m : Memory} (h : Memory.wf (c :: m)) : Memory.wf m :=
  ⟨(List.pairwise_cons.1 h.1).2, fun d hd => h.2 d (List.mem_cons_of_mem c hd)⟩

theorem Memory.read_head (c : Host.Cell) (m : Memory) : Memory.read (c :: m) c.1 = c.2 := if_pos rfl

/-- A canonical memory lists nothing before its first address. -/
theorem Memory.read_before {c : Host.Cell} {m : Memory} (h : Memory.wf (c :: m)) {a : Nat} (ha : a < c.1) :
    Memory.read (c :: m) a = 0 := by
  refine Memory.read_of_lt fun d hd => ?_
  obtain rfl | hd := List.mem_cons.1 hd
  · exact ha
  · exact ha.trans ((List.pairwise_cons.1 h.1).1 d hd)

/-- The rest of a canonical memory, read: 0 at the first address, and as the whole elsewhere. -/
theorem Memory.read_tail {c : Host.Cell} {m : Memory} (h : Memory.wf (c :: m)) (a : Nat) :
    Memory.read m a = if a = c.1 then 0 else Memory.read (c :: m) a := by
  split
  next ha =>
    subst ha
    exact Memory.read_of_lt (List.pairwise_cons.1 h.1).1
  next ha => exact (if_neg (Ne.symm ha)).symm

/-- Two canonical memories that read alike start at the same address. -/
theorem Memory.head_le {c d : Host.Cell} {m m' : Memory} (h : Memory.wf (c :: m)) (h' : Memory.wf (d :: m'))
    (hr : ∀ a, Memory.read (c :: m) a = Memory.read (d :: m') a) : d.1 ≤ c.1 := by
  by_contra hlt
  have h0 := hr c.1
  rw [Memory.read_head, Memory.read_before h' (by omega)] at h0
  exact h.2 c List.mem_cons_self h0

/-- Settles O20, by induction along both memories. -/
theorem memoryExtensional : Obligations.MemoryExtensional := by
  intro m
  induction m with
  | nil =>
    rintro (_ | ⟨d, m'⟩) _ h' hr
    · rfl
    · exact absurd ((hr d.1).trans (Memory.read_head d m')).symm (h'.2 d List.mem_cons_self)
  | cons c m ih =>
    rintro (_ | ⟨d, m'⟩) h h' hr
    · exact absurd ((Memory.read_head c m).symm.trans (hr c.1)) (h.2 c List.mem_cons_self)
    · have h1 : c.1 = d.1 :=
        le_antisymm (Memory.head_le h' h fun a => (hr a).symm) (Memory.head_le h h' hr)
      have h2 : c.2 = d.2 := by
        rw [← Memory.read_head c m, hr, h1, Memory.read_head]
      have hm : m = m' := ih m' (Memory.wf_tail h) (Memory.wf_tail h') fun a => by
        rw [Memory.read_tail h, Memory.read_tail h', h1, hr]
      rw [Prod.ext h1 h2, hm]

/-! ### Bytes of a value -/

/-- The bits of the bytes of a value put together again. -/
theorem getLsbD_ofBytesLe_toBytesLe (n : Nat) (v : Quad) {i : Nat} (hi : i < 64) :
    (ofBytesLe (toBytesLe n v)).getLsbD i = (decide (i < 8 * n) && v.getLsbD i) := by
  induction n generalizing v i with
  | zero => simp [toBytesLe, ofBytesLe]
  | succ n ih =>
    rw [toBytesLe, ofBytesLe, BitVec.getLsbD_or, BitVec.getLsbD_shiftLeft, BitVec.getLsbD_setWidth,
      BitVec.getLsbD_setWidth]
    by_cases h8 : i < 8
    · simp [h8, hi, show i < 8 * (n + 1) by omega]
    · rw [ih _ (by omega), BitVec.getLsbD_ushiftRight, show 8 + (i - 8) = i by omega]
      simp [h8, hi, show i - 8 < 8 * n ↔ i < 8 * (n + 1) by omega]

theorem ofBytes_toBytes (e : Endian) (n : Nat) (v : Quad) :
    ofBytes e (toBytes e n v) = (v.setWidth (8 * n)).setWidth 64 := by
  have h : ofBytesLe (toBytesLe n v) = (v.setWidth (8 * n)).setWidth 64 :=
    BitVec.eq_of_getLsbD_eq fun i hi => by
      rw [getLsbD_ofBytesLe_toBytesLe n v hi, BitVec.getLsbD_setWidth, BitVec.getLsbD_setWidth, decide_eq_true hi,
        Bool.true_and]
  cases e with
  | little => exact h
  | big => rw [ofBytes, toBytes, List.reverse_reverse, h]

/-- Settles O19. -/
theorem storeThenLoad : Obligations.StoreThenLoad := by
  intro s a v n p _ hm hw hr
  refine ⟨_, State.store_ok hw, ?_⟩
  rw [State.putBytes_withMem]
  have hr' := (State.resolve_congr (s := s) (t := s.withMem (putMem s.mem p (toBytes s.cfg.endian n v))
    (putStale (fun x => (s.addr x).toNat) s.stale a (toBytes s.cfg.endian n v).length)
    (putHistory s.history s.mem p (toBytes s.cfg.endian n v))) rfl rfl .read s.md (alignOf n) a).trans hr
  have hb := bytesAt_putMem hm p (toBytes s.cfg.endian n v)
  rw [length_toBytes] at hb
  rw [State.load_ok hr', State.withMem_mem, hb]
  exact congrArg Except.ok (ofBytes_toBytes s.cfg.endian n v)

/-! ### Fetches -/

section
variable {s : State} {a : Quad} {p : Nat} (h : s.resolve .fetch s.fetchMd 2 a = .ok p)
include h

theorem State.fetch16_fresh (hs : s.staleWord a = false) :
    s.fetch16 a = .ok (wordOfBytes s.cfg.endian (Memory.read s.mem p) (Memory.read s.mem (p + 1)), s) := by
  simp [State.fetch16, h, hs]

theorem State.fetch16_stale (hs : s.staleWord a = true) :
    s.fetch16 a = .ok
      (wordOfBytes s.cfg.endian (s.fetchByte (Config.staleOld s.freeCount) a p)
        (s.fetchByte (Config.staleOld s.freeCount) (a + 1) (p + 1)), { s with freeCount := s.freeCount + 1 }) := by
  simp [State.fetch16, h, hs]

end

theorem State.fetchByte_old (s : State) (a : Quad) (p : Nat) :
    s.fetchByte true a p =
      if (s.addr a).toNat ∈ s.stale then oldByte s.history (s.addr a).toNat p (Memory.read s.mem p)
      else Memory.read s.mem p := by
  simp [State.fetchByte]

/-- Settles O25: a stale word is read as the free choice says. -/
theorem staleFetch : Obligations.StaleFetch := by
  refine ⟨fun s a p hp => ⟨fun h => ?fresh, fun hc h => ?stale⟩, fun s c p => ⟨rfl, fun a => rfl⟩⟩
  case fresh =>
    refine State.fetch16_fresh hp ?_
    obtain hc | ⟨h0, h1⟩ := h
    · simp [State.staleWord, hc]
    · simp only [State.staleWord, h0, h1, decide_false, Bool.or_false, Bool.and_false]
  case stale =>
    refine ⟨_, State.fetch16_stale hp (by simpa [State.staleWord, hc] using h), ?_⟩
    cases Config.staleOld s.freeCount with
    | false => exact .inl rfl
    | true => exact .inr (by rw [State.fetchByte_old, State.fetchByte_old])

/-! ### Accesses -/

theorem canonical_iff (a : Quad) : canonical a = true ↔ ∀ k, 48 ≤ k → k < 64 → a.getLsbD k = a.getLsbD 47 := by
  have hbit : ∀ k, k < 64 → ((a.setWidth 48).signExtend 64).getLsbD k = if k < 48 then a.getLsbD k else a.getLsbD 47 := by
    intro k hk
    rw [BitVec.getLsbD_signExtend, decide_eq_true hk, Bool.true_and, BitVec.msb_eq_getLsbD_last,
      BitVec.getLsbD_setWidth, BitVec.getLsbD_setWidth]
    by_cases h : k < 48 <;> simp [h]
  rw [canonical, beq_iff_eq]
  constructor
  · intro h k h48 h64
    rw [← hbit k h64 |>.trans (if_neg (by omega)), h]
  · intro h
    refine BitVec.eq_of_getLsbD_eq fun k hk => ?_
    rw [hbit k hk]
    split
    · rfl
    next h48 => exact (h k (by omega) hk).symm

/-! #### The checks before the range is used -/

section
variable {s : State} {kind : Access} {md : Bool} {align : Nat} {x a : Quad} (ha : a = s.addr x)
include ha

theorem State.resolve_not_canonical (hj : s.jq = true) (hc : canonical a = false) :
    s.resolve kind md align x = .error (addrError kind a) := by
  simp only [State.resolve, ← ha, hj, hc, Bool.not_false, Bool.and_self, if_true]

theorem State.resolve_misaligned (h : a.toNat % align ≠ 0) :
    s.resolve kind md align x = .error (addrError kind a) := by
  simp only [State.resolve, ← ha, if_pos h, ite_self]

theorem State.resolve_no_range (h : findRange (mapIndex s.mapKind a) (mapRows s.mapKind) = none) :
    s.resolve kind md align x = .error (addrError kind a) := by
  simp only [State.resolve, ← ha, h]
  split
  · rfl
  · exact ite_self _

theorem State.resolve_no_rights {row : Range}
    (h : findRange (mapIndex s.mapKind a) (mapRows s.mapKind) = some row) (hm : md = false) (hu : row.user = false) :
    s.resolve kind md align x = .error (addrError kind a) := by
  simp only [State.resolve, ← ha, h, hm, hu, Bool.not_false, Bool.and_self, if_true]
  split
  · rfl
  · exact ite_self _

/-- After the checks, the range decides. -/
theorem State.resolve_eq_locate {row : Range}
    (h : findRange (mapIndex s.mapKind a) (mapRows s.mapKind) = some row) (hc : s.jq = true → canonical a = true)
    (hal : a.toNat % align = 0) (hu : md = true ∨ row.user = true) :
    s.resolve kind md align x = s.locate kind md row a := by
  have h1 : (s.jq && !canonical a) = false := by
    cases hj : s.jq with
    | false => rfl
    | true => rw [hc hj]; rfl
  have h2 : (!md && !row.user) = false := by obtain rfl | h := hu <;> simp [*]
  simp only [State.resolve, ← ha, h, h1, h2, hal, ne_eq, not_true_eq_false, Bool.false_eq_true, if_false]

end

/-! #### Where the access goes -/

theorem accessIsWrite_eq (kind : Access) : accessIsWrite kind = decide (kind = .write) := by cases kind <;> rfl

section
variable (s : State) (kind : Access) (md : Bool) (a : Quad)

theorem State.translate_suggested (k : MapKind) (full : Quad) (h : s.cfg.translate = .suggested) :
    s.translate k kind md full a = notDevice k full (a.toNat % physicalSize k) := by rw [State.translate, h]

theorem State.locate_direct {row : Range}
    (h : row.kind = .direct ∨ row.kind = .mmu ∧ s.cfg.translate = .suggested) :
    s.locate kind md row a = notDevice s.mapKind a (a.toNat % physicalSize s.mapKind) := by
  unfold State.locate
  obtain h | ⟨h, ht⟩ := h
  · rw [h]
  · rw [h]
    exact s.translate_suggested kind md a _ a ht

theorem State.locate_device {row : Range} (h : row.kind = .device) :
    s.locate kind md row a = .error (.refuse (.deviceAccess a)) := by
  unfold State.locate
  rw [h]

theorem State.locate_opened {row : Range} (h : row.kind = .mmu) (ht : s.cfg.translate = .opened) :
    s.locate kind md row a =
      match Config.openTranslate a kind md with
      | .physical q => notDevice s.mapKind a (physicalOf s.mapKind q)
      | .miss => .error (.exc (.tlbMiss a (kind = .write)))
      | .protection => .error (.exc (.tlbProtection a (kind = .write))) := by
  unfold State.locate
  rw [h]
  simp only [State.translate, ht, accessIsWrite_eq] <;> rfl

end

/-! #### Device regions -/

theorem findRange_mem {x : Nat} {rows : List Range} {row : Range} (h : findRange x rows = some row) : row ∈ rows := by
  induction rows with
  | nil => simp [findRange] at h
  | cons r rows ih =>
    rw [findRange] at h
    split at h
    · obtain rfl : r = row := by simpa using h
      exact List.mem_cons_self
    · exact List.mem_cons_of_mem r (ih h)

theorem isDevice_bjx32_iff (p : Nat) : isDevice .bjx32 p = true ↔ 0xE0000000 ≤ p ∧ p ≤ 0xFFFFFFFF := by
  simp [isDevice, deviceRegions]

/-- A physical address of bjx32 outside its device region lies in none of bjx48, whose window leads there. -/
theorem isDevice_bjx48_of_bjx32 {p : Nat} (h : isDevice .bjx32 p = false) (hp : p < 2 ^ 32) :
    isDevice .bjx48 p = false := by
  simp [isDevice, deviceRegions] at h ⊢
  omega

theorem State.translate_ok {s : State} {k : MapKind} {kind : Access} {md : Bool} {full a : Quad} {p : Nat}
    (h : s.translate k kind md full a = .ok p) :
    isDevice k p = false ∧ (p = a.toNat % physicalSize k ∨ ∃ q, p = physicalOf k q) := by
  unfold State.translate at h
  split at h
  · obtain ⟨rfl, hd⟩ := notDevice_ok h
    exact ⟨hd, .inl rfl⟩
  · split at h
    next q _ =>
      obtain ⟨rfl, hd⟩ := notDevice_ok h
      exact ⟨hd, .inr ⟨q, rfl⟩⟩
    · simp at h
    · simp at h

theorem window_only_bjx48 : ∀ k : MapKind, ∀ row ∈ mapRows k, row.kind = .window → k = .bjx48 := by
  rintro (_ | _ | _) row hrow hw <;> simp [mapRows] at hrow
  · obtain rfl | rfl | rfl | rfl := hrow <;> simp at hw
  · obtain rfl | rfl | rfl := hrow <;> simp at hw
  · rfl

theorem State.locate_ok {s : State} {kind : Access} {md : Bool} {row : Range} {a : Quad} {p : Nat}
    (hrow : row ∈ mapRows s.mapKind) (h : s.locate kind md row a = .ok p) : isDevice s.mapKind p = false := by
  unfold State.locate at h
  split at h
  · exact (State.translate_ok h).1
  · obtain ⟨rfl, hd⟩ := notDevice_ok h
    exact hd
  · simp at h
  next hk =>
    rw [window_only_bjx48 _ row hrow hk]
    split at h
    · split at h
      · simp at h
      · obtain ⟨hd, hp⟩ := State.translate_ok h
        refine isDevice_bjx48_of_bjx32 hd ?_
        obtain rfl | ⟨q, rfl⟩ := hp
        · exact Nat.mod_lt _ (by decide)
        · exact Nat.mod_lt _ (by decide)
    · simp at h

theorem State.isDevice_of_resolve {s : State} {kind : Access} {md : Bool} {align : Nat} {x : Quad} {p : Nat}
    (h : s.resolve kind md align x = .ok p) : isDevice s.mapKind p = false := by
  simp only [State.resolve] at h
  split at h
  · simp at h
  · split at h
    · simp at h
    · split at h
      · simp at h
      next row hrow =>
        split at h
        · simp at h
        · exact State.locate_ok (findRange_mem hrow) h

/-! #### The maps -/

theorem legacy29_user {x : Nat} (h : x < 2 ^ 32) :
    ∃ row, findRange x (mapRows .legacy29) = some row ∧ (row.user = true ↔ x < 0x80000000) := by
  simp only [mapRows, findRange]
  split_ifs <;> simp <;> omega

theorem bjx32_user {x : Nat} (h : x < 2 ^ 32) :
    ∃ row, findRange x (mapRows .bjx32) = some row ∧ (row.user = true ↔ x < 0xC0000000) := by
  simp only [mapRows, findRange]
  split_ifs <;> simp <;> omega

theorem bjx48_user {x : Nat} {row : Range} (h : findRange x (mapRows .bjx48) = some row) :
    row.user = true ↔ x < 0x800000000000 := by
  simp only [mapRows, findRange] at h
  split_ifs at h <;> (obtain rfl := Option.some.inj h; simp; omega)

/-- Settles O15. -/
theorem accessChecks : Obligations.AccessChecks := by
  refine ⟨canonical_iff, fun s kind md align x a ha => ⟨State.resolve_not_canonical ha, State.resolve_misaligned ha,
    State.resolve_no_range ha, fun row hrow => ⟨State.resolve_no_rights ha hrow, fun hc hal hu => ?goes⟩⟩,
    fun _ _ _ _ _ _ => State.isDevice_of_resolve, isDevice_bjx32_iff, fun _ => legacy29_user, fun _ => bjx32_user,
    fun _ _ _ => bjx48_user⟩
  rw [State.resolve_eq_locate ha hrow hc hal hu]
  refine ⟨s.locate_direct kind md a, fun hk ht => ?_, s.locate_device kind md a⟩
  rw [s.locate_opened kind md a hk ht]
  refine ⟨fun q hq => ?_, fun h => ?_, fun h => ?_⟩
  · rw [hq]
    rfl
  · rw [h]
  · rw [h]

end Sys2Proof.Machine
end

section
/-! PROOFS. Moves, extensions, multiplication, division and shifts (statements O28, O36, O37 and O39). -/
namespace Sys2Proof.Machine

/-! ### Parts of a low half, and quads from halves -/

/-- A field that lies in the low half. -/
theorem extractLsb'_lo32 (x : Quad) {k w : Nat} (h : k + w ≤ 32) : (lo32 x).extractLsb' k w = x.extractLsb' k w := by
  ext i hi
  simp [lo32, show k + i < 32 by omega]

theorem lo32_eq_extractLsb' (x : Quad) : lo32 x = x.extractLsb' 0 32 := by
  ext i hi
  simp [lo32]

theorem swapBytes_lo32 (x : Quad) :
    swapBytes (lo32 x) = x.extractLsb' 16 16 ++ x.extractLsb' 0 8 ++ x.extractLsb' 8 8 := by
  rw [swapBytes, extractLsb'_lo32 x (by decide), extractLsb'_lo32 x (by decide), extractLsb'_lo32 x (by decide)]

theorem swapWords_lo32 (x : Quad) : swapWords (lo32 x) = x.extractLsb' 0 16 ++ x.extractLsb' 16 16 := by
  rw [swapWords, extractLsb'_lo32 x (by decide), extractLsb'_lo32 x (by decide)]

theorem middle_lo32 (x y : Quad) : middle (lo32 x) (lo32 y) = x.extractLsb' 0 16 ++ y.extractLsb' 16 16 := by
  rw [middle, extractLsb'_lo32 x (by decide), extractLsb'_lo32 y (by decide)]

theorem bit32_eq (b : Bool) : bit32 b = if b then 1 else 0 := by cases b <;> rfl

theorem shiftLeft_32 (x : Quad) : lo32 x ++ 0#32 = x <<< 32 := by
  refine BitVec.eq_of_getLsbD_eq fun i hi => ?_
  rw [getLsbD_halves, BitVec.getLsbD_shiftLeft]
  by_cases h : i < 32
  · simp [h]
  · simp [h, lo32, show i - 32 < 32 by omega, hi]

theorem ushiftRight_32 (x : Quad) : zx32 (hi32 x) = x >>> 32 := by
  refine BitVec.eq_of_getLsbD_eq fun i hi => ?_
  by_cases h : i < 32
  · simp [zx32, hi32, h, hi]
  · simp [zx32, hi32, h, BitVec.getLsbD_of_ge x (32 + i) (by omega)]

theorem rotateLeft_32 (x : Quad) : lo32 x ++ hi32 x = x.rotateLeft 32 := by
  refine BitVec.eq_of_getLsbD_eq fun i hi => ?_
  rw [getLsbD_halves, BitVec.getLsbD_rotateLeft]
  by_cases h : i < 32
  · simp [h, hi32]
  · simp [h, lo32, hi, show i - 32 < 32 by omega]

/-- A high half of 0 is a zero extension. -/
theorem zero_append_lo32 (x : Quad) : 0#32 ++ lo32 x = (x.setWidth 32).setWidth 64 := by
  refine BitVec.eq_of_getLsbD_eq fun i hi => ?_
  rw [getLsbD_halves]
  by_cases h : i < 32
  · simp [h, lo32, hi]
  · simp [h]

/-! ### Rows that need high halves -/

@[simp] theorem State.needRh_of_hasRh {α : Type} {s : State} (h : s.hasRh = true) (r : Res α) : s.needRh r = r := if_pos h

@[simp] theorem State.needRh_of_not_hasRh {α : Type} {s : State} (h : s.hasRh = false) (r : Res α) :
    s.needRh r = illegal := by
  rw [State.needRh, h, if_neg Bool.false_ne_true]

/-- A 16-bit row that needs the high halves computes `t`, which is `u` as a rule writes it. -/
theorem does_short_needRh {i : Instr} {s t u : State} (h : s.hasRh = true) (ht : t = u)
    (hx : exec i s = short (firstWord i) s (s.needRh (.ok t))) : Does (encode i) i s (s.done16 u) :=
  does_short ht (by rw [hx, s.needRh_of_hasRh h])

/-- Without them it is an illegal instruction (rule R58). -/
theorem raises_short_needRh {i : Instr} {s : State} {r : Res State} (h : s.hasRh = false)
    (hx : exec i s = short (firstWord i) s (s.needRh r)) : Raises i s .illegal :=
  raises_short_illegal (s.needRh_of_not_hasRh h r) hx

/-! ### The moves and the extensions -/

/-- Settles O28: each row writes one register, at W = OPW or without a size suffix; what is written, in the fields its
rule names. -/
theorem movesAndExtracts : Obligations.MovesAndExtracts := by
  intro s
  refine ⟨fun n m => ?mov, fun n imm => ?movImm, fun n => ?movt, fun n => ?movrt, fun n m => ?swapB, fun n m => ?swapW,
    fun n m => ?xtrct⟩
  case mov => exact does_short (s.wr_opw n (s.r m)) (exec_movRmRn n m s)
  case movImm => exact does_short (s.wr_opw_signExtend n imm) (exec_movImmRn n imm s)
  case movt => exact does_short (congrArg _ (bit32_eq s.t)) (exec_movtRn n s)
  case movrt =>
    have hb : bit32 (!s.t) = if s.t then 0 else 1 := by cases s.t <;> rfl
    exact does_short (congrArg _ hb) (exec_movrtRn n s)
  case swapB => exact does_short (congrArg _ (swapBytes_lo32 (s.r m))) (exec_swapBRmRn n m s)
  case swapW => exact does_short (congrArg _ (swapWords_lo32 (s.r m))) (exec_swapWRmRn n m s)
  case xtrct => exact does_short (congrArg _ (middle_lo32 (s.r m) (s.r n))) (exec_xtrctRmRn n m s)

/-- Settles O36: the extensions are no-suffix writes of the extended field; the half-register rows rearrange the two
halves of a cell, and need the high ones. -/
theorem extendAndHalfRegisters : Obligations.ExtendAndHalfRegisters := by
  intro s
  refine ⟨fun n m => ?extsB, fun n m => ?extsW, fun n m => ?extuB, fun n m => ?extuW, fun n h => ?shll32,
    fun n h => raises_short_needRh h (exec_shll32Rn n s), fun n h => ?shlr32,
    fun n h => raises_short_needRh h (exec_shlr32Rn n s), fun n h => ?rot32,
    fun n h => raises_short_needRh h (exec_rot32Rn n s), fun n h => ?movhiTo,
    fun n h => raises_short_needRh h (exec_movhiR0RHn n s), fun m h => ?movhiFrom,
    fun m h => raises_short_needRh h (exec_movhiRHmR0 m s), fun n h => ?extul,
    fun n h => raises_short_needRh h (exec_extuLRn n s), fun n h => ?extsl,
    fun n h => raises_short_needRh h (exec_extsLRn n s)⟩
  case extsB => exact does_short (congrArg _ (lo32_signExtend _)) (exec_extsBRmRn n m s)
  case extsW => exact does_short (congrArg _ (lo32_signExtend _)) (exec_extsWRmRn n m s)
  case extuB => exact does_short (congrArg _ (lo32_setWidth _)) (exec_extuBRmRn n m s)
  case extuW => exact does_short (congrArg _ (lo32_setWidth _)) (exec_extuWRmRn n m s)
  case shll32 => exact does_short_needRh h (congrArg _ (shiftLeft_32 _)) (exec_shll32Rn n s)
  case shlr32 => exact does_short_needRh h (congrArg _ (ushiftRight_32 _)) (exec_shlr32Rn n s)
  case rot32 => exact does_short_needRh h (congrArg _ (rotateLeft_32 _)) (exec_rot32Rn n s)
  case movhiTo => exact does_short_needRh h rfl (exec_movhiR0RHn n s)
  case movhiFrom => exact does_short_needRh h rfl (exec_movhiRHmR0 m s)
  case extul => exact does_short_needRh h (congrArg (s.setR n) (zero_append_lo32 _)) (exec_extuLRn n s)
  case extsl => exact does_short_needRh h rfl (exec_extsLRn n s)

/-! ### Multiplication -/

/-- The product of two operands extended by `f` is that of their values, reduced (rules R381 to R384). -/
theorem mul_setWidth_eq_ofNat {w : Nat} (v : Nat) (a b : BitVec w) :
    a.setWidth v * b.setWidth v = BitVec.ofNat v (a.toNat * b.toNat) := by
  simp only [← BitVec.ofNat_toNat, BitVec.ofNat_mul]

theorem mul_signExtend_eq_ofInt {w : Nat} (v : Nat) (a b : BitVec w) :
    a.signExtend v * b.signExtend v = BitVec.ofInt v (a.toInt * b.toInt) := by
  simp only [BitVec.signExtend, BitVec.ofInt_mul]

/-- The low half of a 16-bit product is its value (rules R381, R382). -/
theorem lo32_zxN_mul (a b : Quad) :
    lo32 (zxN 16 a * zxN 16 b) = BitVec.ofNat 32 ((a.setWidth 16).toNat * (b.setWidth 16).toNat) := by
  rw [zxN, zxN, mul_setWidth_eq_ofNat, lo32, BitVec.setWidth_ofNat_of_le (by decide)]

theorem lo32_sxN_mul (a b : Quad) :
    lo32 (sxN 16 a * sxN 16 b) = BitVec.ofInt 32 ((a.setWidth 16).toInt * (b.setWidth 16).toInt) := by
  rw [sxN, sxN, lo32, BitVec.setWidth_mul _ _ (by decide)]
  simp only [← lo32.eq_1, lo32_signExtend, mul_signExtend_eq_ofInt]

/-- MACH and MACL together after a 64 by 64 multiplication. -/
theorem State.setMac128_eq (s : State) (p : BitVec 128) :
    s.setMac128 p = { s with mach := p.extractLsb' 64 64, macl := p.extractLsb' 0 64 } := by
  have hlow : p.setWidth 64 = p.extractLsb' 0 64 := by
    ext i hi
    simp
  rw [State.setMac128, hlow]

/-- MACL alone, its low half. -/
theorem State.setSys_macl (s : State) (v : Quad) :
    s.setSys false .macl v = { s with macl := hi32 s.macl ++ lo32 v } := rfl

/-! ### Division -/

/-- The bit shifted in at the bottom (rule R388). -/
theorem shiftLeft_or_ofBool (x : Dword) (b : Bool) :
    (x <<< 1) ||| (BitVec.ofBool b).setWidth 32 = BitVec.ofNat 32 (2 * x.toNat + b.toNat) := by
  have hor : (x <<< 1) ||| (BitVec.ofBool b).setWidth 32 = (x <<< 1) + (BitVec.ofBool b).setWidth 32 := by
    refine (BitVec.add_eq_or_of_and_eq_zero _ _ ?_).symm
    ext i hi
    by_cases h : i = 0 <;> simp [h]
  refine BitVec.eq_of_toNat_eq ?_
  rw [hor]
  cases b <;> simp [BitVec.toNat_shiftLeft, Nat.shiftLeft_eq, Nat.mul_comm]

/-- One division step from the exact sum or difference `x` (rule R388). -/
theorem div1Step_eq (rn rm r : Dword) (q m t : Bool) (x : Int) (q' : Bool)
    (hr : r = BitVec.ofNat 32 (2 * rn.toNat + t.toNat))
    (hx : x = if q = m then (r.toNat : Int) - rm.toNat else (r.toNat : Int) + rm.toNat)
    (hq : q' = (rn.getLsbD 31 ^^ decide (x < 0 ∨ 2 ^ 32 ≤ x) ^^ m)) :
    div1Step rn rm q m t = (BitVec.ofInt 32 x, q', decide (q' = m)) := by
  have hrl := r.isLt
  have hml := rm.isLt
  have hres : (if q = m then r - rm else r + rm) = BitVec.ofInt 32 x := by
    rw [hx]
    split
    · simp [Int.sub_eq_add_neg, BitVec.ofInt_add, BitVec.ofInt_neg, BitVec.sub_eq_add_neg]
    · simp [BitVec.ofInt_add]
  have hcarry : (if q = m then decide (r.toNat < rm.toNat) else decide (2 ^ 32 ≤ r.toNat + rm.toNat)) =
      decide (x < 0 ∨ 2 ^ 32 ≤ x) := by
    rw [hx]
    split <;> exact decide_eq_decide.mpr (by omega)
  unfold div1Step
  dsimp only
  rw [shiftLeft_or_ofBool, ← hr, hres, hcarry, ← hq]
  cases q' <;> cases m <;> rfl

/-! ### Multiply and accumulate -/

/-- The two reads of a multiply-accumulate, each of `z` bytes with post-increment, and then `w` of the state reached and
of what was read (rules R398, R399). -/
def State.macReads (s : State) (n m : Reg) (z : Nat) (w : State → Quad → Quad → State) : Res State :=
  match s.load (s.r n) z with
  | .error e => .error e
  | .ok a =>
    let s' := s.wrA n (s.r n + quadOf z)
    match s'.load (s'.r m) z with
    | .error e => .error e
    | .ok b => .ok (w (s'.wrA m (s'.r m + quadOf z)) a b)

theorem State.macL_eq (s : State) (n m : Reg) :
    s.macL n m = s.macReads n m 4 fun t a b => t.setMac32
      (macLong s.sat (lo32 s.mach ++ lo32 s.macl : Quad).toInt ((lo32 a).toInt * (lo32 b).toInt)) := rfl

theorem State.macW_eq {s : State} (h : s.dq = false) (n m : Reg) :
    s.macW n m = s.macReads n m 2 fun t a b => t.setMac32
      ((macWord s.sat (lo32 s.mach) (lo32 s.macl) ((a.setWidth 16).toInt * (b.setWidth 16).toInt)).1 ++
        (macWord s.sat (lo32 s.mach) (lo32 s.macl) ((a.setWidth 16).toInt * (b.setWidth 16).toInt)).2) := by
  rw [State.macW, h]
  rfl

theorem State.macW_of_dq {s : State} (h : s.dq = true) (n m : Reg) : s.macW n m = illegal := by
  rw [State.macW, h]
  rfl

/-- A multiply-accumulate whose last step depends on the operands by their product alone. -/
theorem doesMac_short {i : Instr} {s : State} {n m : Reg} {z : Nat} {w : State → Quad → Quad → State}
    {u : State → Int → State} (hz : alignOf z = z)
    (hw : ∀ t a b, w t a b = u t ((a.setWidth (8 * z)).toInt * (b.setWidth (8 * z)).toInt))
    (hx : exec i s = short (firstWord i) s (s.macReads n m z w)) : DoesMac (encode i) i s n m z u := by
  have hload : ∀ ea, (s.wrA n (s.r n + quadOf z)).load ea z = s.load ea z := fun ea => by
    rw [State.load, State.load, State.wrA_md, State.wrA_cfg, State.wrA_mem,
      State.resolve_congr (s := s) (by simp) (by simp)]
  have hal : ∀ ea, s.resolve .read s.md (alignOf z) ea = s.resolve .read s.md z ea := fun ea => by rw [hz]
  unfold DoesMac Raises
  simp only [hx, State.macReads, hload, ← State.wrA_eq]
  refine ⟨trivial, fun p q hp hq => ?both, fun e hp => ?first, fun p e hp hq => ?second⟩
  case both =>
    rw [State.load_ok ((hal _).trans hp), State.load_ok ((hal _).trans hq)]
    dsimp only
    rw [hw, short_ok]
  case first =>
    rw [State.load_error ((hal _).trans hp)]
    rfl
  case second =>
    rw [State.load_ok ((hal _).trans hp), State.load_error ((hal _).trans hq)]
    rfl

/-- MAC.W by the cases of its rule (rule R399). -/
theorem State.setMac32_macWord (s t : State) (x : Int) :
    t.setMac32 ((macWord s.sat (lo32 s.mach) (lo32 s.macl) x).1 ++ (macWord s.sat (lo32 s.mach) (lo32 s.macl) x).2) =
      if s.sat = false then t.putMac (BitVec.ofInt 64 ((lo32 s.mach ++ lo32 s.macl : Quad).toInt + x))
      else if 2 ^ 31 ≤ (lo32 s.macl).toInt + x then t.putMac ((lo32 s.mach ||| 1) ++ 0x7FFFFFFF#32)
      else if (lo32 s.macl).toInt + x < -(2 ^ 31) then t.putMac ((lo32 s.mach ||| 1) ++ 0x80000000#32)
      else t.putMac (lo32 s.mach ++ BitVec.ofInt 32 ((lo32 s.macl).toInt + x)) := by
  have hput : ∀ v, t.setMac32 v = t.putMac v := fun _ => rfl
  unfold macWord
  rw [hput]
  cases s.sat
  · rw [if_pos rfl, if_neg Bool.false_ne_true]
    dsimp only
    rw [← lo32_eq_extractLsb', ← hi32.eq_1, hi32_lo32]
  · rw [if_pos rfl, if_neg (show ¬ true = false by decide)]
    dsimp only
    split
    · rfl
    · split <;> rfl

/-- Settles O37: the products by the values of their operands, DIV1 by its exact sum or difference, and MAC by its exact
sum. -/
theorem multiplyAndDivide : Obligations.MultiplyAndDivide := by
  intro s
  refine ⟨fun n m => ?mulL, fun n m => ?mulu, fun n m => ?muls, fun n m => ?dmulu, fun n m => ?dmuls,
    fun n m => ?div0s, ?div0u, fun n m r hr x hx q hq => ?div1, fun n m => ?macL, fun n m hd => ?macW,
    fun n m hd => ?macWIllegal⟩
  case mulL => exact does_short (by rw [State.setSys_macl, lo32_zx32]) (exec_mulLRmRn n m s)
  case mulu =>
    refine does_short ?_ (exec_muluWQRmRn n m s)
    rw [State.mulu, mul_setWidth_eq_ofNat, State.setMac128_eq, State.setSys_macl, lo32_zxN_mul]
  case muls =>
    refine does_short ?_ (exec_mulsWQRmRn n m s)
    rw [State.muls, mul_signExtend_eq_ofInt, State.setMac128_eq, State.setSys_macl, lo32_sxN_mul]
  case dmulu => exact does_short (by rw [State.setMac32, zx32, zx32, mul_setWidth_eq_ofNat]) (exec_dmuluLRmRn n m s)
  case dmuls => exact does_short (by rw [State.setMac32, mul_signExtend_eq_ofInt]) (exec_dmulsLRmRn n m s)
  case div0s => exact does_short rfl (exec_div0sRmRn n m s)
  case div0u => exact does_short rfl (exec_div0u s)
  case div1 =>
    have hmsb : (lo32 (s.r n)).getLsbD 31 = (s.r n).getLsbD 31 := by simp [lo32]
    refine does_short ?_ (exec_div1RmRn n m s)
    rw [State.div1, div1Step_eq _ _ r _ _ _ x q hr hx (by rw [hmsb, hq])]
  case macL =>
    refine doesMac_short rfl (fun t a b => ?_) ((exec_macLAtRmIncAtRnInc n m s).trans (congrArg _ (s.macL_eq n m)))
    rw [macLong_eq]
    rfl
  case macW =>
    exact doesMac_short rfl (fun t a b => s.setMac32_macWord t _)
      ((exec_macWQAtRmIncAtRnInc n m s).trans (congrArg _ (State.macW_eq hd n m)))
  case macWIllegal => exact raises_short_illegal (State.macW_of_dq hd n m) (exec_macWQAtRmIncAtRnInc n m s)

/-! ### The shifts -/

/-- A one-place shift or rotate whose result is `g` as its rule writes it, at both widths. -/
theorem State.unTOp_rule (s : State) {f : (w : Nat) → BitVec w → Bool → BitVec w × Bool} {n : Reg} {g : Computation}
    (h64 : ∀ a t, (some (f 64 a t).1, some (f 64 a t).2) = g 64 a 0 t)
    (h32 : ∀ a t, (some (f 32 a t).1, some (f 32 a t).2) = g 32 a 0 t) :
    s.unTOp f n = s.resultW n (s.r n) 0 g := by
  rw [s.unTOp_eq, State.resultW, State.resultW, h64]
  exact congrArg (fun r => if s.dq then _ else s.result32 false n r) (h32 _ _)

/-- Settles O39: every line but the last two is a computation at W = OPW; the machine's rotates are those of the rules at
both widths. -/
theorem shifts : Obligations.Shifts := by
  intro s
  refine ⟨fun n m => ?shad, fun n m => ?shld, fun n => ?shll, fun n => ?shal, fun n => ?shlr, fun n => ?shar,
    fun n => ?rotl, fun n => ?rotr, fun n => ?rotcl, fun n => ?rotcr, fun n => ?shll2, fun n => ?shll8,
    fun n => ?shll16, fun n => ?shlr2, fun n => ?shlr8, fun n => ?shlr16, fun n => ?shll4, fun n => ?shlr4⟩
  case shad => exact does_short (s.binOp_aluShad n (s.r n) (s.r m)) (exec_shadRmRn n m s)
  case shld => exact does_short (s.binOp_aluShld n (s.r n) (s.r m)) (exec_shldRmRn n m s)
  case shll => exact does_short (s.unTOp_eq aluShl1 n) (exec_shllRn n s)
  case shal => exact does_short (s.unTOp_eq aluShl1 n) (exec_shalRn n s)
  case shlr => exact does_short (s.unTOp_eq aluShr1 n) (exec_shlrRn n s)
  case shar => exact does_short (s.unTOp_eq aluSar1 n) (exec_sharRn n s)
  case rotl =>
    exact does_short (s.unTOp_rule (fun a t => by rw [aluRotl_fst (by decide)]; rfl) fun a t => by
      rw [aluRotl_fst (by decide)]; rfl) (exec_rotlRn n s)
  case rotr =>
    exact does_short (s.unTOp_rule (fun a t => by rw [aluRotr_fst (by decide)]; rfl) fun a t => by
      rw [aluRotr_fst (by decide)]; rfl) (exec_rotrRn n s)
  case rotcl =>
    exact does_short (s.unTOp_rule (fun a t => by rw [aluRotcl, shiftInLow_fst]; rfl) fun a t => by
      rw [aluRotcl, shiftInLow_fst]; rfl) (exec_rotclRn n s)
  case rotcr =>
    exact does_short (s.unTOp_rule (fun a t => by rw [aluRotcr, shiftInHigh_fst (by decide)]; rfl) fun a t => by
      rw [aluRotcr, shiftInHigh_fst (by decide)]; rfl) (exec_rotcrRn n s)
  case shll2 => exact does_short (s.unOp_eq (aluShlBy 2) n) (exec_shll2Rn n s)
  case shll8 => exact does_short (s.unOp_eq (aluShlBy 8) n) (exec_shll8Rn n s)
  case shll16 => exact does_short (s.unOp_eq (aluShlBy 16) n) (exec_shll16Rn n s)
  case shlr2 => exact does_short (s.unOp_eq (aluShrBy 2) n) (exec_shlr2Rn n s)
  case shlr8 => exact does_short (s.unOp_eq (aluShrBy 8) n) (exec_shlr8Rn n s)
  case shlr16 => exact does_short (s.unOp_eq (aluShrBy 16) n) (exec_shlr16Rn n s)
  case shll4 => exact does_short rfl (exec_shll4Rn n s)
  case shlr4 => exact does_short rfl (exec_shlr4Rn n s)

end Sys2Proof.Machine
end

section
/-! PROOFS. System registers (statements O41 to O45). -/
namespace Sys2Proof.Machine

/-! ### Checks that pass -/

theorem State.priv_of_md {α : Type} {s : State} (h : s.md = true) (r : Res α) : s.priv r = r := if_pos h

/-- With the FPU on, FpuCheck passes (rule R641). -/
theorem State.fpu_of_on {α : Type} {s : State} (h : s.FpuOn) (r : Res α) : s.fpu r = r := by
  obtain ⟨hb, hf⟩ := h
  rw [State.fpu, hb, hf]
  rfl

/-! ### A write of an address register leaves the system registers -/

@[simp] theorem State.writeA_cfg (s : State) (n : Reg) (v : Quad) : (s.writeA n v).cfg = s.cfg := by
  rw [← State.wrA_eq, State.wrA_cfg]
@[simp] theorem State.writeA_sr (s : State) (n : Reg) (v : Quad) : (s.writeA n v).sr = s.sr := by
  rw [← State.wrA_eq, State.wrA_sr]
@[simp] theorem State.writeA_gbr (s : State) (n : Reg) (v : Quad) : (s.writeA n v).gbr = s.gbr := by
  rw [← State.wrA_eq, State.wrA_gbr]
@[simp] theorem State.writeA_vbr (s : State) (n : Reg) (v : Quad) : (s.writeA n v).vbr = s.vbr := by
  rw [← State.wrA_eq, State.wrA_vbr]
@[simp] theorem State.writeA_ssr (s : State) (n : Reg) (v : Quad) : (s.writeA n v).ssr = s.ssr := by
  rw [← State.wrA_eq, State.wrA_ssr]
@[simp] theorem State.writeA_spc (s : State) (n : Reg) (v : Quad) : (s.writeA n v).spc = s.spc := by
  rw [← State.wrA_eq, State.wrA_spc]
@[simp] theorem State.writeA_sgr (s : State) (n : Reg) (v : Quad) : (s.writeA n v).sgr = s.sgr := by
  rw [← State.wrA_eq, State.wrA_sgr]
@[simp] theorem State.writeA_dbr (s : State) (n : Reg) (v : Quad) : (s.writeA n v).dbr = s.dbr := by
  rw [← State.wrA_eq, State.wrA_dbr]
@[simp] theorem State.writeA_mach (s : State) (n : Reg) (v : Quad) : (s.writeA n v).mach = s.mach := by
  rw [← State.wrA_eq, State.wrA_mach]
@[simp] theorem State.writeA_macl (s : State) (n : Reg) (v : Quad) : (s.writeA n v).macl = s.macl := by
  rw [← State.wrA_eq, State.wrA_macl]
@[simp] theorem State.writeA_pr (s : State) (n : Reg) (v : Quad) : (s.writeA n v).pr = s.pr := by
  rw [← State.wrA_eq, State.wrA_pr]

theorem State.writeA_bankB (s : State) (n : Reg) (v : Quad) : (s.writeA n v).bankB = s.bankB := by
  simp only [State.bankB, State.md, State.rb, State.writeA_sr]

/-! ### The other bank -/

/-- In supervisor mode the bank that is not mapped is named by SR.RB (rules R52, R53). -/
theorem State.bankB_of_md {s : State} (h : s.md = true) : s.bankB = s.rb := by
  rw [State.bankB, h, Bool.true_and]

theorem State.ob_of_md {s : State} (h : s.md = true) (b : BankReg) : s.ob b = get8 (if s.rb then s.ga else s.gb) b := by
  rw [State.ob, State.bankB_of_md h]
  cases s.rb <;> rfl

/-- A write of `Rm_B`, at 64 bits when `q` (rules R53, R540 (b)). -/
theorem State.setSys_bank {s : State} {rb : Bool} (h : s.bankB = rb) (q : Bool) (b : BankReg) (v : Quad) :
    s.setSys q (.bank b) v =
      if rb then { s with ga := set8 s.ga b (merge q (get8 s.ga b) v) }
      else { s with gb := set8 s.gb b (merge q (get8 s.gb b) v) } := by
  rw [State.setSys, State.setOb, State.ob, h]
  cases rb <;> simp only [if_true, Bool.false_eq_true, if_false]

/-! ### The plain system registers -/

/-- A system register other than the FPU's and the other bank's. -/
def SysReg.isPlain : SysReg → Bool
  | .fpul | .fpscr | .bank _ => false
  | _ => true

/-- The state with all bits of a plain system register replaced. -/
def State.withSys (s : State) (x : SysReg) (v : Quad) : State :=
  match x with
  | .sr => { s with sr := v }
  | .gbr => { s with gbr := v }
  | .vbr => { s with vbr := v }
  | .ssr => { s with ssr := v }
  | .spc => { s with spc := v }
  | .sgr => { s with sgr := v }
  | .dbr => { s with dbr := v }
  | .mach => { s with mach := v }
  | .macl => { s with macl := v }
  | .pr => { s with pr := v }
  | .fpul | .fpscr | .bank _ => s

/-- What of `v` a system register takes: SR its defined bits (rule R76). -/
def State.sysMask (s : State) (x : SysReg) (v : Quad) : Quad :=
  match x with
  | .sr => v &&& srMask s.cfg
  | _ => v

/-- A write of a plain system register after that of an address register. -/
theorem State.setSys_writeA (s : State) (n : Reg) (a : Quad) (q : Bool) {x : SysReg} (hx : x.isPlain = true)
    (v : Quad) :
    (s.writeA n a).setSys q x v = (s.writeA n a).withSys x (merge q (s.sys x) (s.sysMask x v)) := by
  match x with
  | .sr =>
    exact congrArg₂ (fun old c => ({ s.writeA n a with sr := merge q old (v &&& srMask c) } : State))
      (s.writeA_sr n a) (s.writeA_cfg n a)
  | .gbr => rw [State.setSys, State.writeA_gbr]; rfl
  | .vbr => rw [State.setSys, State.writeA_vbr]; rfl
  | .ssr => rw [State.setSys, State.writeA_ssr]; rfl
  | .spc => rw [State.setSys, State.writeA_spc]; rfl
  | .sgr => rw [State.setSys, State.writeA_sgr]; rfl
  | .dbr => rw [State.setSys, State.writeA_dbr]; rfl
  | .mach => rw [State.setSys, State.writeA_mach]; rfl
  | .macl => rw [State.setSys, State.writeA_macl]; rfl
  | .pr => rw [State.setSys, State.writeA_pr]; rfl
  | .fpul | .fpscr | .bank _ => exact absurd hx Bool.false_ne_true

/-! ### Transfers -/

/-- The alignment of 4 or 8 bytes by JQ (rule R137). -/
theorem State.alignOf_lq (s : State) : alignOf s.lq = 4 := by
  unfold State.lq
  split <;> rfl

theorem State.quadOf_lq (s : State) : quadOf s.lq = if s.jq then 8 else 4 := by
  unfold State.lq
  split <;> rfl

section
variable {i : Instr} {s : State} {x : SysReg} {n : Reg}

/-- `R[n] <-{W} X{W}`, where the check passes (rule R540 (b)). -/
theorem doesSysToReg {v : Quad} {l : Dword} (hc : ∀ r : Res State, s.sysCheck x r = r) (hv : s.sys x = v)
    (hl : lo32 v = l) (hx : exec i s = short (firstWord i) s (s.sysToReg x n)) :
    Does (encode i) i s (s.done16 (s.writeW n v l)) :=
  have ht : s.wr s.dq n (s.sys x) = s.writeW n v l := by rw [hv, s.wr_opw, hl]
  does_short ht (by rw [hx, State.sysToReg, hc])

/-- `X <-{W} R[n]{W}`, where the check passes (rule R540 (b)). -/
theorem doesRegToSys {u : State} (hc : ∀ r : Res State, s.sysCheck x r = r) (hu : s.setSys s.dq x (s.r n) = u)
    (hx : exec i s = short (firstWord i) s (s.regToSys x n)) : Does (encode i) i s (s.done16 u) :=
  does_short hu (by rw [hx, State.regToSys, hc])

/-- `X` stored at `@-Rn`, where the check passes (rule R600). -/
theorem doesSysToMem {v : Quad} (hc : ∀ r : Res State, s.sysCheck x r = r) (hv : s.sys x = v)
    (hx : exec i s = short (firstWord i) s (s.sysToMem x n)) :
    DoesStore (encode i) i s 4 (if s.jq then 8 else 4) (s.r n - (if s.jq then 8 else 4)) v
      (s.done16 (s.writeA n (s.r n - (if s.jq then 8 else 4)))) :=
  doesStore_short_dec (n := s.lq) s.alignOf_lq s.quadOf_lq (by rw [hx, State.sysToMem, hc, hv])

/-- `X` loaded from `@Rn+`, where the check passes; the register is written first (rule R613). -/
theorem doesMemToSys {g : Quad → State} (hc : ∀ r : Res State, s.sysCheck x r = r)
    (hg : ∀ v, (s.writeA n (s.r n + (if s.jq then 8 else 4))).setSys s.jq x v = g v)
    (hx : exec i s = short (firstWord i) s (s.memToSys x n)) :
    DoesLoad (encode i) i s 4 (if s.jq then 8 else 4) (s.r n) fun v => s.done16 (g v) := by
  have hw : ∀ v, (s.wrA n (s.r n + quadOf s.lq)).setSys s.jq x v = g v := fun v => by
    rw [State.wrA_eq, s.quadOf_lq, hg]
  simp only [← hw]
  exact (s.ends_short _).doesLoad s.alignOf_lq (by rw [hx, State.memToSys, hc])

/-- The same, of a register that no mode banks and that is not the FPU's. -/
theorem doesMemToSys_merge (hc : ∀ r : Res State, s.sysCheck x r = r) (hx32 : x.isPlain = true)
    (hx : exec i s = short (firstWord i) s (s.memToSys x n)) :
    DoesLoad (encode i) i s 4 (if s.jq then 8 else 4) (s.r n) fun v => s.done16
      ((s.writeA n (s.r n + (if s.jq then 8 else 4))).withSys x (s.mergeA (s.sys x) (s.sysMask x v))) :=
  doesMemToSys hc (s.setSys_writeA n _ s.jq hx32) hx

end

/-! ### The statements -/

/-- Settles O41: each line is a transfer that its check lets pass, at W = OPW. -/
theorem systemRegisterMoves : Obligations.SystemRegisterMoves := by
  intro s
  refine ⟨fun n h => ?stcSrRn, fun n => ?stcGbrRn, fun n h => ?stcVbrRn, fun n h => ?stcSsrRn, fun n h => ?stcSpcRn,
    fun n b h => ?stcRmBRn, fun n h => ?stcSgrRn, fun n h => ?stcDbrRn, fun n => ?stsMachRn, fun n => ?stsMaclRn,
    fun n => ?stsPrRn, fun m => ?ldcRmGbr, fun m h => ?ldcRmVbr, fun m h => ?ldcRmSsr, fun m h => ?ldcRmSpc,
    fun m h => ?ldcRmSgr, fun m h => ?ldcRmDbr, fun m => ?ldsRmMach, fun m => ?ldsRmMacl, fun m => ?ldsRmPr,
    fun m h => ?ldcRmSr, fun m b h => ?ldcRmRnB⟩
  case stcSrRn => exact doesSysToReg (State.priv_of_md h) rfl rfl (exec_stcSrRn n s)
  case stcGbrRn => exact doesSysToReg (fun _ => rfl) rfl rfl (exec_stcGbrRn n s)
  case stcVbrRn => exact doesSysToReg (State.priv_of_md h) rfl rfl (exec_stcVbrRn n s)
  case stcSsrRn => exact doesSysToReg (State.priv_of_md h) rfl rfl (exec_stcSsrRn n s)
  case stcSpcRn => exact doesSysToReg (State.priv_of_md h) rfl rfl (exec_stcSpcRn n s)
  case stcRmBRn => exact doesSysToReg (x := .bank b) (State.priv_of_md h) (State.ob_of_md h b) rfl (exec_stcRmBRn n b s)
  case stcSgrRn => exact doesSysToReg (State.priv_of_md h) rfl rfl (exec_stcSgrRn n s)
  case stcDbrRn => exact doesSysToReg (State.priv_of_md h) rfl rfl (exec_stcDbrRn n s)
  case stsMachRn => exact doesSysToReg (fun _ => rfl) rfl rfl (exec_stsMachRn n s)
  case stsMaclRn => exact doesSysToReg (fun _ => rfl) rfl rfl (exec_stsMaclRn n s)
  case stsPrRn => exact doesSysToReg (fun _ => rfl) rfl rfl (exec_stsPrRn n s)
  case ldcRmGbr => exact doesRegToSys (fun _ => rfl) rfl (exec_ldcRmGbr m s)
  case ldcRmVbr => exact doesRegToSys (State.priv_of_md h) rfl (exec_ldcRmVbr m s)
  case ldcRmSsr => exact doesRegToSys (State.priv_of_md h) rfl (exec_ldcRmSsr m s)
  case ldcRmSpc => exact doesRegToSys (State.priv_of_md h) rfl (exec_ldcRmSpc m s)
  case ldcRmSgr => exact doesRegToSys (State.priv_of_md h) rfl (exec_ldcRmSgr m s)
  case ldcRmDbr => exact doesRegToSys (State.priv_of_md h) rfl (exec_ldcRmDbr m s)
  case ldsRmMach => exact doesRegToSys (fun _ => rfl) rfl (exec_ldsRmMach m s)
  case ldsRmMacl => exact doesRegToSys (fun _ => rfl) rfl (exec_ldsRmMacl m s)
  case ldsRmPr => exact doesRegToSys (fun _ => rfl) rfl (exec_ldsRmPr m s)
  case ldcRmSr => exact doesRegToSys (State.priv_of_md h) rfl (exec_ldcRmSr m s)
  case ldcRmRnB =>
    exact doesRegToSys (State.priv_of_md h) (State.setSys_bank (State.bankB_of_md h) _ b _) (exec_ldcRmRnB m b s)

/-- Settles O42: with the FPU on its check lets every transfer pass. -/
theorem systemFpuTransfers : Obligations.SystemFpuTransfers := by
  intro s
  refine ⟨fun n h => ?stsFpulRn, fun n h => ?stsFpscrRn, fun m h => ?ldsRmFpul, fun m h => ?ldsRmFpscr,
    fun n h => ?stsLQFpulAtDecRn, fun n h => ?stsLQFpscrAtDecRn, fun m h => ?ldsLQAtRmIncFpul,
    fun m h => ?ldsLQAtRmIncFpscr⟩
  case stsFpulRn => exact doesSysToReg (State.fpu_of_on h) rfl (lo32_zx32 _) (exec_stsFpulRn n s)
  case stsFpscrRn => exact doesSysToReg (State.fpu_of_on h) rfl (lo32_zx32 _) (exec_stsFpscrRn n s)
  case ldsRmFpul => exact doesRegToSys (State.fpu_of_on h) rfl (exec_ldsRmFpul m s)
  case ldsRmFpscr => exact doesRegToSys (State.fpu_of_on h) rfl (exec_ldsRmFpscr m s)
  case stsLQFpulAtDecRn => exact doesSysToMem (State.fpu_of_on h) rfl (exec_stsLQFpulAtDecRn n s)
  case stsLQFpscrAtDecRn => exact doesSysToMem (State.fpu_of_on h) rfl (exec_stsLQFpscrAtDecRn n s)
  case ldsLQAtRmIncFpul => exact doesMemToSys (State.fpu_of_on h) (fun v => rfl) (exec_ldsLQAtRmIncFpul m s)
  case ldsLQAtRmIncFpscr => exact doesMemToSys (State.fpu_of_on h) (fun v => rfl) (exec_ldsLQAtRmIncFpscr m s)

/-- Settles O43: each line is a store with pre-decrement or a load with post-increment, of 4 or 8 bytes by JQ. -/
theorem systemRegisterMemory : Obligations.SystemRegisterMemory := by
  intro s
  refine ⟨fun n => ?stsLQMachAtDecRn, fun n => ?stsLQMaclAtDecRn, fun n => ?stsLQPrAtDecRn,
    fun n h => ?stcLQSgrAtDecRn, fun n h => ?stcLQDbrAtDecRn, fun n h => ?stcLQSrAtDecRn, fun n => ?stcLQGbrAtDecRn,
    fun n h => ?stcLQVbrAtDecRn, fun n h => ?stcLQSsrAtDecRn, fun n h => ?stcLQSpcAtDecRn,
    fun n b h => ?stcLQRmBAtDecRn, fun m => ?ldsLQAtRmIncMach, fun m => ?ldsLQAtRmIncMacl, fun m => ?ldsLQAtRmIncPr,
    fun m h => ?ldcLQAtRmIncSgr, fun m h => ?ldcLQAtRmIncDbr, fun m => ?ldcLQAtRmIncGbr, fun m h => ?ldcLQAtRmIncVbr,
    fun m h => ?ldcLQAtRmIncSsr, fun m h => ?ldcLQAtRmIncSpc, fun m h => ?ldcLQAtRmIncSr,
    fun m b h => ?ldcLQAtRmIncRnB⟩
  case stsLQMachAtDecRn => exact doesSysToMem (fun _ => rfl) rfl (exec_stsLQMachAtDecRn n s)
  case stsLQMaclAtDecRn => exact doesSysToMem (fun _ => rfl) rfl (exec_stsLQMaclAtDecRn n s)
  case stsLQPrAtDecRn => exact doesSysToMem (fun _ => rfl) rfl (exec_stsLQPrAtDecRn n s)
  case stcLQSgrAtDecRn => exact doesSysToMem (State.priv_of_md h) rfl (exec_stcLQSgrAtDecRn n s)
  case stcLQDbrAtDecRn => exact doesSysToMem (State.priv_of_md h) rfl (exec_stcLQDbrAtDecRn n s)
  case stcLQSrAtDecRn => exact doesSysToMem (State.priv_of_md h) rfl (exec_stcLQSrAtDecRn n s)
  case stcLQGbrAtDecRn => exact doesSysToMem (fun _ => rfl) rfl (exec_stcLQGbrAtDecRn n s)
  case stcLQVbrAtDecRn => exact doesSysToMem (State.priv_of_md h) rfl (exec_stcLQVbrAtDecRn n s)
  case stcLQSsrAtDecRn => exact doesSysToMem (State.priv_of_md h) rfl (exec_stcLQSsrAtDecRn n s)
  case stcLQSpcAtDecRn => exact doesSysToMem (State.priv_of_md h) rfl (exec_stcLQSpcAtDecRn n s)
  case stcLQRmBAtDecRn =>
    exact doesSysToMem (x := .bank b) (State.priv_of_md h) (State.ob_of_md h b) (exec_stcLQRmBAtDecRn n b s)
  case ldsLQAtRmIncMach => exact doesMemToSys_merge (x := .mach) (fun _ => rfl) rfl (exec_ldsLQAtRmIncMach m s)
  case ldsLQAtRmIncMacl => exact doesMemToSys_merge (x := .macl) (fun _ => rfl) rfl (exec_ldsLQAtRmIncMacl m s)
  case ldsLQAtRmIncPr => exact doesMemToSys_merge (x := .pr) (fun _ => rfl) rfl (exec_ldsLQAtRmIncPr m s)
  case ldcLQAtRmIncSgr => exact doesMemToSys_merge (x := .sgr) (State.priv_of_md h) rfl (exec_ldcLQAtRmIncSgr m s)
  case ldcLQAtRmIncDbr => exact doesMemToSys_merge (x := .dbr) (State.priv_of_md h) rfl (exec_ldcLQAtRmIncDbr m s)
  case ldcLQAtRmIncGbr => exact doesMemToSys_merge (x := .gbr) (fun _ => rfl) rfl (exec_ldcLQAtRmIncGbr m s)
  case ldcLQAtRmIncVbr => exact doesMemToSys_merge (x := .vbr) (State.priv_of_md h) rfl (exec_ldcLQAtRmIncVbr m s)
  case ldcLQAtRmIncSsr => exact doesMemToSys_merge (x := .ssr) (State.priv_of_md h) rfl (exec_ldcLQAtRmIncSsr m s)
  case ldcLQAtRmIncSpc => exact doesMemToSys_merge (x := .spc) (State.priv_of_md h) rfl (exec_ldcLQAtRmIncSpc m s)
  case ldcLQAtRmIncSr => exact doesMemToSys_merge (x := .sr) (State.priv_of_md h) rfl (exec_ldcLQAtRmIncSr m s)
  case ldcLQAtRmIncRnB =>
    exact doesMemToSys (x := .bank b) (State.priv_of_md h)
      (fun v => State.setSys_bank ((s.writeA_bankB m _).trans (State.bankB_of_md h)) _ b v)
      (exec_ldcLQAtRmIncRnB m b s)

/-! ### Flags, modes and hints -/

/-- A mode row runs on a BJX1-64, in user mode only where the parameter lets it (rules R566 to R571). -/
theorem does_modeOp {i : Instr} {s u : State} (h64 : s.is64 = true)
    (hp : s.cfg.modeOpsPrivileged = true → s.md = true) (hx : exec i s = short (firstWord i) s (s.modeOp u)) :
    Does (encode i) i s (s.done16 u) := by
  have hok : s.modeOp u = .ok u := by
    rw [State.modeOp, if_pos h64]
    split
    · exact State.priv_of_md (hp ‹_›) _
    · rfl
  exact does_short rfl (hx.trans (by rw [hok]))

/-- Elsewhere it is an illegal instruction. -/
theorem raises_modeOp {i : Instr} {s u : State}
    (h : s.is64 = false ∨ s.cfg.modeOpsPrivileged = true ∧ s.md = false)
    (hx : exec i s = short (firstWord i) s (s.modeOp u)) : Raises i s .illegal := by
  refine raises_short_illegal (r := s.modeOp u) ?_ hx
  unfold State.modeOp
  obtain h64 | ⟨hp, hm⟩ := h
  · rw [if_neg (h64 ▸ Bool.false_ne_true)]
  · rw [if_pos hp, State.priv_user hm, ite_self]

/-- The four bytes at the address cut to a multiple of 4 are covered (rule R594). -/
theorem icbiCovers_block (draw : Nat) (a : Quad) {k : Nat} (hk : k ∈ [0, 1, 2, 3]) :
    icbiCovers draw a ((a &&& ~~~3#64).toNat + k) = true := by
  have hlt : k < 4 := by
    simp only [List.mem_cons, List.not_mem_nil, or_false] at hk
    omega
  rw [icbiCovers, align4, Bool.or_eq_true, decide_eq_true_eq]
  exact .inl (by omega)

/-- Settles O44: the flag rows and hints are single updates, the mode rows run or are illegal, and ICBI filters
STALE. -/
theorem flagsModesAndHints : Obligations.FlagsModesAndHints := by
  intro s
  refine ⟨does_short rfl (exec_clrt s), does_short rfl (exec_sett s), does_short rfl (exec_clrs s),
    does_short rfl (exec_sets s), does_short rfl (exec_nott s), does_short rfl (exec_clrmac s),
    fun imm => does_short rfl (exec_nop imm s), fun hm hd => ?sleep, fun hm => ?ldtlb,
    fun n => does_short rfl (exec_prefAtRn n s), fun n => ⟨_, does_short rfl (exec_icbiAtRn n s), fun c => ?icbi,
      fun k => icbiCovers_block s.freeCount (s.addr (s.r n))⟩, ?modes⟩
  case sleep =>
    have hx : exec .sleep s = shortNoSlot (firstWord .sleep) s (.ok { s with sleeping := true }) :=
      (exec_sleep s).trans (congrArg _ (State.priv_of_md hm _))
    exact ⟨rfl, hx.trans (shortNoSlot_ok hd _ _)⟩
  case ldtlb => exact does_short rfl ((exec_ldtlb s).trans (congrArg _ (State.priv_of_md hm _)))
  case icbi => simp
  case modes =>
    exact ⟨fun h hp => does_modeOp h hp (exec_iclrmdDQ s), fun h => raises_modeOp h (exec_iclrmdDQ s),
      fun h hp => does_modeOp h hp (exec_iclrmdJQ s), fun h => raises_modeOp h (exec_iclrmdJQ s),
      fun h hp => does_modeOp h hp (exec_iclrmdJDQ s), fun h => raises_modeOp h (exec_iclrmdJDQ s),
      fun h hp => does_modeOp h hp (exec_isetmdDQ s), fun h => raises_modeOp h (exec_isetmdDQ s),
      fun h hp => does_modeOp h hp (exec_isetmdJQ s), fun h => raises_modeOp h (exec_isetmdJQ s),
      fun h hp => does_modeOp h hp (exec_isetmdJDQ s), fun h => raises_modeOp h (exec_isetmdJDQ s)⟩

/-- Settles O45: TRAPA and BRK end in their exception outside a delay slot; RTE ends in the return, which restores SR
first. -/
theorem trapBreakAndReturn : Obligations.TrapBreakAndReturn := by
  intro s
  refine ⟨fun imm hd => ⟨rfl, (exec_trapaImm imm s).trans (noSlot_error hd _ _)⟩,
    fun hd => ⟨rfl, (exec_brk s).trans (noSlot_error hd _ _)⟩, fun hd hm u hu => ?rte⟩
  subst hu
  exact does_noSlot hd rfl ((exec_rte s).trans (congrArg _ (State.priv_of_md hm _)))

end Sys2Proof.Machine
end

section
/-! PROOFS. Stack and R0 transfers, and accesses that read and write (statements O32 and O33). -/
namespace Sys2Proof.Machine

/-! ### Accesses without alignment, and the other updates of an address register -/

section
variable {s : State} {i : Instr} {len : Quad} {e : Res State → Host.Outcome State Fault Refusal} {ea v : Quad}
  {n : Nat}

/-- What the end of an instruction makes of a store that went through and then an update `f`. -/
theorem State.Ends.stored {w : IWord} (he : s.Ends w len e) {f : State → State}
    (hf : ∀ m l h, f (s.withMem m l h) = (f s).withMem m l h) (hwf : Memory.wf s.mem) (p : Nat) :
    ∃ t, e (.ok (f (s.putBytes ea p (toBytes s.cfg.endian n v)))) = .next t ∧
      t.AgreesOffMemory ((f s).advance s.pcn len) ∧ s.StoredIn t p n ea v := by
  refine ⟨_, he.1 _, ?_⟩
  rw [State.putBytes_withMem, hf, State.withMem_advance, length_toBytes]
  exact ⟨State.agrees_withMem _ _ _ _, State.stored_withMem hwf _ _ _ _ _⟩

/-- A store that needs no alignment and then an update `f`, whatever the end. -/
theorem State.Ends.doesStoreU (he : s.Ends (firstWord i) len e) {f : State → State}
    (hf : ∀ m l h, f (s.withMem m l h) = (f s).withMem m l h) (hx : exec i s = e ((s.storeU ea n v).map f)) :
    DoesStore (encode i) i s 1 n ea v ((f s).advance s.pcn len) := by
  refine ⟨rfl, fun p hwf hp => ?_, fun x hp => ?_⟩
  · rw [hx, State.storeU_ok hp]
    exact he.stored hf hwf p
  · rw [Raises, hx, State.storeU_error hp]
    exact he.2 x

/-- A load that needs no alignment and then an update `f` with the value read, whatever the end. -/
theorem State.Ends.doesLoadU (he : s.Ends (firstWord i) len e) {f : Quad → State}
    (hx : exec i s = e ((s.loadU ea n).map f)) :
    DoesLoad (encode i) i s 1 n ea fun v => (f v).advance s.pcn len := by
  refine ⟨rfl, fun p hp => ?_, fun x hp => ?_⟩
  · rw [hx, State.loadU_ok hp]
    exact he.1 _
  · rw [Raises, hx, State.loadU_error hp]
    exact he.2 x

end

/-- An address register written after a store. -/
theorem State.withMem_wrA (s : State) (n : Reg) (a : Quad) (m : Memory) (l : List Nat) (h : List CacheEvent) :
    (s.withMem m l h).wrA n a = (s.wrA n a).withMem m l h := by
  simp only [State.wrA_eq, State.withMem_writeA]

section
variable {i : Instr} {s : State} {n align : Nat}

/-- A store with post-increment of `R[a]` by `d`, the byte count (rules R290 to R292). -/
theorem doesStore_short_inc {a : Reg} {d v : Quad} (hal : alignOf n = align) (hd : quadOf n = d)
    (hx : exec i s = short (firstWord i) s (s.storeInc a n v)) :
    DoesStore (encode i) i s align n (s.r a) v (s.done16 (s.writeA a (s.r a + d))) := by
  subst hd
  rw [← State.wrA_eq]
  exact (s.ends_short _).doesStore hal (f := fun t => t.wrA a _) (s.withMem_wrA a _) hx

/-- A sign-extending load with pre-decrement of `R[m]` by `k`, the byte count; the load write is last (rules R293 to
R295). -/
theorem doesLoad_short_dec (hal : alignOf n = align) {k : Quad} (hk : quadOf n = k) {d m : Reg} {f : Quad → Quad}
    {g : Quad → Dword} (hv : s.SignLoads n f g) (hx : exec i s = short (firstWord i) s (s.loadRegDec d m n .sign)) :
    DoesLoad (encode i) i s align n (s.r m - k) fun v =>
      s.done16 ((s.writeA m (s.r m - k)).writeW d (f v) (g v)) := by
  subst hk
  have hw : ∀ v, (s.wrA m (s.r m - quadOf n)).wrLoad d (8 * n) .sign v =
      (s.writeA m (s.r m - quadOf n)).writeW d (f v) (g v) := fun v => by
    rw [State.wrA_eq]
    exact hv _ d v (State.writeA_dq s m _)
  simpa only [hw, State.done16] using
    (s.ends_short _).doesLoad hal (f := fun v => (s.wrA m (s.r m - quadOf n)).wrLoad d (8 * n) .sign v) hx

end

/-- The check of JQ, where it passes and where it does not (rule R15). -/
theorem State.needJq_of_jq {α : Type} {s : State} (h : s.jq = true) (r : Res α) : s.needJq r = r := if_pos h

theorem State.needJq_of_not_jq {α : Type} {s : State} (h : s.jq = false) (r : Res α) : s.needJq r = illegal :=
  if_neg (h ▸ Bool.false_ne_true)

/-! ### Widths -/

/-- A `.W/Q` access with displacement is a word wherever the displacement is 0 (rules R278, R280). -/
theorem State.wqDisp_eq (s : State) (disp : BitVec 4) : s.wqDisp disp = if s.dq ∧ disp ≠ 0 then 8 else 2 := by
  simp [State.wqDisp]

theorem State.alignOf_wqDisp (s : State) (disp : BitVec 4) :
    alignOf (s.wqDisp disp) = if s.dq ∧ disp ≠ 0 then 4 else 2 := by
  rw [s.wqDisp_eq]
  split <;> rfl

theorem State.zdisp_wqDisp (s : State) (disp : BitVec 4) :
    zdisp disp (s.wqDisp disp) = disp.setWidth 64 * (if s.dq ∧ disp ≠ 0 then 8 else 2) := by
  rw [s.wqDisp_eq, zdisp]
  split <;> rfl

/-- What such a load writes: a sign-extended word where the displacement is 0, else as `.W/Q` loads do. -/
theorem State.signLoads_wqDisp (s : State) (disp : BitVec 4) :
    s.SignLoads (s.wqDisp disp) (fun v => if disp = 0 then (v.setWidth 16).signExtend 64 else v)
      fun v => (v.setWidth 16).signExtend 32 := by
  rw [s.wqDisp_eq]
  by_cases h0 : disp = 0
  · simp only [h0, ne_eq, not_true_eq_false, and_false, if_false, if_true]
    exact s.signLoads_narrow (n := 2) (by decide)
  · simp only [h0, ne_eq, not_false_eq_true, and_true, if_false]
    exact s.signLoads_wq

/-- The alignment of a `.Q/W` access (rule R137). -/
theorem State.alignOf_qw (s : State) : alignOf s.qw = if s.dq then 2 else 4 := by
  unfold State.qw
  split <;> rfl

/-- A `.Q/W` load writes the whole cell: a sign-extended word at DQ = 1, else a quad (rule R56). -/
theorem State.wrLoad_qw (s : State) (n : Reg) (v : Quad) :
    s.wrLoad n (8 * s.qw) .sign v = s.setR n (if s.dq then (v.setWidth 16).signExtend 64 else v) := by
  unfold State.qw
  cases hd : s.dq
  · exact s.wrLoad_64 n .sign v
  · rw [if_pos rfl, State.wrLoad_eq s n _ _ v (by decide), State.writeW, if_pos hd]
    rfl

/-! ### Stack and R0 transfers -/

/-- Settles O32: each line is a store or a load that ends as a 16-bit instruction, with the update of its address
register; MOV.Q/W needs JQ = 1, and MOVUA.L needs no alignment. -/
theorem stackAndR0Transfers : Obligations.StackAndR0Transfers := by
  intro s
  have hb := s.signLoads_narrow (n := 1) (by decide)
  have hl := s.signLoads_narrow (n := 4) (by decide)
  refine ⟨fun n disp => ?storeDisp, fun m disp => ?loadDisp, fun n => ?storeIncB, fun n => ?storeIncW,
    fun n => ?storeIncL, fun m => ?loadDecB, fun m => ?loadDecW, fun m => ?loadDecL, fun m => ?push, fun n => ?pop,
    fun n hj => ?loadQW, fun m hj => ?storeQW, fun n hj => ?loadQWIllegal, fun m hj => ?storeQWIllegal,
    fun m => ?loadU, fun m => ?loadUInc, fun m => ?storeU, fun m => ?storeUDec, fun n => ?storeCache⟩
  case storeDisp =>
    rw [← s.zdisp_wqDisp, ← s.wqDisp_eq]
    exact doesStore_short (s.alignOf_wqDisp disp) (exec_movWQR0AtRnDisp n disp s)
  case loadDisp =>
    rw [← s.zdisp_wqDisp, ← s.wqDisp_eq]
    exact (s.ends_short _).doesLoadReg (i := .movWQAtRmDispR0 m disp) (s.alignOf_wqDisp disp)
      (s.signLoads_wqDisp disp) (exec_movWQAtRmDispR0 m disp s)
  case storeIncB => exact doesStore_short_inc rfl rfl (exec_movBR0AtRnInc n s)
  case storeIncW => exact doesStore_short_inc s.alignOf_wq s.quadOf_wq (exec_movWQR0AtRnInc n s)
  case storeIncL => exact doesStore_short_inc rfl rfl (exec_movLR0AtRnInc n s)
  case loadDecB => exact doesLoad_short_dec (i := .movBAtDecRmR0 m) (k := 1) rfl rfl hb (exec_movBAtDecRmR0 m s)
  case loadDecW =>
    exact doesLoad_short_dec (i := .movWQAtDecRmR0 m) (k := if s.dq then 8 else 2) s.alignOf_wq s.quadOf_wq
      s.signLoads_wq (exec_movWQAtDecRmR0 m s)
  case loadDecL => exact doesLoad_short_dec (i := .movLAtDecRmR0 m) (k := 4) rfl rfl hl (exec_movLAtDecRmR0 m s)
  case push => exact doesStore_short_dec s.alignOf_lq s.quadOf_lq (exec_pushLQRm m s)
  case pop =>
    have hpop : ∀ v, (s.wrA 15 (s.r 15 + quadOf s.lq)).wrA n v =
        (s.writeA 15 (s.r 15 + (if s.jq then 8 else 4))).writeA n v := fun v => by
      rw [State.wrA_eq, State.wrA_eq, s.quadOf_lq]
    simp only [← hpop]
    exact (s.ends_short _).doesLoad s.alignOf_lq (exec_popLQRn n s)
  case loadQW =>
    simp only [← s.wrLoad_qw]
    exact (s.ends_short _).doesLoad s.alignOf_qw
      ((exec_movQWAtR0Rn n s).trans (congrArg _ (State.needJq_of_jq hj _)))
  case storeQW =>
    exact doesStore_short s.alignOf_qw ((exec_movQWRmAtR0 m s).trans (congrArg _ (State.needJq_of_jq hj _)))
  case loadQWIllegal => exact raises_short_illegal (State.needJq_of_not_jq hj _) (exec_movQWAtR0Rn n s)
  case storeQWIllegal => exact raises_short_illegal (State.needJq_of_not_jq hj _) (exec_movQWRmAtR0 m s)
  case loadU =>
    simp only [← hl s 0 _ rfl]
    exact (s.ends_short _).doesLoadU (exec_movuaLAtRmR0 m s)
  case loadUInc =>
    have hinc : ∀ v, (s.wrA m (s.r m + 4)).wrLoad 0 32 .sign v = (s.writeA m (s.r m + 4)).writeW 0
        ((v.setWidth 32).signExtend 64) ((v.setWidth 32).signExtend 32) := fun v => by
      rw [State.wrA_eq]
      exact hl _ 0 v (State.writeA_dq s m _)
    simp only [← hinc]
    exact (s.ends_short _).doesLoadU (exec_movuaLAtRmIncR0 m s)
  case storeU =>
    exact (s.ends_short _).doesStoreU (f := id) (fun _ _ _ => rfl)
      ((exec_movuaLR0AtRm m s).trans (by rw [Except.map_id, id]; rfl))
  case storeUDec =>
    rw [← State.wrA_eq]
    exact (s.ends_short _).doesStoreU (f := fun t => t.wrA m _) (s.withMem_wrA m _) (exec_movuaLR0AtDecRm m s)
  case storeCache => exact doesStore_short rfl (exec_movcaLR0AtRn n s)

/-! ### Accesses that read and write -/

/-- One byte is its value in either order (rule R132). -/
theorem ofBytes_one (e : Endian) (m : Memory) (p : Nat) :
    ofBytes e (bytesAt m p 1) = (Memory.read m p).setWidth 64 := by
  cases e <;> simp [ofBytes, bytesAt, ofBytesLe]

theorem setWidth_byte (b : Byte) : (b.setWidth 64).setWidth 8 = b := by
  ext i hi
  simp

theorem byte_eq_zero_iff (b : Byte) : b.setWidth 64 = (0 : Quad) ↔ b = 0 :=
  ⟨fun h => by rw [← setWidth_byte b, h]; rfl, fun h => by rw [h]; rfl⟩

theorem and_setWidth_byte (v : Quad) (b : Byte) : v &&& b.setWidth 64 = (v.setWidth 8 &&& b).setWidth 64 := by
  refine BitVec.eq_of_getLsbD_eq fun i hi => ?_
  by_cases h : i < 8
  · simp [h, hi]
  · simp [h, BitVec.getLsbD_of_ge b i (by omega)]

/-- A 16-bit row whose rule `r` stores `f` of the byte read and then makes an update `g` of it, where both checks pass,
and stops at the first that fails. -/
theorem doesModify_short {i : Instr} {s : State} {ea : Quad} {f : Byte → Byte} {g : Byte → State → State}
    {r : Res State} (hg : ∀ b m l h, g b (s.withMem m l h) = (g b s).withMem m l h)
    (hok : ∀ p p', s.resolve .read s.md 1 ea = .ok p → s.resolve .write s.md 1 ea = .ok p' →
      r = .ok (g (Memory.read s.mem p)
        (s.putBytes ea p' (toBytes s.cfg.endian 1 ((f (Memory.read s.mem p)).setWidth 64)))))
    (hread : ∀ e, s.resolve .read s.md 1 ea = .error (.exc e) → r = .error (.exc e))
    (hwrite : ∀ p e, s.resolve .read s.md 1 ea = .ok p → s.resolve .write s.md 1 ea = .error (.exc e) →
      r = .error (.exc e))
    (hx : exec i s = short (firstWord i) s r) :
    DoesModify (encode i) i s ea f fun b => s.done16 (g b s) := by
  refine ⟨rfl, fun p p' hwf hp hp' => ?_, fun e he => ?_, fun p e hp he => ?_⟩
  · rw [hx, hok p p' hp hp']
    exact (s.ends_short _).stored (hg _) hwf p'
  · rw [Raises, hx, hread e he, short_error]
  · rw [Raises, hx, hwrite p e hp he, short_error]

/-- A byte operation on `@(GBR,R0)` at JQ = 0 (rules R423, R426, R429). -/
theorem doesModify_modifyByte {i : Instr} {s : State} {ea : Quad} {f : Byte → Byte} (hj : s.jq = false)
    (hx : exec i s = short (firstWord i) s (s.needNotJq (s.modifyByte ea f))) :
    DoesModify (encode i) i s ea f fun _ => s.done16 s := by
  rw [State.needNotJq_of_jq_false hj] at hx
  refine doesModify_short (g := fun _ t => t) (fun _ _ _ _ => rfl) (fun p p' hp hp' => ?ok) (fun e he => ?read)
    (fun p e hp he => ?write) hx
  case ok =>
    rw [State.modifyByte, State.load_ok (n := 1) hp]
    dsimp only
    rw [ofBytes_one, setWidth_byte, State.store_ok (n := 1) hp']
  case read => rw [State.modifyByte, State.load_error (n := 1) he]
  case write =>
    rw [State.modifyByte, State.load_ok (n := 1) hp]
    exact State.store_error (n := 1) he

/-- At JQ = 1 it is an illegal instruction (rule R187). -/
theorem raises_needNotJq {i : Instr} {s : State} {r : Res State} (hj : s.jq = true)
    (hx : exec i s = short (firstWord i) s (s.needNotJq r)) : Raises i s .illegal :=
  raises_short_illegal (State.needNotJq_of_jq_true hj r) hx

/-- Where the read goes through, `bothChecked` is decided by the write. -/
theorem State.bothChecked_of_read {s : State} {ea : Quad} {n p : Nat}
    (hr : s.resolve .read s.md (alignOf n) ea = .ok p)
    (hw : ∀ e, s.resolve .write s.md (alignOf n) ea ≠ .error (.exc e)) (r : Res State) : s.bothChecked ea n r = r :=
  State.bothChecked_ok (fun e h => absurd (hr.symm.trans h) (by simp)) hw r

/-- TAS.B (rule R452). -/
theorem doesModify_tas {s : State} (n : Nib) :
    DoesModify (encode (.tasBAtRn n)) (.tasBAtRn n) s (s.r n) (fun b => b ||| 0x80) fun b =>
      s.done16 (s.setT (b = 0)) := by
  refine doesModify_short (r := s.tas (s.r n)) (g := fun b t => t.setT (b = 0)) (fun _ _ _ _ => rfl)
    (fun p p' hp hp' => ?ok) (fun e he => State.bothChecked_read (n := 1) he _) (fun p e hp he => ?write)
    (exec_tasBAtRn n s)
  case ok =>
    rw [State.tas, State.bothChecked_of_read (n := 1) hp (by rw [show alignOf 1 = 1 from rfl, hp']; simp),
      State.load_ok (n := 1) hp]
    dsimp only
    have htop : (Memory.read s.mem p).setWidth 64 ||| 0x80 = ((Memory.read s.mem p) ||| 0x80).setWidth 64 := by
      rw [BitVec.setWidth_or]
      rfl
    have hzero : ((Memory.read s.mem p).setWidth 64 == (0 : Quad)) = decide (Memory.read s.mem p = 0) :=
      decide_eq_decide.mpr (byte_eq_zero_iff _)
    rw [ofBytes_one, htop, hzero, State.store_ok (n := 1) hp', Except.map]
  case write => exact State.bothChecked_write (n := 1) (fun e h => absurd (hp.symm.trans h) (by simp)) he _

/-- The load write of CAS.L, of the dword read (rules R56, R596). -/
theorem State.wrLoad_dword (s : State) (n : Reg) (v : Quad) :
    s.wrLoad n 32 .sign v = s.writeW n ((lo32 v).signExtend 64) (lo32 v) := by
  rw [s.wrLoad_eq n 32 .sign v (by decide), extend, sxN, ← lo32.eq_1, lo32_signExtend, BitVec.signExtend_eq]

/-- CAS.L where the dword read is the one asked for: the store, T, and the load write. -/
theorem State.cas_equal {s : State} {ea : Quad} {n m : Reg} {p p' : Nat} (hp : s.resolve .read s.md 4 ea = .ok p)
    (hp' : s.resolve .write s.md 4 ea = .ok p')
    (heq : lo32 (ofBytes s.cfg.endian (bytesAt s.mem p 4)) = lo32 (s.r m)) :
    s.cas ea n m = .ok (((s.putBytes ea p' (toBytes s.cfg.endian 4 (s.r n))).setT true).writeW n
      ((lo32 (s.r m)).signExtend 64) (lo32 (s.r m))) := by
  rw [State.cas, State.bothChecked_of_read (n := 4) hp (by rw [show alignOf 4 = 4 from rfl, hp']; simp),
    State.load_ok (n := 4) hp]
  dsimp only
  rw [heq, beq_self_eq_true, if_pos rfl, State.store_ok (n := 4) hp', Except.map, State.wrLoad_dword, heq]

/-- Elsewhere T and the load write alone. -/
theorem State.cas_differ {s : State} {ea : Quad} {n m : Reg} {p : Nat} (hp : s.resolve .read s.md 4 ea = .ok p)
    (hw : ∀ e, s.resolve .write s.md 4 ea ≠ .error (.exc e))
    (hne : lo32 (ofBytes s.cfg.endian (bytesAt s.mem p 4)) ≠ lo32 (s.r m)) :
    s.cas ea n m = .ok ((s.setT false).writeW n ((lo32 (ofBytes s.cfg.endian (bytesAt s.mem p 4))).signExtend 64)
      (lo32 (ofBytes s.cfg.endian (bytesAt s.mem p 4)))) := by
  rw [State.cas, State.bothChecked_of_read (n := 4) hp hw, State.load_ok (n := 4) hp]
  dsimp only
  rw [beq_eq_false_iff_ne.mpr hne, if_neg Bool.false_ne_true, State.wrLoad_dword]

/-- Settles O33: the byte operations read and then write, TAS.B and CAS.L once both checks have passed. -/
theorem readModifyWrite : Obligations.ReadModifyWrite := by
  intro s
  refine ⟨doesModify_tas, fun imm hj => doesModify_modifyByte hj (exec_andBImmAtGbrR0 imm s),
    fun imm hj => raises_needNotJq hj (exec_andBImmAtGbrR0 imm s),
    fun imm hj => doesModify_modifyByte hj (exec_orBImmAtGbrR0 imm s),
    fun imm hj => raises_needNotJq hj (exec_orBImmAtGbrR0 imm s),
    fun imm hj => doesModify_modifyByte hj (exec_xorBImmAtGbrR0 imm s),
    fun imm hj => raises_needNotJq hj (exec_xorBImmAtGbrR0 imm s), fun imm hj => ?tst,
    fun imm hj => raises_needNotJq hj (exec_tstBImmAtGbrR0 imm s), fun n m => ⟨rfl, fun p p' hwf hp hp' heq => ?equal,
      fun p hp hw hne => ?differ, fun e he => ?read, fun e hr he => ?write⟩, fun n e hr he => ?tasWrite⟩
  case tst =>
    have htst : ∀ v : Quad, s.setT (v &&& imm.setWidth 64 == 0) = s.setT (v.setWidth 8 &&& imm = 0) := fun v =>
      congrArg s.setT (decide_eq_decide.mpr (by rw [and_setWidth_byte, byte_eq_zero_iff]))
    simp only [← htst]
    exact (s.ends_short _).doesLoad (n := 1) rfl
      ((exec_tstBImmAtGbrR0 imm s).trans (congrArg _ (State.needNotJq_of_jq_false hj _)))
  case equal =>
    rw [exec_casLRmRnAtR0, execCasLRmRnAtR0, State.cas_equal hp hp' heq]
    exact (s.ends_short _).stored
      (f := fun t => (t.setT true).writeW n ((lo32 (s.r m)).signExtend 64) (lo32 (s.r m)))
      (fun b l h => by rw [State.withMem_setT, State.withMem_writeW]) hwf p'
  case differ =>
    rw [exec_casLRmRnAtR0, execCasLRmRnAtR0, State.cas_differ hp hw hne, short_ok]
  case read => exact (exec_casLRmRnAtR0 n m s).trans (congrArg _ (State.bothChecked_read (n := 4) he _))
  case write => exact (exec_casLRmRnAtR0 n m s).trans (congrArg _ (State.bothChecked_write (n := 4) hr he _))
  case tasWrite => exact (exec_tasBAtRn n s).trans (congrArg _ (State.bothChecked_write (n := 1) hr he _))

end Sys2Proof.Machine
end

section
/-! PROOFS. The FPU (statements O46, O47, O48 and O51). -/
namespace Sys2Proof.Machine

/-! ### How an FPU row ends -/

section
variable {i : Instr} {s t u : State}

/-- With the FPU on, a 16-bit row that cannot fail computes `t`, which is `u` as a rule writes it. -/
theorem does_short_fpu (h : s.FpuOn) (ht : t = u) (hx : exec i s = short (firstWord i) s (s.fpu (.ok t))) :
    Does (encode i) i s (s.done16 u) :=
  does_short ht (by rw [hx, State.fpu_of_on h])

/-- The same of a 32-bit row outside a delay slot. -/
theorem does_wide_fpu (hd : s.ds = none) (h : s.FpuOn) (ht : t = u)
    (hx : exec i s = wide (firstWord i) s (s.fpu (.ok t))) : Does (encode i) i s (s.done32 u) :=
  does_wide hd ht (by rw [hx, State.fpu_of_on h])

end

/-! ### Operands by precision -/

section
variable (s : State) (d a b c : Bool) (k n m : Reg)

/-- A result at the precision `d` (rules R642, R644). -/
theorem State.setFpReg_eq (f : Bool → Quad) :
    s.setFpReg d b n (f d) = if d then s.setPair b n (f true) else s.setFx b n (lo32 (f false)) := by
  unfold State.setFpReg
  cases d <;> simp only [if_true, if_false, Bool.false_eq_true]

/-- A computation at the precision `d`, on a double or on a single cell. -/
theorem State.apply_fpReg {α : Type} (f : Bool → Quad → α) :
    f d (s.fpReg d b n) = if d then f true (s.pair b n) else f false ((s.fx b n).setWidth 64) := by
  unfold State.fpReg zx32
  cases d <;> simp only [if_true, if_false, Bool.false_eq_true]

/-- The same on two operands. -/
theorem State.apply_fpReg₂ {α : Type} (f : Bool → Quad → Quad → α) :
    f d (s.fpReg d b n) (s.fpReg d c m) =
      if d then f true (s.pair b n) (s.pair c m)
      else f false ((s.fx b n).setWidth 64) ((s.fx c m).setWidth 64) := by
  unfold State.fpReg zx32
  cases d <;> simp only [if_true, if_false, Bool.false_eq_true]

/-- A computation on two operands whose result has their precision (rules R650 to R653, R930 to R933). -/
theorem State.setFpReg_fpReg₂ (f : Bool → Quad → Quad → Quad) :
    s.setFpReg d a k (f d (s.fpReg d b n) (s.fpReg d c m)) =
      if d then s.setPair a k (f true (s.pair b n) (s.pair c m))
      else s.setFx a k (lo32 (f false ((s.fx b n).setWidth 64) ((s.fx c m).setWidth 64))) := by
  unfold State.setFpReg State.fpReg zx32
  cases d <;> simp only [if_true, if_false, Bool.false_eq_true]

/-- The same on one operand. -/
theorem State.setFpReg_fpReg (f : Bool → Quad → Quad) :
    s.setFpReg d a k (f d (s.fpReg d b n)) =
      if d then s.setPair a k (f true (s.pair b n))
      else s.setFx a k (lo32 (f false ((s.fx b n).setWidth 64))) := by
  unfold State.setFpReg State.fpReg zx32
  cases d <;> simp only [if_true, if_false, Bool.false_eq_true]

/-- The same on three operands of one bank (rule R683). -/
theorem State.setFpReg_fpReg₃ (l : Reg) (f : Bool → Quad → Quad → Quad → Quad) :
    s.setFpReg d a k (f d (s.fpReg d b l) (s.fpReg d b m) (s.fpReg d b n)) =
      if d then s.setPair a k (f true (s.pair b l) (s.pair b m) (s.pair b n))
      else s.setFx a k
        (lo32 (f false ((s.fx b l).setWidth 64) ((s.fx b m).setWidth 64) ((s.fx b n).setWidth 64))) := by
  unfold State.setFpReg State.fpReg zx32
  cases d <;> simp only [if_true, if_false, Bool.false_eq_true]

end

/-- Settles O46: with the FPU on each row is one function of the FP record on operands of the precision of FPSCR. -/
theorem fpArithmetic : Obligations.FpArithmetic := by
  intro s
  have harith : ∀ op (n m : Nib), s.setOpd n (s.fpBin op s.fpPr (s.opd n) (s.opd m)) = _ := fun op n m =>
    s.setFpReg_fpReg₂ s.fpPr false false false n n m (s.fpBin op)
  refine ⟨fun n m h => ?fadd, fun n m h => ?fsub, fun n m h => ?fmul, fun n m h => ?fdiv, fun n m h => ?fcmpeq,
    fun n m h => ?fcmpgt, fun n h => ?float, fun m h => ?ftrc, fun n h => ?fsqrt, fun n h => ?fcnvsd,
    fun m h => ?fcnvds, fun n m h => ?fmac⟩
  case fadd => exact does_short_fpu h (harith .add n m) (exec_faddFRmFRn n m s)
  case fsub => exact does_short_fpu h (harith .sub n m) (exec_fsubFRmFRn n m s)
  case fmul => exact does_short_fpu h (harith .mul n m) (exec_fmulFRmFRn n m s)
  case fdiv => exact does_short_fpu h (harith .div n m) (exec_fdivFRmFRn n m s)
  case fcmpeq =>
    exact does_short_fpu h (congrArg s.setT (s.apply_fpReg₂ s.fpPr false false n m s.fpEq)) (exec_fcmpeqFRmFRn n m s)
  case fcmpgt =>
    exact does_short_fpu h (congrArg s.setT (s.apply_fpReg₂ s.fpPr false false n m s.fpGt)) (exec_fcmpgtFRmFRn n m s)
  case float =>
    exact does_short_fpu h (s.setFpReg_eq s.fpPr false n fun d => s.fpFromInt d s.fpul) (exec_floatFRn n s)
  case ftrc =>
    exact does_short_fpu h (congrArg (fun v => { s with fpul := v }) (s.apply_fpReg s.fpPr false m s.fpToInt))
      (exec_ftrcFRm m s)
  case fsqrt => exact does_short_fpu h (s.setFpReg_fpReg s.fpPr false false n n s.fpSqrt) (exec_fsqrtFRn n s)
  case fcnvsd => exact does_short_fpu h rfl (exec_fcnvsdFRn n s)
  case fcnvds => exact does_short_fpu h rfl (exec_fcnvdsFRm m s)
  case fmac =>
    exact does_short_fpu h (s.setFpReg_fpReg₃ s.fpPr false false n n m 0 s.fpMac) (exec_fmacFRmFRn n m s)

/-! ### Signs and modes -/

/-- A cell written with its own value. -/
theorem State.setFx_self (s : State) (x : Bool) (i : Reg) : s.setFx x i (s.fx x i) = s := by
  have hset : ∀ v : Vector Dword 16, set16 v i (get16 v i) = v := fun v => Vector.set_getElem_self _
  unfold State.setFx State.fx
  split <;> rw [hset]

/-- A pair whose low half is written back is a write of the high cell alone (rules R672, R673). -/
theorem State.setPair_high (s : State) (b : Bool) (n : Reg) (h : Dword) :
    s.setPair b n (h ++ s.fx (pairBank b n) (pairLo n)) = s.setFx (pairBank b n) (pairHi n) h := by
  have hlo : (s.setFx (pairBank b n) (pairHi n) h).fx (pairBank b n) (pairLo n) = s.fx (pairBank b n) (pairLo n) := by
    rw [State.fx_setFx, if_neg fun h => (pair_cells n n).2.1 h.2]
  rw [State.setPair, hi32_append, lo32_append, ← hlo, State.setFx_self]

/-- FNEG and FABS change the sign cell of a double: `g` on the pair is `f` on its high half. -/
theorem State.fpSign_eq (s : State) (n : Reg) {f : Dword → Dword} {g : Quad → Quad}
    (hg : ∀ h l : Dword, g (h ++ l) = f h ++ l) :
    s.fpSign n f = if s.fpPr then s.setPair false n (g (s.pair false n)) else s.setFx false n (f (s.fx false n)) := by
  unfold State.fpSign State.pair
  rw [hg, State.setPair_high]

theorem fneg_append (h l : Dword) : (h ++ l : Quad) ^^^ 0x8000000000000000 = (h ^^^ 0x80000000) ++ l := by
  have hc : (0x8000000000000000 : Quad) = 0x80000000#32 ++ 0#32 := by decide
  rw [hc]
  exact (BitVec.xor_append ..).trans (by rw [BitVec.xor_zero]; rfl)

theorem fabs_append (h l : Dword) : (h ++ l : Quad) &&& 0x7FFFFFFFFFFFFFFF = (h &&& 0x7FFFFFFF) ++ l := by
  have hc : (0x7FFFFFFFFFFFFFFF : Quad) = 0x7FFFFFFF#32 ++ BitVec.allOnes 32 := by decide
  rw [hc]
  exact (BitVec.and_append ..).trans (by rw [BitVec.and_allOnes]; rfl)

/-- FPSCR after `PSETMD #imm4` by its fields (rule R679). -/
theorem packMode4_eq (x : Dword) (imm : BitVec 4) :
    packMode4 x imm = x.extractLsb' 21 11 ++ imm.extractLsb' 2 2 ++ x.extractLsb' 2 17 ++ imm.extractLsb' 0 2 := by
  refine BitVec.eq_of_getLsbD_eq fun i hi => ?_
  unfold packMode4
  rw [getLsbD_putBit32 _ (by decide), getLsbD_putBit32 _ (by decide)]
  have hmask : ∀ k < 32, (~~~3#32).getLsbD k = decide (2 ≤ k) := by decide
  simp only [BitVec.getLsbD_append, BitVec.getLsbD_extractLsb', BitVec.getLsbD_or, BitVec.getLsbD_and,
    BitVec.getLsbD_setWidth, hmask i hi]
  grind

/-- The same of `PSETMD #imm12` (rule R699). -/
theorem packMode12_eq (imm : BitVec 12) :
    packMode12 imm = 0#10 ++ imm.extractLsb' 2 4 ++ 0#16 ++ imm.extractLsb' 0 2 := by
  refine BitVec.eq_of_getLsbD_eq fun i hi => ?_
  unfold packMode12
  simp only [BitVec.getLsbD_append, BitVec.getLsbD_extractLsb', BitVec.getLsbD_or, BitVec.getLsbD_shiftLeft,
    BitVec.getLsbD_setWidth, BitVec.getLsbD_zero]
  grind

/-- Settles O47: with the FPU on each row is a move of cells or an update of FPSCR. -/
theorem fpMovesAndModes : Obligations.FpMovesAndModes := by
  intro s
  have hmode : ∀ {x y : Dword}, x = y → ({ s with fpscr := x } : State) = { s with fpscr := y } := fun h =>
    congrArg (fun v => { s with fpscr := v }) h
  refine ⟨fun n m h => ?fmov, fun n h => does_short_fpu h rfl (exec_fstsFRn n s),
    fun m h => does_short_fpu h rfl (exec_fldsFRm m s),
    fun n h => does_short_fpu h
      (s.fpSign_eq n (f := (· ^^^ 0x80000000)) (g := (· ^^^ 0x8000000000000000)) fneg_append) (exec_fnegFRn n s),
    fun n h => does_short_fpu h
      (s.fpSign_eq n (f := (· &&& 0x7FFFFFFF)) (g := (· &&& 0x7FFFFFFFFFFFFFFF)) fabs_append) (exec_fabsFRn n s),
    fun n h => does_short_fpu h rfl (exec_fldi0FRn n s), fun n h => does_short_fpu h rfl (exec_fldi1FRn n s),
    fun imm h => does_short_fpu h (hmode (packMode4_eq _ imm)) (exec_psetmdImm4 imm s),
    fun h => does_short_fpu h (hmode (congrArg _ (by decide))) (exec_fschg s),
    fun h => does_short_fpu h (hmode (congrArg _ (by decide))) (exec_fpchg s),
    fun h => does_short_fpu h (hmode (congrArg _ (by decide))) (exec_frchg s)⟩
  have hmov := s.setFpReg_fpReg s.fpSz false false n m fun _ v => v
  rw [show lo32 ((s.fx false m).setWidth 64) = s.fx false m from lo32_zx32 _] at hmov
  exact does_short_fpu h hmov (exec_fmovFRmFRn n m s)

/-! ### Transfers with memory -/

theorem alignOf_xferSize (k : Xfer) : alignOf (xferSize k) = 4 := by cases k <;> rfl

theorem State.fpLoad_eq (s : State) (k : Xfer) (b : Bool) (n : Reg) (ea : Quad) :
    s.fpLoad k b n ea = (s.load ea (xferSize k)).map (s.fpLoaded k b n) := by cases k <;> rfl

theorem State.fpStore_eq (s : State) (k : Xfer) (b : Bool) (n : Reg) (ea : Quad) :
    s.fpStore k b n ea = s.store ea (xferSize k) (s.fpStored k b n) := by cases k <;> rfl

section
variable {i : Instr} {s : State} {len : Quad} {e : Res State → Host.Outcome State Fault Refusal} {k : Xfer} {b : Bool}
  {n m : Reg} {ea : Quad}

/-- An FPU load of the kind `k`, whatever the end (rule R660). -/
theorem State.Ends.doesFpLoad (he : s.Ends (firstWord i) len e) (hx : exec i s = e (s.fpLoad k b n ea)) :
    DoesLoad (encode i) i s 4 (xferSize k) ea fun v => (s.fpLoaded k b n v).advance s.pcn len :=
  he.doesLoad (alignOf_xferSize k) (hx.trans (congrArg e (s.fpLoad_eq k b n ea)))

/-- The same with post-increment of `R[m]` (rule R664). -/
theorem State.Ends.doesFpLoadInc (he : s.Ends (firstWord i) len e) (hx : exec i s = e (s.fpLoadInc k b n m)) :
    DoesLoad (encode i) i s 4 (xferSize k) (s.r m) fun v =>
      ((s.fpLoaded k b n v).writeA m (s.r m + quadOf (xferSize k))).advance s.pcn len := by
  simp only [← State.wrA_eq]
  refine he.doesLoad (alignOf_xferSize k) (f := fun v => (s.fpLoaded k b n v).wrA m _) (hx.trans (congrArg e ?_))
  rw [State.fpLoadInc, s.fpLoad_eq, map_map]

/-- An FPU store of the kind `k`, whatever the end (rule R660). -/
theorem State.Ends.doesFpStore (he : s.Ends (firstWord i) len e) (hx : exec i s = e (s.fpStore k b m ea)) :
    DoesStore (encode i) i s 4 (xferSize k) ea (s.fpStored k b m) (s.advance s.pcn len) :=
  he.doesStore (alignOf_xferSize k) (f := id) (fun _ _ _ => rfl)
    (hx.trans (congrArg e (by rw [s.fpStore_eq, Except.map_id, id])))

/-- The same with pre-decrement of `R[n]` (rule R666). -/
theorem State.Ends.doesFpStoreDec (he : s.Ends (firstWord i) len e) (hx : exec i s = e (s.fpStoreDec k b m n)) :
    DoesStore (encode i) i s 4 (xferSize k) (s.r n - quadOf (xferSize k)) (s.fpStored k b m)
      ((s.writeA n (s.r n - quadOf (xferSize k))).advance s.pcn len) := by
  simp only [← State.wrA_eq]
  refine he.doesStore (alignOf_xferSize k) (f := fun t => t.wrA n _) (s.withMem_wrA n _) (hx.trans (congrArg e ?_))
  rw [State.fpStoreDec, s.fpStore_eq]

end

/-! ### The VV forms -/

/-- A VV form whose kind exists and whose address register's bit is 0 (rule R690). -/
theorem State.vvForm_of_kind {s : State} {v : BitVec 4} {k : Xfer} {b : Bool} (h : s.FpuOn) (hk : vvKind v = some k)
    (hb : b = false) (f : Xfer → Res State) : s.vvForm v b f = f k := by
  rw [State.vvForm, hk, hb]
  exact State.fpu_of_on h _

/-- Any other is illegal. -/
theorem State.vvForm_illegal {s : State} {v : BitVec 4} {b : Bool} (h : vvKind v = none ∨ b = true)
    (f : Xfer → Res State) : s.vvForm v b f = illegal := by
  unfold State.vvForm
  obtain h | rfl := h
  · rw [h]
  · split <;> rfl

/-- EA3 without a displacement (rules R691, R721). -/
theorem State.ea3_zero (s : State) (base : Quad) (o : Reg) (size : Nat) :
    s.ea3 base o 0 size = base + (if o = 15 then 0 else s.r o) * (if o = 0 then 1 else quadOf size) := by
  have h0 : ∀ x : Quad, x + 0 = x := BitVec.add_zero
  rw [s.ea3_eq base o 0 size _ rfl, h0]

/-! ### The moves of the VV byte -/

/-- A check that names a high half only where `a` holds. -/
theorem not_or_of_imp {a b : Bool} (h : a = true → b = true) : (!a || b) = true := by
  cases a
  · rfl
  · exact h rfl


/-- The fields of a VV byte (rule R698). -/
theorem vvByte_fields : ∀ (w : Nib) (x y : Bool),
    (w ++ bits4 false x false y).extractLsb' 4 4 = w ∧
      (w ++ bits4 false x false y).extractLsb' 0 4 = bits4 false x false y ∧
      (w ++ bits4 false x false y).getLsbD 3 = false ∧ (w ++ bits4 false x false y).getLsbD 1 = false ∧
      (w ++ bits4 false x false y).getLsbD 2 = x ∧ (w ++ bits4 false x false y).getLsbD 0 = y := by decide

section
variable {s : State} {w : Nib} {x y : Bool} {n m : Nib}

/-- Such a move is `vvMove` of its fields. -/
theorem exec_xvFmovFRmFRn_bits :
    exec (.xvFmovFRmFRn (w ++ bits4 false x false y) n m) s =
      wide (firstWord (.xvFmovFRmFRn (w ++ bits4 false x false y) n m)) s (s.vvMove w x y n m) := by
  obtain ⟨hw, -, h3, h1, hx, hy⟩ := vvByte_fields w x y
  refine (exec_xvFmovFRmFRn _ n m s).trans (congrArg (wide _ s) ?_)
  rw [h3, h1, hx, hy, hw]
  rfl

theorem does_vvMove {u : State} {c : Bool} (h : s.FpuOn) (hd : s.ds = none) (hc : c = true)
    (hr : s.vvMove w x y n m = require c (s.fpu (.ok u))) :
    Does [mk4 0x8#4 0xE#4 w (bits4 false x false y), mk4 0xF#4 n m 0xC#4]
      (.xvFmovFRmFRn (w ++ bits4 false x false y) n m) s (s.done32 u) := by
  obtain ⟨hw, hl, -⟩ := vvByte_fields w x y
  have henc : encode (.xvFmovFRmFRn (w ++ bits4 false x false y) n m) =
      [mk4 0x8#4 0xE#4 w (bits4 false x false y), mk4 0xF#4 n m 0xC#4] := by
    rw [encode, hw, hl]
  refine ⟨henc, ?_⟩
  rw [exec_xvFmovFRmFRn_bits, hr, hc, State.fpu_of_on h]
  exact wide_ok hd _ _

theorem raises_vvMove {r : Res State} {c : Bool} (hc : c = false) (hr : s.vvMove w x y n m = require c r) :
    Raises (.xvFmovFRmFRn (w ++ bits4 false x false y) n m) s .illegal :=
  raises_wide_illegal (hr.trans (require_false hc r)) exec_xvFmovFRmFRn_bits

end

/-! ### The order of the halves -/

/-- A bit of a value, in the byte that holds it (rule R132). -/
theorem getLsbD_ofBytesLe (bs : List Byte) {i : Nat} (hi : i < 64) :
    (ofBytesLe bs).getLsbD i = (bs[i / 8]?.getD 0).getLsbD (i % 8) := by
  induction bs generalizing i with
  | nil => simp [ofBytesLe]
  | cons b rest ih =>
    rw [ofBytesLe, BitVec.getLsbD_or, BitVec.getLsbD_shiftLeft, BitVec.getLsbD_setWidth, decide_eq_true hi]
    by_cases h : i < 8
    · simp [h, Nat.div_eq_of_lt h, Nat.mod_eq_of_lt h]
    · rw [ih (by omega), BitVec.getLsbD_of_ge b i (by omega), show i / 8 = (i - 8) / 8 + 1 by omega,
        show (i - 8) % 8 = i % 8 by omega]
      simp [h]

theorem lo32_ofBytesLe (bs : List Byte) : lo32 (ofBytesLe bs) = lo32 (ofBytesLe (bs.take 4)) := by
  refine BitVec.eq_of_getLsbD_eq fun i hi => ?_
  simp only [lo32, BitVec.getLsbD_setWidth, getLsbD_ofBytesLe _ (show i < 64 by omega)]
  rw [List.getElem?_take_of_lt (by omega)]

theorem hi32_ofBytesLe (bs : List Byte) : hi32 (ofBytesLe bs) = lo32 (ofBytesLe (bs.drop 4)) := by
  refine BitVec.eq_of_getLsbD_eq fun i hi => ?_
  simp only [lo32, hi32, BitVec.getLsbD_setWidth, BitVec.getLsbD_extractLsb',
    getLsbD_ofBytesLe _ (show i < 64 by omega), getLsbD_ofBytesLe _ (show 32 + i < 64 by omega)]
  rw [List.getElem?_drop, show (32 + i) / 8 = 4 + i / 8 by omega, show (32 + i) % 8 = i % 8 by omega]

/-- A pair is its first half in memory, high, and then its second, in either byte order (rule R660). -/
theorem pairOrder_ofBytes (e : Endian) {bs : List Byte} (h : bs.length = 8) :
    pairOrder e (ofBytes e bs) = lo32 (ofBytes e (bs.take 4)) ++ lo32 (ofBytes e (bs.drop 4)) := by
  cases e
  case little => rw [ofBytes, ofBytes, ofBytes, pairOrder, lo32_ofBytesLe, hi32_ofBytesLe]
  case big =>
    have hfirst : bs.reverse.drop 4 = (bs.take 4).reverse := by rw [List.drop_reverse, h]
    have hlast : bs.reverse.take 4 = (bs.drop 4).reverse := by rw [List.take_reverse, h]
    rw [ofBytes, ofBytes, ofBytes, pairOrder, ← hfirst, ← hlast, ← hi32_ofBytesLe, ← lo32_ofBytesLe, hi32_lo32]

/-- Settles O48: the FMOV.S rows end as 16-bit instructions, the VV forms as 32-bit ones once their checks pass; each
check fails where the last lines say so. -/
theorem fpTransfers : Obligations.FpTransfers := by
  intro s
  have hs := s.ends_short
  refine ⟨rfl, fun bs => pairOrder_ofBytes s.cfg.endian, fun n m h => ?load0, fun n m h => ?store0,
    fun n m h => ?load, fun n m h => ?loadInc, fun n m h => ?store, fun n m h => ?storeDec,
    fun v o n m h hd k hk hb => ?vvLoad0,
    fun v o n m h hd k hk hb => ?vvStore0, fun v d n m h hd k hk hb => ?vvLoad, fun v n m h hd k hk hb => ?vvLoadInc,
    fun v d n m h hd k hk hb => ?vvStore, fun v n m h hd k hk hb => ?vvStoreDec, ?moves⟩
  case load0 => exact (hs _).doesFpLoad ((exec_fmovSAtR0RmFRn n m s).trans (congrArg _ (State.fpu_of_on h _)))
  case store0 => exact (hs _).doesFpStore ((exec_fmovSFRmAtR0Rn n m s).trans (congrArg _ (State.fpu_of_on h _)))
  case load => exact (hs _).doesFpLoad ((exec_fmovSAtRmFRn n m s).trans (congrArg _ (State.fpu_of_on h _)))
  case loadInc => exact (hs _).doesFpLoadInc ((exec_fmovSAtRmIncFRn n m s).trans (congrArg _ (State.fpu_of_on h _)))
  case store => exact (hs _).doesFpStore ((exec_fmovSFRmAtRn n m s).trans (congrArg _ (State.fpu_of_on h _)))
  case storeDec => exact (hs _).doesFpStoreDec ((exec_fmovSFRmAtDecRn n m s).trans (congrArg _ (State.fpu_of_on h _)))
  case vvLoad0 =>
    rw [← s.ea3_zero]
    exact (State.ends_wide hd _).doesFpLoad
      ((exec_xvFmovSAtRmRoFRn v o n m s).trans (congrArg _ (State.vvForm_of_kind h hk hb _)))
  case vvStore0 =>
    rw [← s.ea3_zero]
    exact (State.ends_wide hd _).doesFpStore
      ((exec_xvFmovSFRmAtRnRo v o n m s).trans (congrArg _ (State.vvForm_of_kind h hk hb _)))
  case vvLoad =>
    exact (State.ends_wide hd _).doesFpLoad
      ((exec_xvFmovSAtRmDisp4FRn v d n m s).trans (congrArg _ (State.vvForm_of_kind h hk hb _)))
  case vvLoadInc =>
    exact (State.ends_wide hd _).doesFpLoadInc
      ((exec_xvFmovSAtRmIncFRn v n m s).trans (congrArg _ (State.vvForm_of_kind h hk hb _)))
  case vvStore =>
    exact (State.ends_wide hd _).doesFpStore
      ((exec_xvFmovSFRmAtRnDisp4 v d n m s).trans (congrArg _ (State.vvForm_of_kind h hk hb _)))
  case vvStoreDec =>
    exact (State.ends_wide hd _).doesFpStoreDec
      ((exec_xvFmovSFRmAtDecRn v n m s).trans (congrArg _ (State.vvForm_of_kind h hk hb _)))
  case moves =>
    refine ⟨fun x y n m h hd => does_vvMove h hd (c := true) rfl rfl,
      fun x y n m hrh h hd => does_vvMove h hd (not_or_of_imp hrh) rfl,
      fun x y n m h hd => does_vvMove h hd (c := true) rfl rfl,
      fun x y n m hy hrh h hd => does_vvMove h hd (by rw [hy, hrh]; rfl) rfl,
      fun x y n m hrh h hd => does_vvMove h hd (not_or_of_imp hrh) rfl,
      fun x y n m hx hy hrh h hd => does_vvMove h hd (by rw [hx, hy, hrh]; rfl) rfl,
      fun x y n m hrh h hd => does_vvMove h hd (not_or_of_imp hrh) rfl,
      fun x y n m hx hrh h hd => does_vvMove h hd (by rw [hx, hrh]; rfl) rfl, fun imm h hd himm => ?psetmd,
      fun imm himm => ?psetmdIllegal,
      fun v o n m h => raises_wide_illegal (State.vvForm_illegal h _) (exec_xvFmovSAtRmRoFRn v o n m s),
      fun v o n m h => raises_wide_illegal (State.vvForm_illegal h _) (exec_xvFmovSFRmAtRnRo v o n m s),
      fun v d n m h => raises_wide_illegal (State.vvForm_illegal h _) (exec_xvFmovSAtRmDisp4FRn v d n m s),
      fun v n m h => raises_wide_illegal (State.vvForm_illegal h _) (exec_xvFmovSAtRmIncFRn v n m s),
      fun v d n m h => raises_wide_illegal (State.vvForm_illegal h _) (exec_xvFmovSFRmAtRnDisp4 v d n m s),
      fun v n m h => raises_wide_illegal (State.vvForm_illegal h _) (exec_xvFmovSFRmAtDecRn v n m s),
      fun v n m hv => ?moveIllegal, fun x n m hrh => raises_vvMove hrh rfl, fun n m hrh => raises_vvMove hrh rfl,
      fun y n m hrh => raises_vvMove hrh rfl, fun x n m hrh => raises_vvMove (by rw [Bool.or_true, hrh]; rfl) rfl,
      fun n m hrh => raises_vvMove hrh rfl, fun y n m hrh => raises_vvMove hrh rfl,
      fun y n m hrh => raises_vvMove hrh rfl⟩
    case psetmd =>
      have hx : exec (.xPsetmdImm12 imm) s = wide (firstWord (.xPsetmdImm12 imm)) s
          (s.fpu (.ok { s with fpscr := packMode12 imm })) :=
        (exec_xPsetmdImm12 imm s).trans (congrArg (wide _ s) (if_pos (by rw [himm]; rfl)))
      exact does_wide_fpu hd h (congrArg (fun v => { s with fpscr := v }) (packMode12_eq imm)) hx
    case psetmdIllegal =>
      exact raises_wide_illegal (require_false (beq_eq_false_iff_ne.mpr himm) _) (exec_xPsetmdImm12 imm s)
    case moveIllegal =>
      obtain ⟨r, hr⟩ := exec_xvFmovFRmFRn_eq v n m s
      exact raises_wide_illegal (require_false (by rw [hv, Bool.false_and]) _) hr

/-! ### The 32-bit forms of XPFX0 and TACB -/

/-- A three-address float operation (rules R930 to R933). -/
theorem does_fpArith3 {i : Instr} {s : State} {op : FpOp} {q nx sx tx : Bool} {n a b : Nib} (hd : s.ds = none)
    (h : s.FpuOn) (hx : exec i s = wide (firstWord i) s (s.fpArith3 op q nx sx tx n a b)) :
    Does (encode i) i s (s.done32
      (if q then s.setPair nx n (s.fpBin op true (s.pair sx a) (s.pair tx b))
       else s.setFx nx n (lo32 (s.fpBin op false ((s.fx sx a).setWidth 64) ((s.fx tx b).setWidth 64))))) :=
  does_wide_fpu hd h (s.setFpReg_fpReg₂ q nx sx tx n a b (s.fpBin op)) hx

/-- Settles O51: with the FPU on each row is a transfer, a move to FPUL, or a float operation at the precision Q; FMOV.D
is illegal without its parameter. -/
theorem wideFloatingPoint : Obligations.WideFloatingPoint := by
  intro s
  refine ⟨fun disp n m hd h => ?storeS, fun disp n m hd h hp => ?storeD, fun disp n m hd h => ?loadS,
    fun disp n m hd h hp => ?loadD,
    fun disp n m hp => raises_wide_illegal (require_false hp _) (exec_xFmovDDRmAtRnDisp8s disp n m s),
    fun disp n m hp => raises_wide_illegal (require_false hp _) (exec_xFmovDAtRmDisp8sDRn disp n m s),
    fun imm hd h => does_wide_fpu hd h rfl (exec_xLdhf16ImmFpul imm s), fun disp n hd h => ?pcS,
    fun disp n hd h => ?pcX, fun disp n hd h => ?pcD,
    fun q nx sx tx n a b hd h => does_fpArith3 hd h (exec_tFaddFRsFRtFRn q nx sx tx n a b s),
    fun q nx sx tx n a b hd h => does_fpArith3 hd h (exec_tFsubFRsFRtFRn q nx sx tx n a b s),
    fun q nx sx tx n a b hd h => does_fpArith3 hd h (exec_tFmulFRsFRtFRn q nx sx tx n a b s),
    fun q nx sx tx n a b hd h => does_fpArith3 hd h (exec_tFdivFRsFRtFRn q nx sx tx n a b s)⟩
  case storeS =>
    exact (State.ends_wide hd _).doesFpStore (k := .single)
      ((exec_xFmovSFRmAtRnDisp8s disp n m s).trans (congrArg _ (State.fpu_of_on h _)))
  case storeD =>
    exact (State.ends_wide hd _).doesFpStore (k := .double)
      ((exec_xFmovDDRmAtRnDisp8s disp n m s).trans (congrArg _ ((if_pos hp).trans (State.fpu_of_on h _))))
  case loadS =>
    exact (State.ends_wide hd _).doesFpLoad (k := .single)
      ((exec_xFmovSAtRmDisp8sFRn disp n m s).trans (congrArg _ (State.fpu_of_on h _)))
  case loadD =>
    exact (State.ends_wide hd _).doesFpLoad (k := .double)
      ((exec_xFmovDAtRmDisp8sDRn disp n m s).trans (congrArg _ ((if_pos hp).trans (State.fpu_of_on h _))))
  case pcS =>
    exact (State.ends_wide hd _).doesFpLoad (k := .single)
      ((exec_xFmovSAtPcDisp13FRn disp n s).trans (congrArg _ (State.fpu_of_on h _)))
  case pcX =>
    exact (State.ends_wide hd _).doesFpLoad (k := .single)
      ((exec_xFmovSAtPcDisp13XFn disp n s).trans (congrArg _ (State.fpu_of_on h _)))
  case pcD =>
    exact (State.ends_wide hd _).doesFpLoad (k := .double)
      ((exec_xFmovDAtPcDisp13DRn disp n s).trans (congrArg _ (State.fpu_of_on h _)))

end Sys2Proof.Machine
end

section
/-! PROOFS. The XPFX0 stores, comparisons, logic and addresses (statements O49 and O53). -/
namespace Sys2Proof.Machine

/-! ### Stores -/

section
variable {i : Instr} {s : State} {len : Quad} {e : Res State → Host.Outcome State Fault Refusal} {n align : Nat}
  {ea v : Quad}

/-- A store that changes no register, whatever the end. -/
theorem State.Ends.doesStorePlain (he : s.Ends (firstWord i) len e) (hal : alignOf n = align)
    (hx : exec i s = e (s.store ea n v)) : DoesStore (encode i) i s align n ea v (s.advance s.pcn len) :=
  he.doesStore hal (f := id) (fun _ _ _ => rfl) (hx.trans (by rw [Except.map_id, id]))

/-- A store with pre-decrement of `R[a]` by `d`, the byte count, whatever the end (rule R251). -/
theorem State.Ends.doesStoreDec (he : s.Ends (firstWord i) len e) {a : Reg} {d : Quad} (hal : alignOf n = align)
    (hd : quadOf n = d) (hx : exec i s = e (s.storeDec a n v)) :
    DoesStore (encode i) i s align n (s.r a - d) v ((s.writeA a (s.r a - d)).advance s.pcn len) := by
  subst hd
  rw [← State.wrA_eq]
  exact he.doesStore hal (f := fun t => t.wrA a _) (s.withMem_wrA a _) hx

end

/-- Settles O49: every line is a store that ends as a 32-bit row; the quad rows need JQ = 1, and the last four lines are
those rows without it. -/
theorem wideStores : Obligations.WideStores := by
  intro s
  have he : ∀ {w : IWord}, s.ds = none → s.Ends w 4 (wide w s) := fun hd => State.ends_wide hd _
  refine ⟨fun o disp n m hd => ?movB, fun o disp n m hd => ?movW, fun o disp n m hd => ?movL,
    fun o disp n m hd hj => ?movQ, fun disp n m o hd => ?movLRo, fun disp n m hd => ?movBDisp,
    fun disp n m hd => ?movWDisp, fun disp n m hd => ?movLDisp, fun disp n m hd hj => ?movQDisp,
    fun imm n hd => ?movBImm, fun imm n hd => ?movWImm, fun imm n hd => ?movLImm, fun imm n hd hj => ?movQImm,
    fun imm n hd => ?movBDec, fun imm n hd => ?movWDec, fun imm n hd => ?movLDec, fun imm n hd hj => ?movQDec,
    fun o disp n m hj => raises_wide_illegal (State.needJq_of_not_jq hj _) (exec_xMovQRmAtRnRoDisp4 o disp n m s),
    fun disp n m hj => raises_wide_illegal (State.needJq_of_not_jq hj _) (exec_xMovQRmAtRnDisp8s disp n m s),
    fun imm n hj => raises_wide_illegal (State.needJq_of_not_jq hj _) (exec_xMovQImmAtRn imm n s),
    fun imm n hj => raises_wide_illegal (State.needJq_of_not_jq hj _) (exec_xMovQImmAtDecRn imm n s)⟩
  case movB =>
    rw [← s.ea3_eq _ o _ 1 1 rfl]
    exact (he hd).doesStorePlain rfl (exec_xMovBRmAtRnRoDisp4 o disp n m s)
  case movW =>
    rw [← s.ea3_eq _ o _ 2 2 rfl]
    exact (he hd).doesStorePlain rfl (exec_xMovWRmAtRnRoDisp4 o disp n m s)
  case movL =>
    rw [← s.ea3_eq _ o _ 4 4 rfl]
    exact (he hd).doesStorePlain rfl (exec_xMovLRmAtRnRoDisp4 o disp n m s)
  case movQ =>
    rw [← s.ea3_eq _ o _ 8 8 rfl]
    exact (he hd).doesStorePlain rfl
      ((exec_xMovQRmAtRnRoDisp4 o disp n m s).trans (congrArg _ (State.needJq_of_jq hj _)))
  case movLRo =>
    rw [← s.ea3_eq _ o _ 4 4 rfl]
    exact (he hd).doesStorePlain rfl (exec_xMovLRmAtRnRoDisp8s disp n m o s)
  case movBDisp => exact (he hd).doesStorePlain rfl (exec_xMovBRmAtRnDisp8s disp n m s)
  case movWDisp => exact (he hd).doesStorePlain rfl (exec_xMovWRmAtRnDisp8s disp n m s)
  case movLDisp => exact (he hd).doesStorePlain rfl (exec_xMovLRmAtRnDisp8s disp n m s)
  case movQDisp =>
    exact (he hd).doesStorePlain rfl
      ((exec_xMovQRmAtRnDisp8s disp n m s).trans (congrArg _ (State.needJq_of_jq hj _)))
  case movBImm => exact (he hd).doesStorePlain rfl (exec_xMovBImmAtRn imm n s)
  case movWImm => exact (he hd).doesStorePlain rfl (exec_xMovWImmAtRn imm n s)
  case movLImm => exact (he hd).doesStorePlain rfl (exec_xMovLImmAtRn imm n s)
  case movQImm =>
    exact (he hd).doesStorePlain rfl ((exec_xMovQImmAtRn imm n s).trans (congrArg _ (State.needJq_of_jq hj _)))
  case movBDec => exact (he hd).doesStoreDec (d := 1) rfl rfl (exec_xMovBImmAtDecRn imm n s)
  case movWDec => exact (he hd).doesStoreDec (d := 2) rfl rfl (exec_xMovWImmAtDecRn imm n s)
  case movLDec => exact (he hd).doesStoreDec (d := 4) rfl rfl (exec_xMovLImmAtDecRn imm n s)
  case movQDec =>
    exact (he hd).doesStoreDec (d := 8) rfl rfl
      ((exec_xMovQImmAtDecRn imm n s).trans (congrArg _ (State.needJq_of_jq hj _)))

/-! ### Comparisons, logic and addresses -/

/-- An address written to `R[n]` (rules R131, R788). -/
theorem does_wide_wrA {i : Instr} {s : State} {n : Reg} {a b : Quad} (hd : s.ds = none) (ha : a = b)
    (hx : exec i s = wide (firstWord i) s (.ok (s.wrA n a))) :
    Does (encode i) i s (s.done32 (s.writeA n b)) :=
  does_wide hd (by rw [ha, State.wrA_eq]) hx

/-- Settles O53: comparisons and logic are computations at W = OPW on an immediate, LEA and MOVA write an address, and
MOVI24 is a no-suffix write. -/
theorem wideCompareLogicAndAddress : Obligations.WideCompareLogicAndAddress := by
  intro s
  refine ⟨fun imm n hd => ?cmpeq, fun imm n hd => ?cmphs, fun imm n hd => ?cmpge, fun imm n hd => ?cmphi,
    fun imm n hd => ?cmpgt, fun imm hd => ?cmpeqR0, fun imm n hd => ?tst, fun imm n hd => ?and, fun imm n hd => ?xor,
    fun imm n hd => ?or, fun o disp n m hd => does_wide_wrA hd (s.ea3_eq _ o _ 1 1 rfl) ?leaB,
    fun o disp n m hd => does_wide_wrA hd (s.ea3_eq _ o _ 2 2 rfl) ?leaW,
    fun o disp n m hd => does_wide_wrA hd (s.ea3_eq _ o _ 4 4 rfl) ?leaL,
    fun o disp n m hd => does_wide_wrA hd (s.ea3_eq _ o _ 8 8 rfl) ?leaQ,
    fun disp n m hd => does_wide_wrA hd rfl (exec_xLeaBAtRmDisp8sRn disp n m s),
    fun disp n m hd => does_wide_wrA hd rfl (exec_xLeaWAtRmDisp8sRn disp n m s),
    fun disp n m hd => does_wide_wrA hd rfl (exec_xLeaLAtRmDisp8sRn disp n m s),
    fun disp n m hd => does_wide_wrA hd rfl (exec_xLeaQAtRmDisp8sRn disp n m s),
    fun disp n hd => does_wide_wrA hd rfl (exec_xMovaAtPcDisp13Rn disp n s),
    fun imm hd => does_wide_wrA hd rfl (exec_xLdsh16ImmR0 imm s),
    fun imm hd => does_wide hd rfl (exec_movi24Imm24R0 imm s)⟩
  case cmpeq => exact does_wide hd (s.cmpOp_eq cmpEq n (s.r n) (imm.signExtend 64)) (exec_xCmpeqImm12Rn imm n s)
  case cmphs => exact does_wide hd (s.cmpOp_eq cmpHs n (s.r n) (imm.signExtend 64)) (exec_xCmphsImm12Rn imm n s)
  case cmpge => exact does_wide hd (s.cmpOp_eq cmpGe n (s.r n) (imm.signExtend 64)) (exec_xCmpgeImm12Rn imm n s)
  case cmphi => exact does_wide hd (s.cmpOp_eq cmpHi n (s.r n) (imm.signExtend 64)) (exec_xCmphiImm12Rn imm n s)
  case cmpgt => exact does_wide hd (s.cmpOp_eq cmpGt n (s.r n) (imm.signExtend 64)) (exec_xCmpgtImm12Rn imm n s)
  case cmpeqR0 => exact does_wide hd (s.cmpOp_eq cmpEq 0 (s.r 0) (imm.signExtend 64)) (exec_xCmpeqImm16R0 imm s)
  case tst => exact does_wide hd (s.cmpOp_eq cmpTst n (s.r n) (imm.setWidth 64)) (exec_xTstImm12Rn imm n s)
  case and => exact does_wide hd (s.binOp_eq aluAnd n (s.r n) (imm.setWidth 64)) (exec_xAndImm12Rn imm n s)
  case xor => exact does_wide hd (s.binOp_eq aluXor n (s.r n) (imm.setWidth 64)) (exec_xXorImm12Rn imm n s)
  case or => exact does_wide hd (s.binOp_eq aluOr n (s.r n) (imm.setWidth 64)) (exec_xOrImm12Rn imm n s)
  case leaB => exact exec_xLeaBAtRmRoDisp4Rn o disp n m s
  case leaW => exact exec_xLeaWAtRmRoDisp4Rn o disp n m s
  case leaL => exact exec_xLeaLAtRmRoDisp4Rn o disp n m s
  case leaQ => exact exec_xLeaQAtRmRoDisp4Rn o disp n m s

end Sys2Proof.Machine
end

section
/-! PROOFS. The forms that a parameter gates: MOVI20, the `3nm1` block and XPFZ0 (statement O59). -/
namespace Sys2Proof.Machine

/-- A gated form where its parameter is set (rule R8). -/
theorem require_true {α : Type} {b : Bool} (h : b = true) (r : Res α) : require b r = r := if_pos h

/-- At JQ = 1 an address has 64 bits (rule R61). -/
theorem State.addr_of_jq {s : State} (h : s.jq = true) (x : Quad) : s.addr x = x := by
  rw [State.addr, if_pos h]

section
variable {i : Instr} {s : State} {c : Bool}

/-- A gated 32-bit row that cannot fail. -/
theorem does_wide_require {u : State} (hd : s.ds = none) (hc : c = true)
    (hx : exec i s = wide (firstWord i) s (require c (.ok u))) : Does (encode i) i s (s.done32 u) :=
  does_wide hd rfl (hx.trans (congrArg _ (require_true hc _)))

/-- A gated form without its parameter (rule R8). -/
theorem raises_wide_require {r : Res State} (hc : c = false)
    (hx : exec i s = wide (firstWord i) s (require c r)) : Raises i s .illegal :=
  raises_wide_illegal (require_false hc r) hx

/-- An XPFZ0 register row: eight bytes, JQ = 1 (rules R961, R965). -/
theorem does_veryWide {n : Reg} {v : Quad} (hc : c = true) (hj : s.jq = true) (hd : s.ds = none)
    (hx : exec i s = veryWide (firstWord i) s (require c (s.needJq (.ok (s.setR n v))))) :
    Does (encode i) i s { s.setR n v with pc := s.pcn + 8 } := by
  have hend : (s.setR n v).advance s.pcn 8 = { s.setR n v with pc := s.pcn + 8 } := by
    rw [State.advance_none (by rw [State.setR_ds, hd]), State.addr_of_jq (by rw [State.setR_jq, hj])]
  refine ⟨rfl, ?_⟩
  rw [hx, require_true hc, State.needJq_of_jq hj, veryWide, Except.map, noSlot_ok hd, hend]

/-- An XPFZ0 branch: no slot, JQ = 1 (rules R963, R964). -/
theorem does_noSlot_xpfz0 {t u : State} (hc : c = true) (hj : s.jq = true) (hd : s.ds = none) (ht : t = u)
    (hx : exec i s = noSlot (firstWord i) s (require c (s.needJq (.ok t)))) : Does (encode i) i s u :=
  does_noSlot hd ht (by rw [hx, require_true hc, State.needJq_of_jq hj])

end

/-- Settles O59: with its parameter set each form does what its ungated counterpart would, without it each is illegal;
the XPFZ0 forms run at JQ = 1 alone, where an address is not reduced. -/
theorem gatedLongForms : Obligations.GatedLongForms := by
  intro s
  have he : ∀ {w : IWord}, s.ds = none → s.Ends w 4 (wide w s) := fun hd => State.ends_wide hd _
  have hb := s.signLoads_narrow (n := 1) (by decide)
  have hw := s.signLoads_narrow (n := 2) (by decide)
  have hl := s.signLoads_narrow (n := 4) (by decide)
  refine ⟨fun n imm hd hp => does_wide_require hd hp (exec_movi20ImmRn n imm s),
    fun n imm hd hp => does_wide_require hd hp (exec_movi20sImmRn n imm s), fun n m disp hd hp => ?storeB,
    fun n m disp hd hp => ?storeW, fun n m disp hd hp => ?storeL, fun n m disp hd hp h => ?storeF,
    fun n m disp hd hp => ?loadB, fun n m disp hd hp => ?loadW, fun n m disp hd hp => ?loadL,
    fun n m disp hd hp h => ?loadF, fun n m disp hd hp => ?loaduB, fun n m disp hd hp => ?loaduW,
    fun n imm hp => raises_wide_require hp (exec_movi20ImmRn n imm s),
    fun n imm hp => raises_wide_require hp (exec_movi20sImmRn n imm s),
    fun n m disp hp => raises_wide_require hp (exec_wMovBRmAtRnDisp n m disp s),
    fun n m disp hp => raises_wide_require hp (exec_wMovWRmAtRnDisp n m disp s),
    fun n m disp hp => raises_wide_require hp (exec_wMovLRmAtRnDisp n m disp s),
    fun n m disp hp => raises_wide_require hp (exec_wFmovSFRmAtRnDisp n m disp s),
    fun n m disp hp => raises_wide_require hp (exec_wMovBAtRmDispRn n m disp s),
    fun n m disp hp => raises_wide_require hp (exec_wMovWAtRmDispRn n m disp s),
    fun n m disp hp => raises_wide_require hp (exec_wMovLAtRmDispRn n m disp s),
    fun n m disp hp => raises_wide_require hp (exec_wFmovSAtRmDispFRn n m disp s),
    fun n m disp hp => raises_wide_require hp (exec_wMovuBAtRmDispRn n m disp s),
    fun n m disp hp => raises_wide_require hp (exec_wMovuWAtRmDispRn n m disp s),
    fun n imm hp hj hd => does_veryWide hp hj hd (exec_zAddQImm48Rn n imm s),
    fun n imm hp hj hd => does_veryWide hp hj hd (exec_zMovQImm48Rn n imm s),
    fun disp hp hj hd => ?bra, fun disp hp hj hd => ?bsr,
    fun n imm hp => raises_veryWide_illegal (require_false hp _) (exec_zAddQImm48Rn n imm s),
    fun n imm hp => raises_veryWide_illegal (require_false hp _) (exec_zMovQImm48Rn n imm s),
    fun disp hp => raises_noSlot_illegal (require_false hp _) (exec_zBraDisp48 disp s),
    fun disp hp => raises_noSlot_illegal (require_false hp _) (exec_zBsrDisp48 disp s)⟩
  case storeB =>
    exact (he hd).doesStorePlain rfl ((exec_wMovBRmAtRnDisp n m disp s).trans (congrArg _ (require_true hp _)))
  case storeW =>
    exact (he hd).doesStorePlain rfl ((exec_wMovWRmAtRnDisp n m disp s).trans (congrArg _ (require_true hp _)))
  case storeL =>
    exact (he hd).doesStorePlain rfl ((exec_wMovLRmAtRnDisp n m disp s).trans (congrArg _ (require_true hp _)))
  case storeF =>
    exact (he hd).doesFpStore (k := .single) ((exec_wFmovSFRmAtRnDisp n m disp s).trans
      (congrArg _ ((require_true hp _).trans (State.fpu_of_on h _))))
  case loadB =>
    exact (he hd).doesLoadReg rfl hb ((exec_wMovBAtRmDispRn n m disp s).trans (congrArg _ (require_true hp _)))
  case loadW =>
    exact (he hd).doesLoadReg rfl hw ((exec_wMovWAtRmDispRn n m disp s).trans (congrArg _ (require_true hp _)))
  case loadL =>
    exact (he hd).doesLoadReg rfl hl ((exec_wMovLAtRmDispRn n m disp s).trans (congrArg _ (require_true hp _)))
  case loadF =>
    exact (he hd).doesFpLoad (k := .single) ((exec_wFmovSAtRmDispFRn n m disp s).trans
      (congrArg _ ((require_true hp _).trans (State.fpu_of_on h _))))
  case loaduB =>
    exact (he hd).doesLoadRegZero rfl (by decide)
      ((exec_wMovuBAtRmDispRn n m disp s).trans (congrArg _ (require_true hp _)))
  case loaduW =>
    exact (he hd).doesLoadRegZero rfl (by decide)
      ((exec_wMovuWAtRmDispRn n m disp s).trans (congrArg _ (require_true hp _)))
  case bra =>
    refine does_noSlot_xpfz0 hp hj hd ?_ (exec_zBraDisp48 disp s)
    rw [State.jump, State.addr_of_jq hj]
    rfl
  case bsr =>
    refine does_noSlot_xpfz0 hp hj hd ?_ (exec_zBsrDisp48 disp s)
    rw [s.link_eq, State.mergeA, if_pos hj, State.jump, State.addr_of_jq]
    · rfl
    · exact hj

end Sys2Proof.Machine
end

section
/-! PROOFS. OPREX (statements O56 and O57). -/
namespace Sys2Proof.Machine

/-! ### The checks of OPREX -/

section
variable {s : State}

/-- At Q = 0 a register row passes its checks where the halves it names exist (rule R861). -/
theorem State.oprexCheck_half {nx mx : Bool} (h : (nx || mx) = true → s.hasRh = true) (r : Res State) :
    s.oprexCheck false nx mx false r = r :=
  require_true (by rw [not_or_of_imp h]; rfl) r

/-- At Q = 1 it passes them at JQ = 1, without an extension bit. -/
theorem State.oprexCheck_quad (h : s.jq = true) (r : Res State) : s.oprexCheck true false false false r = r :=
  require_true (by rw [h]; rfl) r

theorem State.oprexCheck_missing {nx mx : Bool} (hx : (nx || mx) = true) (h : s.hasRh = false) (q bx : Bool)
    (r : Res State) : s.oprexCheck q nx mx bx r = illegal :=
  require_false (by rw [hx, h]; simp) r

theorem State.oprexCheck_not_jq (h : s.jq = false) (nx mx bx : Bool) (r : Res State) :
    s.oprexCheck true nx mx bx r = illegal :=
  require_false (by rw [h]; rfl) r

/-- The same of a transfer, whose address register's bit must be 0. -/
theorem State.oprexMemCheck_half {dx : Bool} (h : dx = true → s.hasRh = true) (r : Res State) :
    s.oprexMemCheck false false dx r = r := by
  have hd : (!(false || dx) || s.hasRh) = true := not_or_of_imp h
  exact require_true (by rw [hd]; rfl) r

theorem State.oprexMemCheck_quad (h : s.jq = true) (r : Res State) : s.oprexMemCheck true false false r = r :=
  require_true (by rw [h]; rfl) r

theorem State.oprexMemCheck_missing (h : s.hasRh = false) (q ax : Bool) (r : Res State) :
    s.oprexMemCheck q ax true r = illegal :=
  require_false (by rw [h]; simp) r

theorem State.oprexMemCheck_not_jq (h : s.jq = false) (ax dx : Bool) (r : Res State) :
    s.oprexMemCheck true ax dx r = illegal :=
  require_false (by rw [h]; rfl) r

end

/-! ### Stores -/

/-- The legal and the illegal combinations of a store row (rules R861, R864 to R869). -/
theorem oprexStore {sub : Nib} {i : Bool → Bool → Bool → Bool → Nib → Nib → Instr} {s : State} {z : Nat} {dec : Bool}
    (hz : alignOf z = z)
    (henc : ∀ q nx mx bx n m, encode (i q nx mx bx n m) = [mk4 0x8#4 0xC#4 0x0#4 (bits4 q nx mx bx), mk4 0x2#4 n m sub])
    (hx : ∀ q nx mx bx n m, exec (i q nx mx bx n m) s = wide (firstWord (i q nx mx bx n m)) s
      (s.oprexStoreCheck q nx mx bx
        (if dec then s.storeDec n z (zx32 (s.half mx m)) else s.store (s.r n) z (zx32 (s.half mx m))))) :
    OprexStore sub i s z dec := by
  refine fun n m mx => ⟨fun hd hrh => ?store, fun hmx hrh => ?missing, fun q nx bx h => ?illegal⟩
  case store =>
    rw [← henc]
    have hlegal := (hx false false mx false n m).trans (congrArg _ ((State.oprexMemCheck_half hrh _).trans rfl))
    cases dec
    · exact (State.ends_wide hd _).doesStorePlain hz hlegal
    · exact (State.ends_wide hd _).doesStoreDec hz rfl hlegal
  case missing =>
    subst hmx
    exact raises_wide_illegal (State.oprexMemCheck_missing hrh _ _ _) (hx false false true false n m)
  case illegal =>
    have hwf : (wfAddress q nx mx && !bx && !q) = false := by
      unfold wfAddress
      grind
    exact raises_wide_illegal (State.oprexStoreCheck_of_wf hwf _) (hx q nx mx bx n m)

/-! ### Loads -/

/-- The register write of a load: the half named, or the quad (rules R886 to R888). -/
theorem State.oprexLoaded_half (s : State) (x : Bool) (n : Reg) (bits : Nat) (v : Quad) :
    s.oprexLoaded false x n bits v = s.setHalf x n ((v.setWidth bits).signExtend 32) := by
  rw [State.oprexLoaded, State.setOpx, if_neg Bool.false_ne_true, sxN, lo32_signExtend]

theorem State.oprexLoaded_quad (s : State) (x : Bool) (n : Reg) (bits : Nat) (v : Quad) :
    s.oprexLoaded true x n bits v = s.setR n ((v.setWidth bits).signExtend 64) := by
  rw [State.oprexLoaded, State.setOpx, if_pos rfl, sxN]

/-- The legal and the illegal combinations of a load row (rules R861, R886 to R888, R890 to R892). -/
theorem oprexLoad {sub : Nib} {i : Bool → Bool → Bool → Bool → Nib → Nib → Instr} {s : State} {z : Nat} {inc : Bool}
    (hz : alignOf z = z)
    (henc : ∀ q nx mx bx n m, encode (i q nx mx bx n m) = [mk4 0x8#4 0xC#4 0x0#4 (bits4 q nx mx bx), mk4 0x6#4 n m sub])
    (hx : ∀ q nx mx bx n m, exec (i q nx mx bx n m) s = wide (firstWord (i q nx mx bx n m)) s
      (s.oprexLoadCheck q mx nx bx ((s.load (s.r m) z).map fun v =>
        (if inc then s.wrA m (s.r m + quadOf z) else s).oprexLoaded q nx n (8 * z) v))) :
    OprexLoad sub i s z inc := by
  refine fun n m => ⟨fun nx hd hrh => ?half, fun hd hj => ?quad, fun hrh => ?missing, fun hj => ?notJq,
    fun q nx mx bx h => ?illegal⟩
  case half =>
    rw [← henc]
    simp only [← State.oprexLoaded_half, ← State.wrA_eq]
    exact (State.ends_wide hd _).doesLoad hz
      ((hx false nx false false n m).trans (congrArg _ (State.oprexMemCheck_half hrh _)))
  case quad =>
    have hq : [mk4 0x8#4 0xC#4 0x0#4 0x8#4, mk4 0x6#4 n m sub] = encode (i true false false false n m) :=
      (henc true false false false n m).symm
    rw [hq]
    simp only [← State.oprexLoaded_quad _ false, ← State.wrA_eq]
    exact (State.ends_wide hd _).doesLoad hz
      ((hx true false false false n m).trans (congrArg _ (State.oprexMemCheck_quad hj _)))
  case missing => exact raises_wide_illegal (State.oprexMemCheck_missing hrh _ _ _) (hx false true false false n m)
  case notJq => exact raises_wide_illegal (State.oprexMemCheck_not_jq hj _ _ _) (hx true false false false n m)
  case illegal =>
    have hwf : (wfAddress q mx nx && !bx) = false := by
      unfold wfAddress
      grind
    exact raises_wide_illegal (State.oprexLoadCheck_of_wf hwf _) (hx q nx mx bx n m)

/-- Settles O56: the six store rows and the six load rows each by the one lemma about their kind; the rows with a
displacement, in which B is a bit of it, one by one. -/
theorem oprexTransfers : Obligations.OprexTransfers := by
  intro s
  have he : ∀ {w : IWord}, s.ds = none → s.Ends w 4 (wide w s) := fun hd => State.ends_wide hd _
  have hwf : ∀ {ax dx : Bool}, (ax || dx) = true → wfAddress true ax dx = false := fun {ax dx} h => by
    unfold wfAddress
    grind
  refine ⟨fun n m mx bx disp hd hrh => ?storeL, fun n m bx disp hd hj => ?storeQ,
    oprexStore rfl (fun _ _ _ _ _ _ => rfl) (exec_oMovBRmAtRn · · · · · · s),
    oprexStore rfl (fun _ _ _ _ _ _ => rfl) (exec_oMovWRmAtRn · · · · · · s),
    oprexStore rfl (fun _ _ _ _ _ _ => rfl) (exec_oMovLRmAtRn · · · · · · s),
    oprexStore rfl (fun _ _ _ _ _ _ => rfl) (exec_oMovBRmAtDecRn · · · · · · s),
    oprexStore rfl (fun _ _ _ _ _ _ => rfl) (exec_oMovWRmAtDecRn · · · · · · s),
    oprexStore rfl (fun _ _ _ _ _ _ => rfl) (exec_oMovLRmAtDecRn · · · · · · s),
    fun n m bx disp hrh => raises_wide_illegal (State.oprexMemCheck_missing hrh _ _ _)
      (exec_oMovLRmAtRnDisp5 false true bx n m disp s),
    fun n m bx disp hj => raises_wide_illegal (State.oprexMemCheck_not_jq hj _ _ _)
      (exec_oMovQRmAtRnDisp5 false false bx n m disp s),
    fun n m nx bx disp hd hrh => ?loadL, fun n m bx disp hd hj => ?loadQ,
    fun n m mx bx disp => raises_wide_illegal (State.oprexMemCheck_of_wfAddress rfl _)
      (exec_oMovLRmAtRnDisp5 true mx bx n m disp s),
    fun n m nx mx bx disp h => raises_wide_illegal (State.oprexMemCheck_of_wfAddress (hwf h) _)
      (exec_oMovQRmAtRnDisp5 nx mx bx n m disp s),
    fun n m nx bx disp => raises_wide_illegal (State.oprexMemCheck_of_wfAddress rfl _)
      (exec_oMovLAtRmDisp5Rn nx true bx n m disp s),
    fun n m nx mx bx disp h => raises_wide_illegal (State.oprexMemCheck_of_wfAddress (hwf ((Bool.or_comm _ _).trans h)) _)
      (exec_oMovQAtRmDisp5Rn nx mx bx n m disp s),
    fun n m bx disp hrh => raises_wide_illegal (State.oprexMemCheck_missing hrh _ _ _)
      (exec_oMovLAtRmDisp5Rn true false bx n m disp s),
    fun n m bx disp hj => raises_wide_illegal (State.oprexMemCheck_not_jq hj _ _ _)
      (exec_oMovQAtRmDisp5Rn false false bx n m disp s),
    oprexLoad rfl (fun _ _ _ _ _ _ => rfl) (exec_oMovBAtRmRn · · · · · · s),
    oprexLoad rfl (fun _ _ _ _ _ _ => rfl) (exec_oMovWAtRmRn · · · · · · s),
    oprexLoad rfl (fun _ _ _ _ _ _ => rfl) (exec_oMovLAtRmRn · · · · · · s),
    oprexLoad rfl (fun _ _ _ _ _ _ => rfl) (exec_oMovBAtRmIncRn · · · · · · s),
    oprexLoad rfl (fun _ _ _ _ _ _ => rfl) (exec_oMovWAtRmIncRn · · · · · · s),
    oprexLoad rfl (fun _ _ _ _ _ _ => rfl) (exec_oMovLAtRmIncRn · · · · · · s)⟩
  case storeL =>
    exact (he hd).doesStorePlain rfl
      ((exec_oMovLRmAtRnDisp5 false mx bx n m disp s).trans (congrArg _ (State.oprexMemCheck_half hrh _)))
  case storeQ =>
    exact (he hd).doesStorePlain rfl
      ((exec_oMovQRmAtRnDisp5 false false bx n m disp s).trans (congrArg _ (State.oprexMemCheck_quad hj _)))
  case loadL =>
    exact (he hd).doesLoad rfl
      ((exec_oMovLAtRmDisp5Rn nx false bx n m disp s).trans (congrArg _ (State.oprexMemCheck_half hrh _)))
  case loadQ =>
    exact (he hd).doesLoad (align := 4) rfl
      ((exec_oMovQAtRmDisp5Rn false false bx n m disp s).trans (congrArg _ (State.oprexMemCheck_quad hj _)))

/-! ### Register rows -/

section
variable {op sub : Nib} {i : Bool → Bool → Bool → Bool → Nib → Nib → Instr} {s : State}

/-- A register row whose effect `t` is the computation `f`, on halves and on quads (rules R861, R862). -/
theorem oprexRow {f : Computation} {t : Bool → Bool → Bool → Nib → Nib → State}
    (henc : ∀ q nx mx bx n m, encode (i q nx mx bx n m) = [mk4 0x8#4 0xC#4 0x0#4 (bits4 q nx mx bx), mk4 op n m sub])
    (hx : ∀ q nx mx bx n m, exec (i q nx mx bx n m) s = wide (firstWord (i q nx mx bx n m)) s
      (s.oprexCheck q nx mx bx (.ok (t q nx mx n m))))
    (h32 : ∀ nx mx n m, t false nx mx n m = s.result32 nx n (f 32 (s.half nx n) (s.half mx m) s.t))
    (h64 : ∀ n m, t true false false n m = s.result64 n (f 64 (s.r n) (s.r m) s.t)) : OprexRow op sub i s f := by
  refine fun n m => ⟨fun nx mx hd hrh => ?half, fun hd hj => ?quad, fun nx mx h hrh => ?missing, fun hj => ?notJq⟩
  case half =>
    rw [← henc]
    exact does_wide hd (h32 nx mx n m)
      ((hx false nx mx false n m).trans (congrArg _ (State.oprexCheck_half hrh _)))
  case quad =>
    have hq : [mk4 0x8#4 0xC#4 0x0#4 0x8#4, mk4 op n m sub] = encode (i true false false false n m) :=
      (henc true false false false n m).symm
    rw [hq]
    exact does_wide hd (h64 n m) ((hx true false false false n m).trans (congrArg _ (State.oprexCheck_quad hj _)))
  case missing => exact raises_wide_illegal (State.oprexCheck_missing h hrh _ _ _) (hx false nx mx false n m)
  case notJq => exact raises_wide_illegal (State.oprexCheck_not_jq hj _ _ _ _) (hx true false false false n m)

/-! A half operand is the low half of what `opx` reads, and `setOpx` writes the low half of its value. -/

@[simp] theorem State.opx_half (x : Bool) (n : Reg) : s.opx false x n = zx32 (s.half x n) := rfl
@[simp] theorem State.opx_quad (x : Bool) (n : Reg) : s.opx true x n = s.r n := rfl
@[simp] theorem State.setOpx_half (x : Bool) (n : Reg) (v : Quad) : s.setOpx false x n v = s.setHalf x n (lo32 v) := rfl
@[simp] theorem State.setOpx_quad (x : Bool) (n : Reg) (v : Quad) : s.setOpx true x n v = s.setR n v := rfl

/-- A row that writes a result and leaves T. -/
theorem oprexRow_result {f : (w : Nat) → BitVec w → BitVec w → BitVec w} {v : Bool → Bool → Bool → Nib → Nib → Quad}
    (henc : ∀ q nx mx bx n m, encode (i q nx mx bx n m) = [mk4 0x8#4 0xC#4 0x0#4 (bits4 q nx mx bx), mk4 op n m sub])
    (hx : ∀ q nx mx bx n m, exec (i q nx mx bx n m) s = wide (firstWord (i q nx mx bx n m)) s
      (s.oprexCheck q nx mx bx (.ok (s.setOpx q nx n (v q nx mx n m)))))
    (h32 : ∀ nx mx n m, lo32 (v false nx mx n m) = f 32 (s.half nx n) (s.half mx m))
    (h64 : ∀ n m, v true false false n m = f 64 (s.r n) (s.r m)) :
    OprexRow op sub i s fun w a b _ => (some (f w a b), none) :=
  oprexRow henc hx (fun nx mx n m => by rw [State.setOpx_half, h32]; rfl) fun n m => by
    rw [State.setOpx_quad, h64]; rfl

/-- A binary operation. -/
theorem oprexRow_bin (f : (w : Nat) → BitVec w → BitVec w → BitVec w)
    (henc : ∀ q nx mx bx n m, encode (i q nx mx bx n m) = [mk4 0x8#4 0xC#4 0x0#4 (bits4 q nx mx bx), mk4 op n m sub])
    (hx : ∀ q nx mx bx n m, exec (i q nx mx bx n m) s = wide (firstWord (i q nx mx bx n m)) s
      (s.oprexCheck q nx mx bx (.ok (s.setOpx q nx n (binQ q f (s.opx q nx n) (s.opx q mx m)))))) :
    OprexRow op sub i s fun w a b _ => (some (f w a b), none) :=
  oprexRow_result henc hx (fun _ _ _ _ => by simp [binQ]) fun _ _ => rfl

/-- A comparison, which writes T alone. -/
theorem oprexRow_cmp (f : (w : Nat) → BitVec w → BitVec w → Bool)
    (henc : ∀ q nx mx bx n m, encode (i q nx mx bx n m) = [mk4 0x8#4 0xC#4 0x0#4 (bits4 q nx mx bx), mk4 op n m sub])
    (hx : ∀ q nx mx bx n m, exec (i q nx mx bx n m) s = wide (firstWord (i q nx mx bx n m)) s
      (s.oprexCheck q nx mx bx (.ok (s.setT (cmpQ q f (s.opx q nx n) (s.opx q mx m)))))) :
    OprexRow op sub i s fun w a b _ => (none, some (f w a b)) :=
  oprexRow henc hx (fun _ _ _ _ => by simp [cmpQ, State.result32, State.putT]) fun _ _ => rfl

/-- An operation that reads and writes T; its first operand is `a` at each width. -/
theorem oprexRow_binT (f : (w : Nat) → BitVec w → BitVec w → Bool → BitVec w × Bool) {g : Computation}
    {a : Bool → Bool → Nib → Quad}
    (henc : ∀ q nx mx bx n m, encode (i q nx mx bx n m) = [mk4 0x8#4 0xC#4 0x0#4 (bits4 q nx mx bx), mk4 op n m sub])
    (hx : ∀ q nx mx bx n m, exec (i q nx mx bx n m) s = wide (firstWord (i q nx mx bx n m)) s
      (s.oprexCheck q nx mx bx (.ok (s.oprexTOp q nx n f (a q nx n) (s.opx q mx m)))))
    (h32 : ∀ nx n b t, (some (f 32 (lo32 (a false nx n)) b t).1, some (f 32 (lo32 (a false nx n)) b t).2) =
      g 32 (s.half nx n) b t)
    (h64 : ∀ n b t, (some (f 64 (a true false n) b t).1, some (f 64 (a true false n) b t).2) = g 64 (s.r n) b t) :
    OprexRow op sub i s g :=
  oprexRow henc hx
    (fun nx mx n m => by
      rw [← h32]
      simp [State.oprexTOp, binTQ, State.result32, State.putT])
    fun n m => by
      rw [← h64]
      rfl

end

/-- A field of a half, extended at 32 bits (rules R896 to R899). -/
theorem setWidth_zx32 (h : Dword) {k : Nat} (hk : k ≤ 32) : (zx32 h).setWidth k = h.setWidth k :=
  BitVec.setWidth_setWidth_of_le _ (by omega)

theorem lo32_zxN_zx32 (h : Dword) {k : Nat} (hk : k ≤ 32) : lo32 (zxN k (zx32 h)) = (h.setWidth k).setWidth 32 := by
  rw [zxN, lo32_setWidth, setWidth_zx32 h hk]

theorem lo32_sxN_zx32 (h : Dword) {k : Nat} (hk : k ≤ 32) : lo32 (sxN k (zx32 h)) = (h.setWidth k).signExtend 32 := by
  rw [sxN, lo32_signExtend, setWidth_zx32 h hk]

/-- Settles O57: every row by the lemma about its kind. NEG and NEGC are written otherwise than their rules, the
extensions read a field of the half, and MOV #imm10 has the extension bits of its second operand in the immediate. -/
theorem oprexArithmetic : Obligations.OprexArithmetic := by
  intro s
  refine ⟨oprexRow_cmp cmpTst (fun _ _ _ _ _ _ => rfl) (exec_oTstRmRn · · · · · · s),
    oprexRow_bin aluAnd (fun _ _ _ _ _ _ => rfl) (exec_oAndRmRn · · · · · · s),
    oprexRow_bin aluXor (fun _ _ _ _ _ _ => rfl) (exec_oXorRmRn · · · · · · s),
    oprexRow_bin aluOr (fun _ _ _ _ _ _ => rfl) (exec_oOrRmRn · · · · · · s),
    oprexRow_cmp cmpEq (fun _ _ _ _ _ _ => rfl) (exec_oCmpeqRmRn · · · · · · s),
    oprexRow_cmp cmpHs (fun _ _ _ _ _ _ => rfl) (exec_oCmphsRmRn · · · · · · s),
    oprexRow_cmp cmpGe (fun _ _ _ _ _ _ => rfl) (exec_oCmpgeRmRn · · · · · · s),
    oprexRow_cmp cmpHi (fun _ _ _ _ _ _ => rfl) (exec_oCmphiRmRn · · · · · · s),
    oprexRow_cmp cmpGt (fun _ _ _ _ _ _ => rfl) (exec_oCmpgtRmRn · · · · · · s),
    oprexRow_bin aluSub (fun _ _ _ _ _ _ => rfl) (exec_oSubRmRn · · · · · · s), ?subc, ?subv,
    oprexRow_bin aluAdd (fun _ _ _ _ _ _ => rfl) (exec_oAddRmRn · · · · · · s), ?addc, ?addv,
    oprexRow_bin aluMov (fun _ _ _ _ _ _ => rfl) (exec_oMovRmRn · · · · · · s),
    oprexRow_bin aluNot (fun _ _ _ _ _ _ => rfl) (exec_oNotRmRn · · · · · · s), ?negc, ?neg, ?extuB, ?extuW, ?extsB,
    ?extsW, fun n nx mx bx imm hd hrh => ?movHalf, fun n mx bx imm hd hj => ?movQuad,
    fun n mx bx imm hrh => raises_wide_illegal (State.oprexCheck_missing rfl hrh _ _ _)
      (exec_oMovImm10Rn false true mx bx n imm s),
    fun n mx bx imm hj => raises_wide_illegal (State.oprexCheck_not_jq hj _ _ _ _)
      (exec_oMovImm10Rn true false mx bx n imm s)⟩
  case subc =>
    exact oprexRow_binT aluSubc (fun _ _ _ _ _ _ => rfl) (exec_oSubcRmRn · · · · · · s)
      (fun _ _ _ _ => by rw [State.opx_half, lo32_zx32]; rfl) fun _ _ _ => rfl
  case subv =>
    exact oprexRow_binT aluSubv (fun _ _ _ _ _ _ => rfl) (exec_oSubvRmRn · · · · · · s)
      (fun _ _ _ _ => by rw [State.opx_half, lo32_zx32]; rfl) fun _ _ _ => rfl
  case addc =>
    exact oprexRow_binT aluAddc (fun _ _ _ _ _ _ => rfl) (exec_oAddcRmRn · · · · · · s)
      (fun _ _ _ _ => by rw [State.opx_half, lo32_zx32]; rfl) fun _ _ _ => rfl
  case addv =>
    exact oprexRow_binT aluAddv (fun _ _ _ _ _ _ => rfl) (exec_oAddvRmRn · · · · · · s)
      (fun _ _ _ _ => by rw [State.opx_half, lo32_zx32]; rfl) fun _ _ _ => rfl
  case negc =>
    exact oprexRow_binT (a := fun _ _ _ => 0) aluSubc (fun _ _ _ _ _ _ => rfl) (exec_oNegcRmRn · · · · · · s)
      (fun _ _ _ _ => by rw [show lo32 0 = 0 from rfl, aluSubc_zero]) fun _ _ _ => by rw [aluSubc_zero]
  case neg =>
    exact oprexRow_result (f := fun _ _ b => -b) (fun _ _ _ _ _ _ => rfl) (exec_oNegRmRn · · · · · · s)
      (fun _ _ _ _ => by simp [binQ, aluNeg_eq_neg]) fun _ _ => by simp [binQ, aluNeg_eq_neg]
  case extuB =>
    exact oprexRow_result (f := fun w _ b => (b.setWidth 8).setWidth w) (fun _ _ _ _ _ _ => rfl)
      (exec_oExtuBRmRn · · · · · · s) (fun _ mx _ m => lo32_zxN_zx32 (s.half mx m) (by decide)) fun _ _ => rfl
  case extuW =>
    exact oprexRow_result (f := fun w _ b => (b.setWidth 16).setWidth w) (fun _ _ _ _ _ _ => rfl)
      (exec_oExtuWRmRn · · · · · · s) (fun _ mx _ m => lo32_zxN_zx32 (s.half mx m) (by decide)) fun _ _ => rfl
  case extsB =>
    exact oprexRow_result (f := fun w _ b => (b.setWidth 8).signExtend w) (fun _ _ _ _ _ _ => rfl)
      (exec_oExtsBRmRn · · · · · · s) (fun _ mx _ m => lo32_sxN_zx32 (s.half mx m) (by decide)) fun _ _ => rfl
  case extsW =>
    exact oprexRow_result (f := fun w _ b => (b.setWidth 16).signExtend w) (fun _ _ _ _ _ _ => rfl)
      (exec_oExtsWRmRn · · · · · · s) (fun _ mx _ m => lo32_sxN_zx32 (s.half mx m) (by decide)) fun _ _ => rfl
  case movHalf =>
    have hrh' : (nx || false) = true → s.hasRh = true := by rwa [Bool.or_false]
    exact does_wide hd (congrArg _ (lo32_signExtend _))
      ((exec_oMovImm10Rn false nx mx bx n imm s).trans (congrArg _ (State.oprexCheck_half hrh' _)))
  case movQuad =>
    exact does_wide hd rfl
      ((exec_oMovImm10Rn true false mx bx n imm s).trans (congrArg _ (State.oprexCheck_quad hj _)))

end Sys2Proof.Machine
end

section
/-! PROOFS. TACB, the three-address forms (statement O58). -/
namespace Sys2Proof.Machine

/-! ### The checks of TACB -/

section
variable {s : State}

theorem State.tacbCheck_half {nx sx tx : Bool} (h : (nx || sx || tx) = true → s.hasRh = true) (r : Res State) :
    s.tacbCheck nx sx tx r = r :=
  require_true (not_or_of_imp h) r

theorem State.tacbCheck_missing {nx sx tx : Bool} (hx : (nx || sx || tx) = true) (h : s.hasRh = false)
    (r : Res State) : s.tacbCheck nx sx tx r = illegal :=
  require_false (by rw [hx, h]; rfl) r

end

/-! ### Register rows -/

section
variable {op : Nib} {i32 : Bool → Bool → Bool → Nib → Nib → Nib → Instr} {i64 : Nib → Nib → Nib → Instr} {s : State}

/-- A register row whose effects `t32` and `t64` are those of `f` where `ok` holds of the second operand (rules R910,
R911). -/
theorem tacbRow {ok : (w : Nat) → BitVec w → Prop} {f : (w : Nat) → BitVec w → BitVec w → BitVec w}
    {t32 : Bool → Bool → Bool → Nib → Nib → Nib → State} {t64 : Nib → Nib → Nib → State}
    (he32 : ∀ nx sx tx n a b,
      encode (i32 nx sx tx n a b) = [mk4 0x8#4 0xC#4 0x3#4 (bits4 false nx sx tx), mk4 op n a b])
    (he64 : ∀ n a b, encode (i64 n a b) = [mk4 0x8#4 0xC#4 0x3#4 0x8#4, mk4 op n a b])
    (hx32 : ∀ nx sx tx n a b, exec (i32 nx sx tx n a b) s = wide (firstWord (i32 nx sx tx n a b)) s
      (s.tacbCheck nx sx tx (.ok (t32 nx sx tx n a b))))
    (hx64 : ∀ n a b, exec (i64 n a b) s = wide (firstWord (i64 n a b)) s (s.needJq (.ok (t64 n a b))))
    (h32 : ∀ nx sx tx n a b, ok 32 (s.half tx b) →
      t32 nx sx tx n a b = s.setHalf nx n (f 32 (s.half sx a) (s.half tx b)))
    (h64 : ∀ n a b, ok 64 (s.r b) → t64 n a b = s.setR n (f 64 (s.r a) (s.r b))) : TacbRow op i32 i64 s ok f := by
  refine fun n a b => ⟨fun nx sx tx hd hrh hok => ?half, fun hd hj hok => ?quad, fun nx sx tx h hrh => ?missing,
    fun hj => ?notJq⟩
  case half =>
    rw [← he32]
    exact does_wide hd (h32 nx sx tx n a b hok)
      ((hx32 nx sx tx n a b).trans (congrArg _ (State.tacbCheck_half hrh _)))
  case quad =>
    rw [← he64]
    exact does_wide hd (h64 n a b hok) ((hx64 n a b).trans (congrArg _ (State.needJq_of_jq hj _)))
  case missing => exact raises_wide_illegal (State.tacbCheck_missing h hrh _) (hx32 nx sx tx n a b)
  case notJq => exact raises_wide_illegal (State.needJq_of_not_jq hj _) (hx64 n a b)

/-- A binary operation, whatever its operands. -/
theorem tacbRow_bin (f : (w : Nat) → BitVec w → BitVec w → BitVec w)
    (he32 : ∀ nx sx tx n a b,
      encode (i32 nx sx tx n a b) = [mk4 0x8#4 0xC#4 0x3#4 (bits4 false nx sx tx), mk4 op n a b])
    (he64 : ∀ n a b, encode (i64 n a b) = [mk4 0x8#4 0xC#4 0x3#4 0x8#4, mk4 op n a b])
    (hx32 : ∀ nx sx tx n a b, exec (i32 nx sx tx n a b) s = wide (firstWord (i32 nx sx tx n a b)) s
      (s.tacbCheck nx sx tx (.ok (s.setOpx false nx n (binQ false f (s.opx false sx a) (s.opx false tx b))))))
    (hx64 : ∀ n a b, exec (i64 n a b) s = wide (firstWord (i64 n a b)) s
      (s.needJq (.ok (s.setR n (binQ true f (s.r a) (s.r b)))))) :
    TacbRow op i32 i64 s (fun _ _ => True) f :=
  tacbRow he32 he64 hx32 hx64 (fun _ _ _ _ _ _ _ => by simp [binQ]) fun _ _ _ _ => rfl

end

/-! ### Shifts by a register -/

section
variable (s : State) (nx sx tx : Bool) (n a b : Reg) (f : (w : Nat) → BitVec w → BitVec w → BitVec w)

/-- The top bit of a count that is not negative is clear. -/
theorem msb_of_nonneg {w : Nat} {x : BitVec w} (h : 0 ≤ x.toInt) : x.msb = false := by
  rw [BitVec.msb_eq_toInt]
  exact decide_eq_false (by omega)

theorem msb_of_neg {w : Nat} {x : BitVec w} (h : x.toInt < 0) : x.msb = true := by
  rw [BitVec.msb_eq_toInt]
  exact decide_eq_true h

theorem State.tacbShift_half (h : 0 ≤ (s.half tx b).toInt) :
    s.tacbShift false nx sx tx n a b f = s.setHalf nx n (f 32 (s.half sx a) (s.half tx b)) := by
  simp [State.tacbShift, cmpQ, binQ, msb_of_nonneg h]

theorem State.tacbShift_quad (h : 0 ≤ (s.r b).toInt) :
    s.tacbShift true nx sx tx n a b f = s.setR n (f 64 (s.r a) (s.r b)) := by
  simp [State.tacbShift, cmpQ, binQ, msb_of_nonneg h]

/-- A negative count writes a free value (log 14). -/
theorem State.tacbShift_half_neg (h : (s.half tx b).toInt < 0) :
    s.tacbShift false nx sx tx n a b f = s.draw.2.setHalf nx n (lo32 s.draw.1) := by
  simp [State.tacbShift, cmpQ, msb_of_neg h]

theorem State.tacbShift_quad_neg (h : (s.r b).toInt < 0) :
    s.tacbShift true nx sx tx n a b f = s.draw.2.setR n s.draw.1 := by
  simp [State.tacbShift, cmpQ, msb_of_neg h]

end

/-! ### Immediates -/

section
variable {i : Instr} {s : State} {n : Reg}

/-- The immediate of ADD and SUB at 32 bits (rule R910, log 27). -/
theorem State.lo32_tacbImm {w : Nat} (s : State) (imm : BitVec w) :
    lo32 (s.tacbImm imm) = if s.cfg.tacbImmSigned then imm.signExtend 32 else imm.setWidth 32 := by
  unfold State.tacbImm
  split
  · exact lo32_signExtend imm
  · exact lo32_setWidth imm

/-- A quad row that needs JQ = 1. -/
theorem does_wide_needJq {u : State} (hd : s.ds = none) (hj : s.jq = true)
    (hx : exec i s = wide (firstWord i) s (s.needJq (.ok u))) : Does (encode i) i s (s.done32 u) :=
  does_wide hd rfl (hx.trans (congrArg _ (State.needJq_of_jq hj _)))

theorem raises_wide_needJq {r : Res State} (hj : s.jq = false)
    (hx : exec i s = wide (firstWord i) s (s.needJq r)) : Raises i s .illegal :=
  raises_wide_illegal (State.needJq_of_not_jq hj r) hx

end

/-- Settles O58: the register rows by the lemma about their kind, the shifts where their count is not negative; a negative
one draws a value. -/
theorem threeAddressForms : Obligations.ThreeAddressForms := by
  intro s
  refine ⟨tacbRow_bin aluAdd (fun _ _ _ _ _ _ => rfl) (fun _ _ _ => rfl) (exec_tAddRsRtRn · · · · · · s)
      (exec_tAddRsRtRnQuad · · · s),
    tacbRow_bin aluSub (fun _ _ _ _ _ _ => rfl) (fun _ _ _ => rfl) (exec_tSubRsRtRn · · · · · · s)
      (exec_tSubRsRtRnQuad · · · s),
    tacbRow_bin aluMul (fun _ _ _ _ _ _ => rfl) (fun _ _ _ => rfl) (exec_tMulRsRtRn · · · · · · s)
      (exec_tMulRsRtRnQuad · · · s),
    tacbRow_bin aluAnd (fun _ _ _ _ _ _ => rfl) (fun _ _ _ => rfl) (exec_tAndRsRtRn · · · · · · s)
      (exec_tAndRsRtRnQuad · · · s),
    tacbRow_bin aluOr (fun _ _ _ _ _ _ => rfl) (fun _ _ _ => rfl) (exec_tOrRsRtRn · · · · · · s)
      (exec_tOrRsRtRnQuad · · · s),
    tacbRow_bin aluXor (fun _ _ _ _ _ _ => rfl) (fun _ _ _ => rfl) (exec_tXorRsRtRn · · · · · · s)
      (exec_tXorRsRtRnQuad · · · s),
    tacbRow_bin aluShll (fun _ _ _ _ _ _ => rfl) (fun _ _ _ => rfl) (exec_tShllRsRtRn · · · · · · s)
      (exec_tShllRsRtRnQuad · · · s),
    tacbRow (fun _ _ _ _ _ _ => rfl) (fun _ _ _ => rfl) (exec_tShlrRsRtRn · · · · · · s)
      (exec_tShlrRsRtRnQuad · · · s) (fun nx sx tx n a b h => ?shlr) fun n a b h => ?shlrQuad,
    tacbRow (fun _ _ _ _ _ _ => rfl) (fun _ _ _ => rfl) (exec_tSharRsRtRn · · · · · · s)
      (exec_tSharRsRtRnQuad · · · s) (fun nx sx tx n a b h => ?shar) fun n a b h => ?sharQuad,
    fun nx sx tx n a b hd hrh h => ⟨lo32 s.draw.1, ?shlrNeg⟩, fun n a b hd hj h => ⟨s.draw.1, ?shlrQuadNeg⟩,
    fun nx sx tx n a b hd hrh h => ⟨lo32 s.draw.1, ?sharNeg⟩, fun n a b hd hj h => ⟨s.draw.1, ?sharQuadNeg⟩,
    fun tx n rs rt hd => ?addL, fun sx tx n rs rt hd hj => does_wide_needJq hd hj (exec_tAddQRsImm6Rn sx tx n rs rt s),
    fun tx n rs rt hd => ?subL, fun sx tx n rs rt hd hj => does_wide_needJq hd hj (exec_tSubQRsImm6Rn sx tx n rs rt s),
    fun tx n rs rt hd => does_wide hd (congrArg _ (lo32_zx32 _)) (exec_tShllLRsImm5Rn tx n rs rt s),
    fun sx tx n rs rt hd hj => does_wide_needJq hd hj (exec_tShllQRsImm6Rn sx tx n rs rt s),
    fun tx n rs rt hd => does_wide hd (congrArg _ (lo32_zx32 _)) (exec_tShlrLRsImm5Rn tx n rs rt s),
    fun sx tx n rs rt hd hj => does_wide_needJq hd hj (exec_tShlrQRsImm6Rn sx tx n rs rt s),
    fun tx n rs rt hd => does_wide hd (congrArg _ (lo32_zx32 _)) (exec_tSharLRsImm5Rn tx n rs rt s),
    fun sx tx n rs rt hd hj => does_wide_needJq hd hj (exec_tSharQRsImm6Rn sx tx n rs rt s),
    fun sx tx n rs rt hj => raises_wide_needJq hj (exec_tAddQRsImm6Rn sx tx n rs rt s),
    fun sx tx n rs rt hj => raises_wide_needJq hj (exec_tSubQRsImm6Rn sx tx n rs rt s),
    fun sx tx n rs rt hj => raises_wide_needJq hj (exec_tShllQRsImm6Rn sx tx n rs rt s),
    fun sx tx n rs rt hj => raises_wide_needJq hj (exec_tShlrQRsImm6Rn sx tx n rs rt s),
    fun sx tx n rs rt hj => raises_wide_needJq hj (exec_tSharQRsImm6Rn sx tx n rs rt s)⟩
  case shlr => rw [s.tacbShift_half nx sx tx n a b _ h, aluShlr_eq (by decide) _ _ h]
  case shlrQuad => rw [s.tacbShift_quad false false false n a b _ h, aluShlr_eq (by decide) _ _ h]
  case shar => rw [s.tacbShift_half nx sx tx n a b _ h, aluShar_eq (by decide) _ _ h]
  case sharQuad => rw [s.tacbShift_quad false false false n a b _ h, aluShar_eq (by decide) _ _ h]
  case shlrNeg =>
    rw [exec_tShlrRsRtRn, execTShlrRsRtRn, State.tacbCheck_half hrh, s.tacbShift_half_neg nx sx tx n a b _ h]
    exact wide_ok hd _ _
  case shlrQuadNeg =>
    rw [exec_tShlrRsRtRnQuad, execTShlrRsRtRnQuad, State.needJq_of_jq hj,
      s.tacbShift_quad_neg false false false n a b _ h]
    exact wide_ok hd _ _
  case sharNeg =>
    rw [exec_tSharRsRtRn, execTSharRsRtRn, State.tacbCheck_half hrh, s.tacbShift_half_neg nx sx tx n a b _ h]
    exact wide_ok hd _ _
  case sharQuadNeg =>
    rw [exec_tSharRsRtRnQuad, execTSharRsRtRnQuad, State.needJq_of_jq hj,
      s.tacbShift_quad_neg false false false n a b _ h]
    exact wide_ok hd _ _
  case addL =>
    have himm := s.lo32_tacbImm (imm5 tx rt)
    exact does_wide hd (congrArg (s.setHalf false n) ((lo32_zx32 _).trans (congrArg (lo32 (s.r rs) + ·) himm)))
      (exec_tAddLRsImm5Rn tx n rs rt s)
  case subL =>
    have himm := s.lo32_tacbImm (imm5 tx rt)
    exact does_wide hd (congrArg (s.setHalf false n) ((lo32_zx32 _).trans (congrArg (lo32 (s.r rs) - ·) himm)))
      (exec_tSubLRsImm5Rn tx n rs rt s)

end Sys2Proof.Machine
end
